-- ==== Sys2Proof/Word.lean ====
section
/-! DEFINITION. The words of the link and the number ranges of the FD-418. -/

namespace Sys2Proof

/-- One byte of a frame on the link (R190, R191). -/
abbrev Byte := BitVec 8

/-- A ticket number, 0 to 23 (R1). -/
abbrev TicketNo := Fin 24

/-- A thermistor channel, T0 to T5 (R27). -/
abbrev ChannelNo := Fin 6

/-- A heater, H0 to H4 (R48). -/
abbrev HeaterNo := Fin 5

end Sys2Proof
end

