-- ==== Sys2Proof/Syntax.lean ====
section
/-! DEFINITION. The commands of the FD-418: one constructor per row of spec/opcode_table.json.

Every command carries, as its first operand `dt`, the microseconds that pass between the taking of the command before it
and its own (DESIGN CHOICE, log 2). The table gives no row any operand; the operands here are what the rule of the row
says the event carries: a frame's TAG and payload, the bytes on RXD, a raw value, the new state of an input. -/

namespace Sys2Proof

/-- The two paddles (R125). -/
inductive Paddle where
  | water | ice
deriving DecidableEq, Repr

/-- The debounced states of the freezer door (Table 2-6). -/
inductive Door where
  | opened | closed
deriving DecidableEq, Repr

/-- The debounced states of a paddle (Table 2-6). -/
inductive PaddleState where
  | pressed | released
deriving DecidableEq, Repr

/-- The debounced states of the ejector home switch and the chute-flap open switch (Table 2-6). -/
inductive Contact where
  | made | released
deriving DecidableEq, Repr

/-- The level that the bin beam has held for its filter time (R43). -/
inductive BeamLevel where
  | blocked | clear
deriving DecidableEq, Repr

/-- A first reading after a reset: which of the five inputs of Table 2-6, and the state it is read in (R42). -/
inductive FirstReading where
  | door (d : Door)
  | paddle (pad : Paddle) (st : PaddleState)
  | home (c : Contact)
  | flap (c : Contact)
deriving DecidableEq, Repr

/-- The commands: one constructor per row of spec/opcode_table.json, in the table's order. A host command's constructor
stands for a valid frame of that kind with this TAG and payload, taken at this moment (log 5). -/
inductive Instr where
  | ping (dt : Nat) (tag : Byte) (payload : List Byte)
  | status (dt : Nat) (tag : Byte) (payload : List Byte)
  | readNotices (dt : Nat) (tag : Byte) (payload : List Byte)
  | setNoticeMask (dt : Nat) (tag : Byte) (payload : List Byte)
  | restart (dt : Nat) (tag : Byte) (payload : List Byte)
  | setParam (dt : Nat) (tag : Byte) (payload : List Byte)
  | getParam (dt : Nat) (tag : Byte) (payload : List Byte)
  | loadCurve (dt : Nat) (tag : Byte) (payload : List Byte)
  | getCurve (dt : Nat) (tag : Byte) (payload : List Byte)
  | setLoad (dt : Nat) (tag : Byte) (payload : List Byte)
  | getLoads (dt : Nat) (tag : Byte) (payload : List Byte)
  | setRotation (dt : Nat) (tag : Byte) (payload : List Byte)
  | lockLimits (dt : Nat) (tag : Byte) (payload : List Byte)
  | submit (dt : Nat) (tag : Byte) (payload : List Byte)
  | cancel (dt : Nat) (tag : Byte) (payload : List Byte)
  | fetch (dt : Nat) (tag : Byte) (payload : List Byte)
  | ticketInfo (dt : Nat) (tag : Byte) (payload : List Byte)
  | poolStatus (dt : Nat) (tag : Byte) (payload : List Byte)
  | readSensors (dt : Nat) (tag : Byte) (payload : List Byte)
  | readSensorsFreshReply (dt : Nat)
  | clearLeak (dt : Nat) (tag : Byte) (payload : List Byte)
  | filterReset (dt : Nat) (tag : Byte) (payload : List Byte)
  | getTotals (dt : Nat) (tag : Byte) (payload : List Byte)
  | restoreTotals (dt : Nat) (tag : Byte) (payload : List Byte)
  | iceControlPark (dt : Nat) (tag : Byte)
  | iceControlRun (dt : Nat) (tag : Byte)
  | iceControlResume (dt : Nat) (tag : Byte)
  | iceControlHarvestNow (dt : Nat) (tag : Byte)
  | compressor (dt : Nat) (tag : Byte) (payload : List Byte)
  | defrostReplyGo (dt : Nat) (tag minutes : Byte)
  | defrostReplyDefer (dt : Nat) (tag minutes : Byte)
  | defrostForce (dt : Nat) (tag : Byte) (payload : List Byte)
  | defrostAbort (dt : Nat) (tag : Byte) (payload : List Byte)
  | defrostLog (dt : Nat) (tag : Byte) (payload : List Byte)
  | unknownKindCommand (dt : Nat) (kind tag : Byte) (payload : List Byte)
  | frameReceived (dt : Nat) (bytes : List Byte)
  | gapTimeout (dt : Nat)
  | replySent (dt : Nat)
  | silenceExpiry (dt : Nat)
  | powerOn (dt : Nat)
  | lineReset (dt : Nat)
  | resetEnd (dt : Nat)
  | partSecondsAdvance (dt : Nat)
  | conversionEnd (dt : Nat) (raw : BitVec 16)
  | switchFirstReading (dt : Nat) (reading : FirstReading)
  | paddlePress (dt : Nat) (pad : Paddle)
  | paddleRelease (dt : Nat) (pad : Paddle)
  | doorOpening (dt : Nat)
  | doorClosing (dt : Nat)
  | homeSwitchChange (dt : Nat) (c : Contact)
  | flapSwitchChange (dt : Nat) (c : Contact)
  | beamFilterChange (dt : Nat) (level : BeamLevel)
  | flowPulse (dt : Nat)
  | flowPeriodTimeout (dt : Nat)
  | tachPulse (dt : Nat)
  | internalRedraw (dt : Nat)
  | lineGrant (dt : Nat)
  | fillResume (dt : Nat)
  | lineSettleEnd (dt : Nat)
  | openTimeLimit (dt : Nat)
  | noFlowExpiry (dt : Nat)
  | dryRetryEnd (dt : Nat)
  | homingDeadline (dt : Nat)
  | minFreezeReached (dt : Nat)
  | faultFreezeTime (dt : Nat)
  | harvestStart (dt : Nat)
  | moldHeatLimitExpiry (dt : Nat)
  | leaveHomeDeadline (dt : Nat)
  | ejectReturnDeadline (dt : Nat)
  | ejectRetryTimer (dt : Nat)
  | iceSettleEnd (dt : Nat)
  | headStart (dt : Nat)
  | flapOpenDeadline (dt : Nat)
  | flapCloseEnd (dt : Nat)
  | runTargetReached (dt : Nat)
  | runningTimeLimit (dt : Nat)
  | jamWindowExpiry (dt : Nat)
  | reverseEnd (dt : Nat)
  | flapHoldEnd (dt : Nat)
  | pauseTimerEnd (dt : Nat)
  | chuteTestHoldEnd (dt : Nat)
  | ductTimerEnd (dt : Nat)
  | deferTimerEnd (dt : Nat)
  | wantLimitReached (dt : Nat)
  | silentWantLimit (dt : Nat)
  | defrostHeatingStart (dt : Nat)
  | defrostHeatLimitExpiry (dt : Nat)
  | dwellEnd (dt : Nat)
  | recoverLimitExpiry (dt : Nat)
deriving DecidableEq, Repr

end Sys2Proof
end

