-- ==== Sys2Proof/Config.lean ====
section
/-! DEFINITION. The free values: what the spec leaves open and the part goes on with. Each is a constant without a body,
applied to the part's free-value counter, so that no proof can know what it is (log 10 to 13 and 15). -/

namespace Sys2Proof

/-- The level of the bin beam at the k-th reading: blocked (true) or clear, while no row has told it since the reset
(R39, R43; log 10). -/
opaque Config.freeBeamBlocked : Nat → Bool

/-- The part seconds count after FFFFFFFFH, which no rule states (Table 0-2; log 11). -/
opaque Config.freePartSeconds : Nat → BitVec 32

/-- Whether the service-slot test ends ahead of the dispenser tickets at a silence expiry (R12, R182; log 12). -/
opaque Config.freeTestEndsFirst : Nat → Bool

/-- The flow rate for a flow period of 0 µs, where the quotient of R45 has no value (log 13). -/
opaque Config.freeFlowRate : Nat → BitVec 16

/-- The two bytes given for an absent amount in a TICKET_INFO reply (R208; log 15). -/
opaque Config.freeAbsentAmount : Nat → BitVec 16

end Sys2Proof
end

