-- ==== Sys2Proof/Machine/Types.lean ====
section
/-! DEFINITION. The names the manual gives: kinds, states, outcomes, codes, and the parameters of Table 8-1. -/

namespace Sys2Proof.Machine

/-- The three kinds of reset (R184, R185, R186). -/
inductive ResetKind where
  | powerOn | lineReset | restart
deriving DecidableEq, Repr

/-- The status codes of Table 9-4. -/
inductive Status where
  | ok | unknownKind | badLength | range | state | locked | noTicket | queueFull | notFound
deriving DecidableEq, Repr

/-- The receive errors of Table 9-1. -/
inductive LinkError where
  | gap | length | check | overrun
deriving DecidableEq, Repr

/-- The 14 notices of Table 9-5, in the order of their positions. -/
inductive Notice where
  | restarted | completion | defrostWanted | defrostDone | fanRelease | iceFault | lineDry | leak | sensorFault
  | silenceTrip | completionsDropped | filterDue | linkError | chuteFault
deriving DecidableEq, Repr

/-- The nine ticket kinds of Table 1-2. -/
inductive TicketKind where
  | waterPortion | waterHold | icePortion | iceHold | flush | loadTest | moldFill | harvest | defrostCycle
deriving DecidableEq, Repr

/-- Who caused a ticket to be drawn (R2). -/
inductive Origin where
  | link | paddle | iceMaker | defrost
deriving DecidableEq, Repr

/-- The ticket states (R5). -/
inductive TicketState where
  | free | queued | active | stopping | done
deriving DecidableEq, Repr

/-- The sixteen outcomes of Table 1-5. -/
inductive TicketOutcome where
  | complete | released | cancelled | doorOpen | noWater | timeout | leak | jam | chuteFault | warm | linkLost | sensor
  | stall | heatLimit | aborted | parked
deriving DecidableEq, Repr

/-- CUBED or CRUSHED (R3). -/
inductive Form where
  | cubed | crushed
deriving DecidableEq, Repr

/-- The load under test (R3). -/
inductive Load where
  | heater (h : HeaterNo) | ejector | chute | auger
deriving DecidableEq, Repr

/-- The classes of a raw value (Table 2-2). -/
inductive ConvClass where
  | short | opened | good
deriving DecidableEq, Repr

/-- The reading status of Table 2-3. -/
inductive ReadingStatus where
  | notReady | ok | range | fault
deriving DecidableEq, Repr

/-- The two curve classes (R35). -/
inductive CurveClass where
  | a | b
deriving DecidableEq, Repr

/-- The filtered state of the bin beam (R43). -/
inductive BeamFilter where
  | full | notFull
deriving DecidableEq, Repr

/-- The result a demanded heater receives at a boundary (R55). -/
inductive SlotResult where
  | granted | denied | offSlot
deriving DecidableEq, Repr

/-- The line states of Table 4-1. -/
inductive LineState where
  | idle | opened | held | settle
deriving DecidableEq, Repr

/-- The users of the line (R66). -/
inductive LineUser where
  | fill | dispense
deriving DecidableEq, Repr

/-- What ended a work on the line (R79). A release names the claimant's reason (R78). -/
inductive EndingReason where
  | target | timeout | noWater | withdrawn
  | release (o : TicketOutcome)
deriving DecidableEq, Repr

/-- The supply state (R84). -/
inductive Supply where
  | ok | dry
deriving DecidableEq, Repr

/-- The filter status (Table 4-3). -/
inductive FilterStatus where
  | good | soon | due
deriving DecidableEq, Repr

/-- The ice maker states of Table 5-1. -/
inductive IceState where
  | homing | parked | fillWait | filling | freezing | harvestWait | harvestHeat | eject | settle | fault
deriving DecidableEq, Repr

/-- The outlet states of Table 6-1. -/
inductive OutletState where
  | idle | lineWait | opening | running | paused | stopping | closing
deriving DecidableEq, Repr

/-- The flap positions (R130). -/
inductive FlapPosition where
  | closed | opening | opened | closing
deriving DecidableEq, Repr

/-- The defrost states of Table 7-1. -/
inductive DefrostState where
  | accruing | wanted | deferred | prep | heating | dwell | recover
deriving DecidableEq, Repr

/-- The end reason of a defrost cycle (R162, R169). -/
inductive EndReason where
  | terminated | heatLimit | aborted | sensor | reset
deriving DecidableEq, Repr

/-- A point of a curve table: a count and a temperature in steps of 0.1 °C (R35). -/
structure CurvePoint where
  count : Nat
  temp : Int
deriving DecidableEq, Repr

/-- The parameters of Table 8-1, by name; the class parameters by their channel. -/
inductive Param where
  | heaterBudget | silenceLimit | flowK | fillVolume | fillOpenLimit | dispenseOpenLimit | noFlowWindow | dryRetry
  | leakPulses | leakWindow | filterLimitL | filterLimitDays | cubesPerHarvest | binCapacity | augerRate | harvestTemp
  | freezeHold | minFreeze | releaseTemp | moldHeatLimit | ejectLimit | chuteHold | ductAfter | doorPauseLimit
  | waterColdLimit | defrostMinH | defrostMaxH | defrostStartH | doorWeight | fillWeight | terminateTemp
  | defrostHeatLimit | dripTime | fanStartTemp | recoverLimit | shortHeat | longHeat | adaptStep | wantLimit
  | channelClass (ch : ChannelNo)
  | iceForm
deriving DecidableEq, Repr

/-- The parameter store: one accepted value for each parameter, in its unit; a temperature in steps of 0.1 °C (R174). -/
structure Params where
  heaterBudget : Nat
  silenceLimit : Nat
  flowK : Nat
  fillVolume : Nat
  fillOpenLimit : Nat
  dispenseOpenLimit : Nat
  noFlowWindow : Nat
  dryRetry : Nat
  leakPulses : Nat
  leakWindow : Nat
  filterLimitL : Nat
  filterLimitDays : Nat
  cubesPerHarvest : Nat
  binCapacity : Nat
  augerRate : Nat
  harvestTemp : Int
  freezeHold : Nat
  minFreeze : Nat
  releaseTemp : Int
  moldHeatLimit : Nat
  ejectLimit : Nat
  chuteHold : Nat
  ductAfter : Nat
  doorPauseLimit : Nat
  waterColdLimit : Int
  defrostMinH : Nat
  defrostMaxH : Nat
  defrostStartH : Nat
  doorWeight : Nat
  fillWeight : Nat
  terminateTemp : Int
  defrostHeatLimit : Nat
  dripTime : Nat
  fanStartTemp : Int
  recoverLimit : Nat
  shortHeat : Nat
  longHeat : Nat
  adaptStep : Nat
  wantLimit : Nat
  classes : Vector CurveClass 6
  iceForm : Form
deriving DecidableEq, Repr

/-- A row of Table 8-1: the range, the step and the L mark. -/
structure ParamSpec where
  lo : Int
  hi : Int
  step : Int
  locked : Bool
deriving DecidableEq, Repr

/-- The configuration of a heater: rated watts, period P and duty D (R48). -/
structure HeaterConfig where
  watts : Nat
  period : Nat
  duty : Nat
deriving DecidableEq, Repr

/-- Time counted while something lasts: what has been counted, and since when it is counting, in microseconds. -/
structure Stopwatch where
  counted : Nat := 0
  since : Option Nat := none
deriving DecidableEq, Repr

/-- A channel's reading (R32). -/
structure Reading where
  status : ReadingStatus
  temp : Option Int
  mean : Option Nat
  last : Option ConvClass
deriving DecidableEq, Repr

/-- The answer of a command's owner: the status and the reply data that follow STATUS and ROOM (R195). -/
structure Answer where
  status : Status
  data : List Byte := []
deriving DecidableEq, Repr

end Sys2Proof.Machine
end

