-- ==== Sys2Proof/Machine/Defaults.lean ====
section
/-! DEFINITION. The tables of values the manual gives for power-on and line reset: Tables 2-4, 3-1, 3-4 and 8-1. -/

namespace Sys2Proof.Machine

/-- The default curve of both classes (Table 2-4, R35). -/
def defaultCurve : List CurvePoint :=
  [⟨3000, 600⟩, ⟨5200, 400⟩, ⟨9800, 200⟩, ⟨12700, 100⟩, ⟨16800, 0⟩, ⟨22600, -100⟩, ⟨31000, -200⟩, ⟨43500, -300⟩,
    ⟨62000, -400⟩]

/-- The heater configuration after power-on and line reset (Table 3-1, R48). -/
def defaultHeaterConfig : Vector HeaterConfig 5 :=
  #v[⟨250, 1, 1⟩, ⟨30, 1, 1⟩, ⟨185, 1, 1⟩, ⟨15, 4, 4⟩, ⟨10, 8, 3⟩]

/-- The default rotation table (Table 3-4, R59). -/
def defaultRotation : Vector (Option HeaterNo) 16 :=
  #v[some 0, some 2, some 0, some 3, some 0, some 4, some 0, some 1, some 0, some 2, some 0, some 3, some 0, some 4,
    some 0, some 1]

/-- The default column of Table 8-1 (R174). -/
def defaultParams : Params where
  heaterBudget := 300
  silenceLimit := 30
  flowK := 2000
  fillVolume := 120
  fillOpenLimit := 20
  dispenseOpenLimit := 90
  noFlowWindow := 3
  dryRetry := 60
  leakPulses := 6
  leakWindow := 30
  filterLimitL := 1500
  filterLimitDays := 180
  cubesPerHarvest := 8
  binCapacity := 240
  augerRate := 25
  harvestTemp := -120
  freezeHold := 300
  minFreeze := 30
  releaseTemp := 20
  moldHeatLimit := 240
  ejectLimit := 12
  chuteHold := 4
  ductAfter := 60
  doorPauseLimit := 10
  waterColdLimit := 80
  defrostMinH := 6
  defrostMaxH := 72
  defrostStartH := 8
  doorWeight := 4
  fillWeight := 3
  terminateTemp := 80
  defrostHeatLimit := 35
  dripTime := 5
  fanStartTemp := -50
  recoverLimit := 10
  shortHeat := 12
  longHeat := 25
  adaptStep := 2
  wantLimit := 0
  classes := #v[.a, .a, .a, .a, .a, .a]
  iceForm := .cubed

/-- The ranges, steps and L marks of Table 8-1. -/
def Param.spec : Param → ParamSpec
  | .heaterBudget => ⟨50, 600, 5, true⟩
  | .silenceLimit => ⟨0, 120, 1, true⟩
  | .flowK => ⟨500, 5000, 1, true⟩
  | .fillVolume => ⟨60, 200, 1, false⟩
  | .fillOpenLimit => ⟨5, 30, 1, true⟩
  | .dispenseOpenLimit => ⟨10, 300, 1, true⟩
  | .noFlowWindow => ⟨1, 10, 1, false⟩
  | .dryRetry => ⟨10, 600, 1, false⟩
  | .leakPulses => ⟨2, 50, 1, true⟩
  | .leakWindow => ⟨5, 120, 1, true⟩
  | .filterLimitL => ⟨100, 4000, 1, false⟩
  | .filterLimitDays => ⟨30, 400, 1, false⟩
  | .cubesPerHarvest => ⟨4, 16, 1, false⟩
  | .binCapacity => ⟨40, 400, 1, false⟩
  | .augerRate => ⟨5, 60, 1, false⟩
  | .harvestTemp => ⟨-250, -50, 1, false⟩
  | .freezeHold => ⟨60, 1200, 1, false⟩
  | .minFreeze => ⟨10, 120, 1, false⟩
  | .releaseTemp => ⟨-50, 100, 1, false⟩
  | .moldHeatLimit => ⟨30, 600, 1, true⟩
  | .ejectLimit => ⟨4, 30, 1, false⟩
  | .chuteHold => ⟨1, 10, 1, false⟩
  | .ductAfter => ⟨0, 300, 1, false⟩
  | .doorPauseLimit => ⟨2, 60, 1, false⟩
  | .waterColdLimit => ⟨0, 150, 1, false⟩
  | .defrostMinH => ⟨4, 24, 1, false⟩
  | .defrostMaxH => ⟨12, 96, 1, false⟩
  | .defrostStartH => ⟨4, 96, 1, false⟩
  | .doorWeight => ⟨0, 15, 1, false⟩
  | .fillWeight => ⟨0, 30, 1, false⟩
  | .terminateTemp => ⟨0, 200, 1, false⟩
  | .defrostHeatLimit => ⟨10, 60, 1, true⟩
  | .dripTime => ⟨2, 15, 1, false⟩
  | .fanStartTemp => ⟨-200, 0, 1, false⟩
  | .recoverLimit => ⟨2, 20, 1, false⟩
  | .shortHeat => ⟨5, 30, 1, false⟩
  | .longHeat => ⟨10, 60, 1, false⟩
  | .adaptStep => ⟨1, 8, 1, false⟩
  | .wantLimit => ⟨0, 480, 1, false⟩
  | .channelClass _ => ⟨0, 1, 1, true⟩
  | .iceForm => ⟨0, 1, 1, false⟩

/-- The parameter of a number, 1 to 46 (Table 8-1). -/
def Param.ofNumber : Nat → Option Param
  | 1 => some .heaterBudget
  | 2 => some .silenceLimit
  | 3 => some .flowK
  | 4 => some .fillVolume
  | 5 => some .fillOpenLimit
  | 6 => some .dispenseOpenLimit
  | 7 => some .noFlowWindow
  | 8 => some .dryRetry
  | 9 => some .leakPulses
  | 10 => some .leakWindow
  | 11 => some .filterLimitL
  | 12 => some .filterLimitDays
  | 13 => some .cubesPerHarvest
  | 14 => some .binCapacity
  | 15 => some .augerRate
  | 16 => some .harvestTemp
  | 17 => some .freezeHold
  | 18 => some .minFreeze
  | 19 => some .releaseTemp
  | 20 => some .moldHeatLimit
  | 21 => some .ejectLimit
  | 22 => some .chuteHold
  | 23 => some .ductAfter
  | 24 => some .doorPauseLimit
  | 25 => some .waterColdLimit
  | 26 => some .defrostMinH
  | 27 => some .defrostMaxH
  | 28 => some .defrostStartH
  | 29 => some .doorWeight
  | 30 => some .fillWeight
  | 31 => some .terminateTemp
  | 32 => some .defrostHeatLimit
  | 33 => some .dripTime
  | 34 => some .fanStartTemp
  | 35 => some .recoverLimit
  | 36 => some .shortHeat
  | 37 => some .longHeat
  | 38 => some .adaptStep
  | 39 => some .wantLimit
  | 40 => some (.channelClass 0)
  | 41 => some (.channelClass 1)
  | 42 => some (.channelClass 2)
  | 43 => some (.channelClass 3)
  | 44 => some (.channelClass 4)
  | 45 => some (.channelClass 5)
  | 46 => some .iceForm
  | _ => none

/-- A whole number as a class: 0 for A, 1 for B (R174). -/
def CurveClass.ofCode (v : Int) : CurveClass := if v = 0 then .a else .b

/-- A class as a whole number (R174). -/
def CurveClass.code : CurveClass → Nat
  | .a => 0
  | .b => 1

/-- A whole number as a form: 0 for CUBED, 1 for CRUSHED (R174, Table 9-6). -/
def Form.ofCode (v : Int) : Form := if v = 0 then .cubed else .crushed

/-- A form as a whole number (R174, Table 9-6). -/
def Form.code : Form → Nat
  | .cubed => 0
  | .crushed => 1

/-- The accepted value of a parameter, as the whole number that SET_PARAM and GET_PARAM carry (R174). -/
def Params.get (ps : Params) : Param → Int
  | .heaterBudget => ps.heaterBudget
  | .silenceLimit => ps.silenceLimit
  | .flowK => ps.flowK
  | .fillVolume => ps.fillVolume
  | .fillOpenLimit => ps.fillOpenLimit
  | .dispenseOpenLimit => ps.dispenseOpenLimit
  | .noFlowWindow => ps.noFlowWindow
  | .dryRetry => ps.dryRetry
  | .leakPulses => ps.leakPulses
  | .leakWindow => ps.leakWindow
  | .filterLimitL => ps.filterLimitL
  | .filterLimitDays => ps.filterLimitDays
  | .cubesPerHarvest => ps.cubesPerHarvest
  | .binCapacity => ps.binCapacity
  | .augerRate => ps.augerRate
  | .harvestTemp => ps.harvestTemp
  | .freezeHold => ps.freezeHold
  | .minFreeze => ps.minFreeze
  | .releaseTemp => ps.releaseTemp
  | .moldHeatLimit => ps.moldHeatLimit
  | .ejectLimit => ps.ejectLimit
  | .chuteHold => ps.chuteHold
  | .ductAfter => ps.ductAfter
  | .doorPauseLimit => ps.doorPauseLimit
  | .waterColdLimit => ps.waterColdLimit
  | .defrostMinH => ps.defrostMinH
  | .defrostMaxH => ps.defrostMaxH
  | .defrostStartH => ps.defrostStartH
  | .doorWeight => ps.doorWeight
  | .fillWeight => ps.fillWeight
  | .terminateTemp => ps.terminateTemp
  | .defrostHeatLimit => ps.defrostHeatLimit
  | .dripTime => ps.dripTime
  | .fanStartTemp => ps.fanStartTemp
  | .recoverLimit => ps.recoverLimit
  | .shortHeat => ps.shortHeat
  | .longHeat => ps.longHeat
  | .adaptStep => ps.adaptStep
  | .wantLimit => ps.wantLimit
  | .channelClass ch => (ps.classes[ch]).code
  | .iceForm => ps.iceForm.code

/-- The store with one accepted value replaced (R177). -/
def Params.set (ps : Params) (v : Int) : Param → Params
  | .heaterBudget => { ps with heaterBudget := v.toNat }
  | .silenceLimit => { ps with silenceLimit := v.toNat }
  | .flowK => { ps with flowK := v.toNat }
  | .fillVolume => { ps with fillVolume := v.toNat }
  | .fillOpenLimit => { ps with fillOpenLimit := v.toNat }
  | .dispenseOpenLimit => { ps with dispenseOpenLimit := v.toNat }
  | .noFlowWindow => { ps with noFlowWindow := v.toNat }
  | .dryRetry => { ps with dryRetry := v.toNat }
  | .leakPulses => { ps with leakPulses := v.toNat }
  | .leakWindow => { ps with leakWindow := v.toNat }
  | .filterLimitL => { ps with filterLimitL := v.toNat }
  | .filterLimitDays => { ps with filterLimitDays := v.toNat }
  | .cubesPerHarvest => { ps with cubesPerHarvest := v.toNat }
  | .binCapacity => { ps with binCapacity := v.toNat }
  | .augerRate => { ps with augerRate := v.toNat }
  | .harvestTemp => { ps with harvestTemp := v }
  | .freezeHold => { ps with freezeHold := v.toNat }
  | .minFreeze => { ps with minFreeze := v.toNat }
  | .releaseTemp => { ps with releaseTemp := v }
  | .moldHeatLimit => { ps with moldHeatLimit := v.toNat }
  | .ejectLimit => { ps with ejectLimit := v.toNat }
  | .chuteHold => { ps with chuteHold := v.toNat }
  | .ductAfter => { ps with ductAfter := v.toNat }
  | .doorPauseLimit => { ps with doorPauseLimit := v.toNat }
  | .waterColdLimit => { ps with waterColdLimit := v }
  | .defrostMinH => { ps with defrostMinH := v.toNat }
  | .defrostMaxH => { ps with defrostMaxH := v.toNat }
  | .defrostStartH => { ps with defrostStartH := v.toNat }
  | .doorWeight => { ps with doorWeight := v.toNat }
  | .fillWeight => { ps with fillWeight := v.toNat }
  | .terminateTemp => { ps with terminateTemp := v }
  | .defrostHeatLimit => { ps with defrostHeatLimit := v.toNat }
  | .dripTime => { ps with dripTime := v.toNat }
  | .fanStartTemp => { ps with fanStartTemp := v }
  | .recoverLimit => { ps with recoverLimit := v.toNat }
  | .shortHeat => { ps with shortHeat := v.toNat }
  | .longHeat => { ps with longHeat := v.toNat }
  | .adaptStep => { ps with adaptStep := v.toNat }
  | .wantLimit => { ps with wantLimit := v.toNat }
  | .channelClass ch => { ps with classes := ps.classes.set ch (CurveClass.ofCode v) }
  | .iceForm => { ps with iceForm := Form.ofCode v }

end Sys2Proof.Machine
end

