-- ==== Sys2Proof/Machine/State.lean ====
section
/-! DEFINITION. The state of the FD-418, block by block (Table 0-1), the two reason types, and the state after reset.

All times are moments or spans of the part's microsecond clock unless a docstring says part seconds (log 2). -/

namespace Sys2Proof.Machine

/-- The clocks: the microseconds since the end of the last reset (the model's own field, log 2) and the part seconds
count (R52, R188). -/
structure Clock where
  now : Nat
  partSeconds : Nat
deriving DecidableEq, Repr

/-- A frame's KIND, TAG and payload, as the inbox keeps it (R194). -/
structure Frame where
  kind : Byte
  tag : Byte
  payload : List Byte
deriving DecidableEq, Repr

/-- The two conditions of the frame receiver; gathering keeps the bytes taken after START, in order, and the time of the
last byte (R191, R193). -/
inductive Receiver where
  | hunting
  | gathering (bytes : List Byte) (lastByte : Nat)
deriving DecidableEq, Repr

/-- The Link Port (R190 to R203). -/
structure Link where
  receiver : Receiver
  /-- Valid frames not yet executed, head first, at most 4 (R194). -/
  inbox : List Frame
  /-- The command in execution, until the last byte of its reply has been sent (R194). -/
  executing : Option Frame
  /-- The bytes of the reply frame being sent (R195). -/
  reply : Option (List Byte)
  /-- An accepted RESTART whose reply is not yet sent (R186). -/
  restartPending : Bool
  lastError : Option LinkError
  /-- The pending set, the notice at position n in bit n (R198). -/
  pendingSet : BitVec 14
  /-- The notice mask, in the same form (R199). -/
  mask : BitVec 14
deriving DecidableEq, Repr

/-- The request part of a ticket (R3); an absent field is none, an absent flag clear. -/
structure Request where
  amount : Option Nat := none
  form : Option Form := none
  awaitPaddle : Bool := false
  latch : Bool := false
  coldOnly : Bool := false
  load : Option Load := none
  seconds : Option Nat := none
deriving DecidableEq, Repr

/-- The progress part of a ticket, Table 1-3; as written here, cleared (R4). -/
structure Progress where
  paddleStarted : Bool := false
  measured : Nat := 0
  startTime : Option Nat := none
  endTime : Option Nat := none
  outcome : Option TicketOutcome := none
  denied : Nat := 0
  overshoot : Nat := 0
  tankTemp : Option Int := none
  starved : Bool := false
  sensor : Bool := false
  ungranted : Bool := false
deriving DecidableEq, Repr

/-- A ticket record; as written here, emptied, in state FREE (R1). -/
structure Ticket where
  state : TicketState := .free
  kind : Option TicketKind := none
  origin : Option Origin := none
  tag : Option Byte := none
  request : Request := {}
  progress : Progress := {}
deriving DecidableEq, Repr

/-- The four starvation counts (R9). -/
structure Starvation where
  link : Nat := 0
  paddle : Nat := 0
  iceMaker : Nat := 0
  defrost : Nat := 0
deriving DecidableEq, Repr

/-- The Ticket Manager (R1 to R26). -/
structure Pool where
  tickets : Vector Ticket 24
  /-- The free list, head first (R7). -/
  free : List TicketNo
  /-- The dispenser queue, head first (R122). -/
  queue : List TicketNo
  /-- The completion queue, oldest first (R13). -/
  completion : List TicketNo
  iceSlot : Option TicketNo
  defrostSlot : Option TicketNo
  serviceSlot : Option TicketNo
  starvation : Starvation
deriving DecidableEq, Repr

/-- One thermistor channel (R28 to R34); as written here, as after a reset (R47). -/
structure Channel where
  /-- The ring of good raw values, oldest first, at most 4 (R31). -/
  ring : List Nat := []
  badRun : Nat := 0
  fault : Bool := false
  /-- The good values of the present run in FAULT; their number is the good-run count (R34). -/
  goodRun : List Nat := []
  heldMean : Option Nat := none
  last : Option ConvClass := none
deriving DecidableEq, Repr

/-- A held READ_SENSORS with FRESH (R40): its channels in ascending order, and, once a round serves it, how many of them
are still to be converted. -/
structure Fresh where
  channels : List ChannelNo
  left : Option Nat
deriving DecidableEq, Repr

/-- The scan (R30): the channel in conversion, the channels still to come in the round, and when the conversion began. -/
structure Scan where
  current : ChannelNo
  rest : List ChannelNo
  startedAt : Nat
  fresh : Option Fresh
deriving DecidableEq, Repr

/-- An input pin as sampled (R41 to R43): its level, none until a row has told it since the reset, and the moment since
which it has stood unchanged, at the earliest the end of the reset; as written here, as after a reset (log 9). -/
structure Pin (α : Type) where
  level : Option α := none
  since : Nat := 0
deriving DecidableEq, Repr

/-- What the part does to a thermistor's pin (R28). -/
inductive PinDrive where
  | high | released | low
deriving DecidableEq, Repr

/-- The Sense Unit (R27 to R47). A switch input without a reading is none (R42). -/
structure Sense where
  channels : Vector Channel 6
  scan : Scan
  curveA : List CurvePoint
  curveB : List CurvePoint
  door : Option Door
  waterPaddle : Option PaddleState
  icePaddle : Option PaddleState
  home : Option Contact
  flap : Option Contact
  beam : BeamFilter
  doorPin : Pin Door
  waterPin : Pin PaddleState
  icePin : Pin PaddleState
  homePin : Pin Contact
  flapPin : Pin Contact
  /-- The beam's level as last sampled, and its continuous time (R39, R43). -/
  beamPin : Pin BeamLevel
  flowCount : BitVec 32
  flowPeriod : Option Nat
  lastFlow : Option Nat
  tachCount : BitVec 16
  lastTach : Option Nat
deriving DecidableEq, Repr

/-- A heater record (R48). -/
structure Heater where
  accepted : HeaterConfig
  inForce : HeaterConfig
  ownerDemand : Bool
  testDemand : Bool
  acc : Nat
  onSlot : Bool
  /-- The grant; the heater output is driven while it is set. -/
  grant : Bool
  denied : Nat
deriving DecidableEq, Repr

/-- The Load Budget Unit (R48 to R65). -/
structure Loads where
  heaters : Vector Heater 5
  budgetInForce : Nat
  rotation : Vector (Option HeaterNo) 16
  /-- The slot position that the next boundary will use (R59). -/
  slot : Fin 16
  /-- The boundaries that the heater test in the service slot has taken part in (R63). -/
  testSlots : Nat
deriving DecidableEq, Repr

/-- The work record of an owner of the line (R67). -/
structure Work where
  ticket : TicketNo
  pulses : Nat
  target : Option Nat
  openTime : Stopwatch
  /-- The moment from which the no-flow time counts (R83). -/
  noFlowFrom : Nat
deriving DecidableEq, Repr

/-- The Water Line Controller (R66 to R93). -/
structure Line where
  inlet : Bool
  moldFill : Bool
  dispense : Bool
  state : LineState
  owner : Option LineUser
  closingOwner : Option LineUser
  work : Option Work
  ending : Option EndingReason
  settleEnd : Option Nat
  fillClaim : Option TicketNo
  dispenseClaim : Option TicketNo
  suspended : Option Work
  supply : Supply
  dryRetry : Option Nat
  /-- The times of recent leak pulses, oldest first (R85). -/
  leakList : List Nat
  leakLatch : Bool
  /-- In part seconds (R86). -/
  leakTime : Option Nat
  filterMl : Nat
  filterRem : Nat
  filterSeconds : Nat
  filterStatus : FilterStatus
deriving DecidableEq, Repr

/-- The Ice Maker Controller (R94 to R120). -/
structure IceMaker where
  state : IceState
  moldLoaded : Bool
  /-- In part seconds (R94). -/
  freezeStart : Option Nat
  coldRunStart : Option Nat
  /-- In part seconds (R94). -/
  heatStart : Option Nat
  /-- The moment of entry into HARVEST_HEAT, from which the limits count (R104). -/
  heatFrom : Option Nat
  /-- The HEAT_LIMIT mark noted for the ticket's outcome (R104). -/
  heatLimitMark : Bool
  attempts : Nat
  /-- Step 1 of the attempt, leaving home, is met (R105). -/
  leftHome : Bool
  leaveDeadline : Option Nat
  returnDeadline : Option Nat
  retryEnd : Option Nat
  homingDeadline : Option Nat
  settleEnd : Option Nat
  notedSensor : Bool
  parkPending : Bool
  offHome : Bool
  stock : Nat
  /-- The defrost state as last handed by the Defrost Controller (R102, R120). -/
  defrostCopy : DefrostState
  /-- The ejector output (R95). -/
  ejector : Bool
  /-- When an ejector test began to drive the ejector (R117). -/
  testFrom : Option Nat
deriving DecidableEq, Repr

/-- The run record of an ice ticket or an auger test, and the hold time of a chute test (R121). -/
structure RunRecord where
  forward : Stopwatch := {}
  running : Stopwatch := {}
  /-- Set at the first entry into RUNNING (R134). -/
  entered : Bool := false
  /-- In milliseconds (R134). -/
  target : Option Nat := none
  jams : Nat := 0
  jamDeadline : Option Nat := none
  reverseEnd : Option Nat := none
  hold : Stopwatch := {}
deriving DecidableEq, Repr

/-- The Dispenser Controller (R121 to R146). -/
structure Outlet where
  state : OutletState
  /-- Start notes: a paddle press started the head; the TANK temperature at its start check (R121). -/
  paddleStarted : Bool
  tankNote : Option Int
  ending : Option TicketOutcome
  run : RunRecord
  pauseEnd : Option Nat
  holdEnd : Option Nat
  /-- CLOSED after a reset, until the first reading of the open switch sets it (R130, R146, log 28). -/
  flap : FlapPosition
  flapDeadline : Option Nat
  chuteFault : Bool
  ductEnd : Option Nat
  augerForward : Bool
  augerReverse : Bool
  crusher : Bool
  flapOpenOut : Bool
  flapCloseOut : Bool
deriving DecidableEq, Repr

/-- The cycle record (R147, R158). -/
structure Cycle where
  /-- In part seconds. -/
  startTime : Nat
  creditAtStart : Nat
  /-- In part seconds (R161). -/
  heatingStart : Option Nat := none
  /-- The moment of entry into HEATING, from which the limits count (R162). -/
  heatingFrom : Option Nat := none
  heatSeconds : Nat := 0
  h0Slots : Nat := 0
  h0Denied : Nat := 0
  h1Denied : Nat := 0
  peak : Option Int := none
  endReason : Option EndReason := none
  forced : Bool := false
  ungranted : Bool := false
  starved : Bool := false
  sensor : Bool := false
  compressorOn : Bool := false
deriving DecidableEq, Repr

/-- A defrost log record (R169). -/
structure LogRecord where
  startTime : Nat
  creditAtStart : Nat
  heatSeconds : Nat
  h0Denied : Nat
  h1Denied : Nat
  peak : Option Int
  endReason : EndReason
  forced : Bool
  ungranted : Bool
  starved : Bool
  sensor : Bool
  compressorOn : Bool
  targetAfter : Nat
deriving DecidableEq, Repr

/-- The Defrost Controller (R147 to R173). -/
structure Defrost where
  state : DefrostState
  credit : Nat
  compressorSeconds : Nat
  doorSeconds : Nat
  /-- The interval target, in minutes (R150). -/
  target : Nat
  /-- RUNNING as last reported by COMPRESSOR (R152). -/
  compressorRunning : Bool
  wantTime : Stopwatch
  deferEnd : Option Nat
  silentWant : Stopwatch
  dwellEnd : Option Nat
  recoverEnd : Option Nat
  cycle : Option Cycle
  /-- The defrost log, oldest first, at most 8 records (R170). -/
  log : List LogRecord
  /-- The ice maker state as last handed by the Ice Maker Controller (R159, R172). -/
  iceCopy : IceState
deriving DecidableEq, Repr

/-- Supervision: the parameter store, the limits lock and the silence timer (R174 to R183). -/
structure Supervision where
  params : Params
  lock : Bool
  armed : Bool
  silent : Bool
  silence : Stopwatch
deriving DecidableEq, Repr

/-- Everything the spec gives the FD-418. -/
structure Part where
  clock : Clock
  /-- The reset in progress, or none (R184 to R188). -/
  resetting : Option ResetKind
  link : Link
  pool : Pool
  sense : Sense
  loads : Loads
  line : Line
  ice : IceMaker
  outlet : Outlet
  defrost : Defrost
  supervision : Supervision
  /-- The model's own field: which free value is taken next (log 10). -/
  freeCount : Nat
deriving DecidableEq, Repr

/-- The state: the part, and the commands that wait, first in, first out. -/
structure State where
  part : Part
  pending : List Instr
deriving DecidableEq, Repr

/-- The reasons to fault. There is none: nothing in the spec stops the part, and every command ends in a next state. -/
inductive Fault where
deriving DecidableEq, Repr

/-- The reasons to refuse. -/
inductive Refusal where
  /-- Raised by exec alone, for a command that has no meaning yet; safe. No arm of exec raises it. -/
  | notModelled (mnemonic : String)
deriving DecidableEq, Repr

/-- A heater record as every reset leaves its demand and working state (R65). -/
def Heater.fresh (accepted inForce : HeaterConfig) : Heater :=
  { accepted := accepted, inForce := inForce, ownerDemand := false, testDemand := false, acc := 0, onSlot := false,
    grant := false, denied := 0 }

/-- The part right after a power-on reset, as the spec says it is: R26, R47, R65, R93, R120, R146, R172, R188. -/
def Part.reset : Part where
  clock := ⟨0, 0⟩
  resetting := none
  link :=
    { receiver := .hunting, inbox := [], executing := none, reply := none, restartPending := false, lastError := none,
      pendingSet := 1, mask := 0 }
  pool :=
    { tickets := Vector.replicate 24 {},
      free := [0, 1, 2, 3, 4, 5, 6, 7, 8, 9, 10, 11, 12, 13, 14, 15, 16, 17, 18, 19, 20, 21, 22, 23],
      queue := [], completion := [], iceSlot := none, defrostSlot := none, serviceSlot := none, starvation := {} }
  sense :=
    { channels := Vector.replicate 6 {},
      scan := { current := 0, rest := [1, 2, 3, 4, 5], startedAt := 0, fresh := none },
      curveA := defaultCurve, curveB := defaultCurve, door := none, waterPaddle := none, icePaddle := none, home := none,
      flap := none, beam := .notFull, doorPin := {}, waterPin := {}, icePin := {}, homePin := {}, flapPin := {},
      beamPin := {}, flowCount := 0, flowPeriod := none, lastFlow := none, tachCount := 0,
      lastTach := none }
  loads :=
    { heaters :=
        #v[.fresh defaultHeaterConfig[0] defaultHeaterConfig[0], .fresh defaultHeaterConfig[1] defaultHeaterConfig[1],
          .fresh defaultHeaterConfig[2] defaultHeaterConfig[2], .fresh defaultHeaterConfig[3] defaultHeaterConfig[3],
          .fresh defaultHeaterConfig[4] defaultHeaterConfig[4]],
      budgetInForce := 300, rotation := defaultRotation, slot := 0, testSlots := 0 }
  line :=
    { inlet := false, moldFill := false, dispense := false, state := .idle, owner := none, closingOwner := none,
      work := none, ending := none, settleEnd := none, fillClaim := none, dispenseClaim := none, suspended := none,
      supply := .ok, dryRetry := none, leakList := [], leakLatch := false, leakTime := none, filterMl := 0,
      filterRem := 0, filterSeconds := 0, filterStatus := .good }
  ice :=
    { state := .homing, moldLoaded := false, freezeStart := none, coldRunStart := none, heatStart := none,
      heatFrom := none, heatLimitMark := false, attempts := 0, leftHome := false, leaveDeadline := none,
      returnDeadline := none, retryEnd := none, homingDeadline := some 12000000, settleEnd := none, notedSensor := false,
      parkPending := false, offHome := false, stock := 0, defrostCopy := .accruing, ejector := false, testFrom := none }
  outlet :=
    { state := .idle, paddleStarted := false, tankNote := none, ending := none, run := {}, pauseEnd := none,
      holdEnd := none, flap := .closed, flapDeadline := none, chuteFault := false, ductEnd := none, augerForward := false,
      augerReverse := false, crusher := false, flapOpenOut := false, flapCloseOut := false }
  defrost :=
    { state := .accruing, credit := 0, compressorSeconds := 0, doorSeconds := 0, target := 480,
      compressorRunning := false, wantTime := {}, deferEnd := none, silentWant := {}, dwellEnd := none,
      recoverEnd := none, cycle := none, log := [], iceCopy := .homing }
  supervision := { params := defaultParams, lock := false, armed := false, silent := false, silence := {} }
  freeCount := 0

/-- The machine right after reset: the part after a power-on, and no command waiting. -/
def State.reset : State := { part := Part.reset, pending := [] }

end Sys2Proof.Machine
end

