-- ==== Sys2Proof/Machine/Flags.lean ====
section
/-! DEFINITION. The notices and what is computed from them: the pending set, the mask and ATTN (R198 to R201). -/

namespace Sys2Proof.Machine

/-- The position of a notice, its place in the notice fields (Table 9-5). -/
def Notice.position : Notice → Nat
  | .restarted => 0
  | .completion => 1
  | .defrostWanted => 2
  | .defrostDone => 3
  | .fanRelease => 4
  | .iceFault => 5
  | .lineDry => 6
  | .leak => 7
  | .sensorFault => 8
  | .silenceTrip => 9
  | .completionsDropped => 10
  | .filterDue => 11
  | .linkError => 12
  | .chuteFault => 13

/-- The set that holds one notice, as the link carries it: its position's bit. -/
def Notice.bit (n : Notice) : BitVec 14 := BitVec.ofNat 14 (2 ^ n.position)

/-- Setting a notice: it joins the pending set, and stays if it is already there (R198). -/
def Part.notify (n : Notice) (p : Part) : Part :=
  { p with link.pendingSet := p.link.pendingSet ||| n.bit }

/-- Whether a notice is pending. -/
def Part.isPending (n : Notice) (p : Part) : Bool := p.link.pendingSet.getLsbD n.position

/-- ATTN asserted (driven low): exactly when some pending notice is unmasked; released while a reset lasts (R199, R187). -/
def Part.attn (p : Part) : Bool := p.resetting.isNone && p.link.pendingSet &&& ~~~p.link.mask != 0

end Sys2Proof.Machine
end

