-- ==== Sys2Proof/Machine/Ops.lean ====
section
/-! DEFINITION. The shared operations: time, counts that saturate, ticket records, and the hand-over of states between
the Ice Maker Controller and the Defrost Controller. -/

namespace Sys2Proof.Machine

/-- A second in the part's clock, which counts microseconds. -/
def second : Nat := 1000000

/-- A millisecond in the part's clock. -/
def millisecond : Nat := 1000

/-- A minute in the part's clock (00_scope 0.6, 4). -/
def minute : Nat := 60 * second

/-- A count that stays at 65,535 (R4, R55). -/
def sat16 (n : Nat) : Nat := min n 65535

/-- A count that stays at 4,294,967,295 (R88, R89). -/
def sat32 (n : Nat) : Nat := min n 4294967295

/-- What a stopwatch shows. -/
def Stopwatch.read (now : Nat) (w : Stopwatch) : Nat :=
  match w.since with
  | none => w.counted
  | some t => w.counted + (now - t)

/-- A stopwatch that starts from 0. -/
def Stopwatch.fromZero (now : Nat) : Stopwatch := { counted := 0, since := some now }

/-- The stopwatch goes on counting. -/
def Stopwatch.start (now : Nat) (w : Stopwatch) : Stopwatch := { counted := w.read now, since := some now }

/-- The stopwatch stops and keeps what it has counted. -/
def Stopwatch.stop (now : Nat) (w : Stopwatch) : Stopwatch := { counted := w.read now, since := none }

/-- A deadline that runs and has come. -/
def passed (now : Nat) : Option Nat → Bool
  | none => false
  | some t => t ≤ now

/-- The time that passes before a command (log 2). -/
def Part.elapse (dt : Nat) (p : Part) : Part := { p with clock.now := p.clock.now + dt }

/-- The ticket record of a number. -/
def Part.ticket (p : Part) (n : TicketNo) : Ticket := p.pool.tickets[n]

/-- A ticket's record changed. -/
def Part.updateTicket (n : TicketNo) (f : Ticket → Ticket) (p : Part) : Part :=
  { p with pool.tickets := p.pool.tickets.set n (f p.pool.tickets[n]) }

/-- The record of the ticket in a slot changed; an empty slot changes nothing. -/
def Part.updateSlot (slot : Option TicketNo) (f : Ticket → Ticket) (p : Part) : Part :=
  match slot with
  | none => p
  | some n => p.updateTicket n f

/-- A ticket's progress changed. -/
def Ticket.withProgress (f : Progress → Progress) (t : Ticket) : Ticket := { t with progress := f t.progress }

/-- The water kinds: WATER_PORTION, WATER_HOLD and FLUSH (chapter 1). -/
def Ticket.isWater (t : Ticket) : Bool :=
  t.kind == some .waterPortion || t.kind == some .waterHold || t.kind == some .flush

/-- The ice kinds: ICE_PORTION and ICE_HOLD (chapter 1). -/
def Ticket.isIce (t : Ticket) : Bool := t.kind == some .icePortion || t.kind == some .iceHold

/-- A LOAD_TEST on CHUTE (R143). -/
def Ticket.isChuteTest (t : Ticket) : Bool := t.kind == some .loadTest && t.request.load == some .chute

/-- A LOAD_TEST on AUGER (R144). -/
def Ticket.isAugerTest (t : Ticket) : Bool := t.kind == some .loadTest && t.request.load == some .auger

/-- A ticket becomes ACTIVE: its progress is cleared and its start time set (R4). -/
def Part.activate (n : TicketNo) (p : Part) : Part :=
  p.updateTicket n fun t =>
    { t with state := .active, progress := { startTime := some p.clock.partSeconds } }

/-- A ticket becomes STOPPING (R5). -/
def Ticket.stopping (t : Ticket) : Ticket := { t with state := .stopping }

/-- One more denied slot in a ticket (R55). -/
def Ticket.deny (t : Ticket) : Ticket := t.withProgress fun g => { g with denied := sat16 (g.denied + 1) }

/-- A refused draw counts for its origin, up to 255 (R9). -/
def Starvation.bump (o : Origin) (c : Starvation) : Starvation :=
  match o with
  | .link => { c with link := min (c.link + 1) 255 }
  | .paddle => { c with paddle := min (c.paddle + 1) 255 }
  | .iceMaker => { c with iceMaker := min (c.iceMaker + 1) 255 }
  | .defrost => { c with defrost := min (c.defrost + 1) 255 }

/-- A refused draw of an origin (R9). -/
def Part.starve (o : Origin) (p : Part) : Part := { p with pool.starvation := p.pool.starvation.bump o }

/-- The defrost states that hold a harvest back (R102). -/
def DefrostState.holdsHarvest : DefrostState → Bool
  | .prep | .heating | .dwell => true
  | .accruing | .wanted | .deferred | .recover => false

/-- The ice maker states that hold a defrost in PREP (R159). -/
def IceState.holdsHeating : IceState → Bool
  | .harvestHeat | .eject => true
  | .homing | .parked | .fillWait | .filling | .freezing | .harvestWait | .settle | .fault => false

/-- The draw that the waiting ice maker would make: a MOLD_FILL in FILL_WAIT with its slot empty (R98); a HARVEST in
HARVEST_WAIT with its slot empty, room in the bin and the defrost out of the way (R102). -/
def Part.iceWants (p : Part) : Option TicketKind :=
  match p.ice.state, p.pool.iceSlot with
  | .fillWait, none => some .moldFill
  | .harvestWait, none =>
    if p.sense.beam = .notFull ∧ p.ice.stock < p.supervision.params.binCapacity ∧ p.ice.defrostCopy.holdsHarvest = false
    then some .harvest else none
  | _, _ => none

/-- The waiting ice maker takes its conditions again, at an event that R10, R98 or R102 names. A draw that the pool
refuses counts as starvation here; one that it grants is taken by `redraw` at the end of the command (log 8). -/
def Part.iceAttempt (p : Part) : Part :=
  if p.iceWants.isSome ∧ p.pool.free.length < 4 then p.starve .iceMaker else p

/-- The same at an event of R102, which bears on HARVEST_WAIT alone. -/
def Part.harvestAttempt (p : Part) : Part :=
  if p.ice.state = .harvestWait then p.iceAttempt else p

/-- The ice maker changes state and hands it to the Defrost Controller (R95). -/
def Part.setIceState (st : IceState) (p : Part) : Part := { p with ice.state := st, defrost.iceCopy := st }

/-- The Defrost Controller changes state and hands it to the Ice Maker Controller, which takes the conditions of
HARVEST_WAIT again (R102, R147). -/
def Part.setDefrostState (st : DefrostState) (p : Part) : Part :=
  Part.harvestAttempt { p with defrost.state := st, ice.defrostCopy := st }

/-- The next free value is another one (log 10). -/
def Part.spendFree (p : Part) : Part := { p with freeCount := p.freeCount + 1 }

end Sys2Proof.Machine
end

