-- ==== Sys2Proof/Machine/Pool.lean ====
section
/-! DEFINITION. The Ticket Manager: draws, the end of a ticket's work, the return to the free list and auto-retire
(R1 to R17). -/

namespace Sys2Proof.Machine

/-- The draw thresholds of Table 1-6. -/
def Origin.threshold : Origin → Nat
  | .link => 4
  | .iceMaker => 4
  | .paddle => 2
  | .defrost => 1

/-- The record written at a draw: identity and request, progress cleared (R2, R3, R4). -/
def Ticket.drawn (kind : TicketKind) (o : Origin) (tag : Option Byte) (req : Request) : Ticket :=
  { state := .queued, kind := some kind, origin := some o, tag := tag, request := req, progress := {} }

/-- The origins whose records auto-retire may drop (R14). -/
def Ticket.retirable (t : Ticket) : Bool :=
  t.origin == some .paddle || t.origin == some .iceMaker || t.origin == some .defrost

/-- A ticket joins the tail of the free list, emptied (R1, R7); a waiting ice maker draws again (R10). -/
def Part.joinFree (n : TicketNo) (p : Part) : Part :=
  Part.iceAttempt
    { p with pool.tickets := p.pool.tickets.set n {}, pool.free := p.pool.free ++ [n] }

/-- One retirement: the record leaves the completion queue and its ticket joins the free list (R14). -/
def Part.retire (n : TicketNo) (p : Part) : Part :=
  (Part.notify .completionsDropped { p with pool.completion := p.pool.completion.erase n }).joinFree n

/-- The oldest record of a retirable origin, wherever it stands (R13, R14). -/
def Part.oldestRetirable (p : Part) : Option TicketNo :=
  p.pool.completion.find? fun n => (p.ticket n).retirable

/-- Retirement, at most `k` records: while the free count is below 4 and a retirable record waits (R14). -/
def Part.retireUpTo : Nat → Part → Part
  | 0, p => p
  | k + 1, p =>
    if p.pool.free.length < 4 then
      match p.oldestRetirable with
      | none => p
      | some n => (p.retire n).retireUpTo k
    else p

/-- Auto-retire: four retirements bring any free count to 4 (R14). -/
def Part.autoRetire (p : Part) : Part := p.retireUpTo 4

/-- A draw: granted when the free count is at least the origin's threshold, taking the head of the free list; then
auto-retire is judged. A refused draw counts as starvation and leaves the free list as it is (R7, R8, R9, R14). -/
def Part.draw (kind : TicketKind) (o : Origin) (tag : Option Byte) (req : Request) (p : Part) :
    Option TicketNo × Part :=
  match p.pool.free with
  | [] => (none, p.starve o)
  | n :: rest =>
    if o.threshold ≤ p.pool.free.length then
      (some n,
        Part.autoRetire
          { p with
            pool.free := rest
            pool.tickets := p.pool.tickets.set n (Ticket.drawn kind o tag req) })
    else (none, p.starve o)

/-- A slot without this ticket. -/
def emptied (n : TicketNo) (slot : Option TicketNo) : Option TicketNo := if slot = some n then none else slot

/-- The ticket leaves its holder (R12, step 1). -/
def Pool.leaveHolder (n : TicketNo) (q : Pool) : Pool :=
  { q with
    queue := q.queue.erase n
    iceSlot := emptied n q.iceSlot
    defrostSlot := emptied n q.defrostSlot
    serviceSlot := emptied n q.serviceSlot }

/-- The record of a ticket that becomes DONE at a time, with an outcome (R12, steps 2 and 3). -/
def Ticket.finished (now : Nat) (o : TicketOutcome) (t : Ticket) : Ticket :=
  { t with state := .done, progress := { t.progress with endTime := some now, outcome := some o } }

/-- A ticket joins the completion queue as DONE, out of its holder, and COMPLETION is set (R12, steps 1 to 4). -/
def Part.toCompletion (n : TicketNo) (o : TicketOutcome) (p : Part) : Part :=
  Part.notify .completion
    { p with
      pool := { p.pool.leaveHolder n with
        completion := p.pool.completion ++ [n]
        tickets := p.pool.tickets.set n (p.pool.tickets[n].finished p.clock.partSeconds o) } }

/-- The end of a ticket's work (R12); auto-retire follows for an origin other than LINK (R14). -/
def Part.finish (n : TicketNo) (o : TicketOutcome) (p : Part) : Part :=
  if p.pool.tickets[n].retirable then (p.toCompletion n o).autoRetire else p.toCompletion n o

/-- The end of the work of the ticket in a slot; an empty slot has none. -/
def Part.finishSlot (slot : Option TicketNo) (o : TicketOutcome) (p : Part) : Part :=
  match slot with
  | none => p
  | some n => p.finish n o

end Sys2Proof.Machine
end

