-- ==== Sys2Proof/Machine/Loads.lean ====
section
/-! DEFINITION. The Load Budget Unit: demands, patterns, grants and results (R48 to R65). -/

namespace Sys2Proof.Machine

/-- H0 to H4 in ascending order. -/
def allHeaters : List HeaterNo := [0, 1, 2, 3, 4]

/-- A heater is demanded while its owner demand or its test demand is on (R48). -/
def Heater.demanded (h : Heater) : Bool := h.ownerDemand || h.testDemand

/-- The demand rises: the accumulator is set to P − 1 and the denied-slot count to 0 (R53, R55, R56). -/
def Heater.rise (h : Heater) : Heater := { h with acc := h.inForce.period - 1, denied := 0 }

/-- The demand drops: the grant and the on-slot flag are cleared at once (R57). -/
def Heater.release (h : Heater) : Heater := { h with grant := false, onSlot := false }

/-- The owner demand is raised (R49, R50, R56). -/
def Heater.raiseOwner (h : Heater) : Heater :=
  if h.demanded then { h with ownerDemand := true } else { h with ownerDemand := true }.rise

/-- The owner demand is dropped (R49, R50, R57). -/
def Heater.dropOwner (h : Heater) : Heater :=
  if h.ownerDemand && !h.testDemand then { h with ownerDemand := false }.release else { h with ownerDemand := false }

/-- The test demand is raised (R50, R63). -/
def Heater.raiseTest (h : Heater) : Heater :=
  if h.demanded then { h with testDemand := true } else { h with testDemand := true }.rise

/-- The test demand is dropped (R50, R63, R64). -/
def Heater.dropTest (h : Heater) : Heater :=
  if h.testDemand && !h.ownerDemand then { h with testDemand := false }.release else { h with testDemand := false }

/-- One heater record changed. -/
def Loads.update (n : HeaterNo) (f : Heater → Heater) (l : Loads) : Loads :=
  { l with heaters := l.heaters.set n (f l.heaters[n]) }

/-- Every heater record changed, by number. -/
def Loads.updateAll (f : HeaterNo → Heater → Heater) (l : Loads) : Loads :=
  { l with heaters := #v[f 0 l.heaters[0], f 1 l.heaters[1], f 2 l.heaters[2], f 3 l.heaters[3], f 4 l.heaters[4]] }

/-- A job raises its heater's owner demand. -/
def Part.raiseOwner (n : HeaterNo) (p : Part) : Part := { p with loads := p.loads.update n Heater.raiseOwner }

/-- A job drops its heater's owner demand. -/
def Part.dropOwner (n : HeaterNo) (p : Part) : Part := { p with loads := p.loads.update n Heater.dropOwner }

/-- Step 1 of R52 for one heater: the accepted configuration comes into force; a demanded heater whose P or D changed
starts its pattern anew (R61). -/
def Heater.takeAccepted (h : Heater) : Heater :=
  let changed := h.accepted.period != h.inForce.period || h.accepted.duty != h.inForce.duty
  { h with inForce := h.accepted, acc := if h.demanded && changed then h.accepted.period - 1 else h.acc }

/-- Step 3 of R52 for one heater: the pattern advances and the on-slot flag is set or cleared (R53). -/
def Heater.advance (h : Heater) : Heater :=
  if !h.demanded then { h with onSlot := false }
  else if h.inForce.period ≤ h.inForce.duty then { h with onSlot := true, acc := h.inForce.period - 1 }
  else if h.inForce.duty = 0 then { h with onSlot := false }
  else if h.inForce.period ≤ h.acc + h.inForce.duty then
    { h with onSlot := true, acc := h.acc + h.inForce.duty - h.inForce.period }
  else { h with onSlot := false, acc := h.acc + h.inForce.duty }

/-- A candidate for a grant (R54). -/
def Heater.candidate (h : Heater) : Bool := h.demanded && h.onSlot

/-- The order in which the candidates are tried: the heater named by the rotation table entry, if it is a candidate, then
the others in ascending number (R54). -/
def Loads.trialOrder (l : Loads) : List HeaterNo :=
  let cands := allHeaters.filter fun n => l.heaters[n].candidate
  match l.rotation[l.slot] with
  | none => cands
  | some f => if l.heaters[f].candidate then f :: cands.erase f else cands

/-- The trial of a list of candidates against the budget remaining: who is granted. It goes on past a denied one (R54). -/
def grantTrial (watts : HeaterNo → Nat) : Nat → List HeaterNo → List HeaterNo
  | _, [] => []
  | left, n :: rest =>
    if watts n ≤ left then n :: grantTrial watts (left - watts n) rest else grantTrial watts left rest

/-- The heaters granted for the new slot (R54). -/
def Loads.granted (l : Loads) : List HeaterNo :=
  grantTrial (fun n => l.heaters[n].inForce.watts) l.budgetInForce l.trialOrder

/-- Step 4 of R52 and the denied-slot counts of step 5 for one heater (R54, R55). -/
def Heater.decide (isGranted : Bool) (h : Heater) : Heater :=
  { h with grant := isGranted, denied := if h.candidate && !isGranted then sat16 (h.denied + 1) else h.denied }

/-- The result of the boundary for a demanded heater (R55). -/
def Heater.result (h : Heater) : SlotResult :=
  if !h.onSlot then .offSlot else if h.grant then .granted else .denied

/-- Steps 3, 4 and 5 of R52 on the heater records. -/
def Loads.decideSlot (l : Loads) : Loads :=
  let a := l.updateAll fun _ h => h.advance
  let g := a.granted
  a.updateAll fun n h => h.decide (g.contains n)

/-- Step 1 of R52: configuration and budget accepted since the last boundary come into force. -/
def Loads.takeAccepted (budget : Nat) (l : Loads) : Loads :=
  { l.updateAll (fun _ h => h.takeAccepted) with budgetInForce := budget }

/-- The heater of a heater test. -/
def Ticket.testHeater (t : Ticket) : Option HeaterNo :=
  match t.kind, t.request.load with
  | some .loadTest, some (.heater h) => some h
  | _, _ => none

/-- The ticket of the heater test in the service slot, with its heater. -/
def Part.heaterTest (p : Part) : Option (TicketNo × HeaterNo) :=
  match p.pool.serviceSlot with
  | none => none
  | some n => (p.ticket n).testHeater.map fun h => (n, h)

/-- A heater test starts: the test demand is raised, no boundary taken part in yet (R63). -/
def Part.startHeaterTest (h : HeaterNo) (p : Part) : Part :=
  { p with loads := { p.loads.update h Heater.raiseTest with testSlots := 0 } }

/-- The test demand of a heater is dropped (R63, R64). -/
def Part.dropTest (h : HeaterNo) (p : Part) : Part := { p with loads := p.loads.update h Heater.dropTest }

/-- Step 2 of R52: a heater test that has run its seconds drops its demand and ends COMPLETE (R63). -/
def Part.endRunTest (p : Part) : Part :=
  match p.heaterTest with
  | none => p
  | some (n, h) =>
    if (p.ticket n).request.seconds = some p.loads.testSlots then (p.dropTest h).finish n .complete else p

/-- The results of H0 and H1 for the cycle record: each H0 result is a slot, each DENIED a denied slot (R55, R161). -/
def Cycle.takeResults (h0 h1 : Option SlotResult) (c : Cycle) : Cycle :=
  { c with
    h0Slots := if h0.isSome then c.h0Slots + 1 else c.h0Slots
    h0Denied := if h0 = some .denied then sat16 (c.h0Denied + 1) else c.h0Denied
    h1Denied := if h1 = some .denied then sat16 (c.h1Denied + 1) else c.h1Denied }

/-- The result handed to a heater's owner, if its owner demand is on (R55). -/
def Loads.ownerResult (n : HeaterNo) (l : Loads) : Option SlotResult :=
  if l.heaters[n].ownerDemand then some l.heaters[n].result else none

/-- A denied result counts in the ticket of a slot (R55). -/
def Part.countDenied (r : Option SlotResult) (slot : Option TicketNo) (p : Part) : Part :=
  if r = some .denied then p.updateSlot slot Ticket.deny else p

/-- The result of the boundary for a heater test: GRANTED adds to the measured amount, DENIED to the denied slots
(R55, R63). -/
def Part.handTestResult (p : Part) : Part :=
  match p.heaterTest with
  | none => p
  | some (n, h) =>
    let p := { p with loads.testSlots := p.loads.testSlots + 1 }
    match p.loads.heaters[h].result with
    | .granted => p.updateTicket n (Ticket.withProgress fun g => { g with measured := sat16 (g.measured + 1) })
    | .denied => p.updateTicket n Ticket.deny
    | .offSlot => p

/-- The results of step 5 of R52, handed to each demand that is on (R55). -/
def Part.handResults (p : Part) : Part :=
  let h0 := p.loads.ownerResult 0
  let h1 := p.loads.ownerResult 1
  let h2 := p.loads.ownerResult 2
  let h3 := p.loads.ownerResult 3
  let p := { p with defrost.cycle := p.defrost.cycle.map (Cycle.takeResults h0 h1) }
  let p := p.countDenied h0 p.pool.defrostSlot
  let p := p.countDenied h2 p.pool.iceSlot
  let p := p.countDenied h3 p.pool.iceSlot
  p.handTestResult

/-- A budget slot boundary (R52). -/
def Part.boundary (p : Part) : Part :=
  let p := { p with loads := p.loads.takeAccepted p.supervision.params.heaterBudget }
  let p := p.endRunTest
  let p := { p with loads := p.loads.decideSlot }
  let p := p.handResults
  { p with loads.slot := p.loads.slot + 1 }

/-- The watts in use: the ratings in force of the heaters granted at this moment (R62). -/
def Loads.wattsInUse (l : Loads) : Nat :=
  (allHeaters.map fun n => if l.heaters[n].grant then l.heaters[n].inForce.watts else 0).sum

end Sys2Proof.Machine
end

