-- ==== Sys2Proof/Machine/Pins.lean ====
section
/-! DEFINITION. The input pins of the Sense Unit: levels, debounce and filter times (R41 to R43), and the drive of the
thermistor pins (R28). -/

namespace Sys2Proof.Machine

/-- A row tells the level of a pin. A level other than the one held starts the continuous time anew; the first one told
since a reset has stood since the end of the reset (R41 to R43, log 9). -/
def Pin.tell {α : Type} [DecidableEq α] (now : Nat) (v : α) (pin : Pin α) : Pin α :=
  match pin.level with
  | none => { pin with level := some v }
  | some w => if w = v then pin else { level := some v, since := now }

/-- The pin has stood unchanged at a level for a time (R41 to R43). -/
def Pin.held {α : Type} [DecidableEq α] (now time : Nat) (v : α) (pin : Pin α) : Bool :=
  pin.level == some v && pin.since + time ≤ now

/-- The level that a pin has held for its time, where it differs from the state that it sets: a change that is due. -/
def Pin.due {α : Type} [DecidableEq α] (now time : Nat) (state : Option α) (pin : Pin α) : Option α :=
  pin.level.filter fun v => pin.held now time v && state != some v

/-- The debounce time of the freezer door: 100 ms (Table 2-6). -/
def doorTime : Nat := 100 * millisecond

/-- The debounce time of the paddles: 30 ms (Table 2-6). -/
def paddleTime : Nat := 30 * millisecond

/-- The debounce time of the ejector home switch and the chute-flap open switch: 10 ms (Table 2-6). -/
def switchTime : Nat := 10 * millisecond

/-- The filter time of the bin beam: blocked for 5 s, clear for 2 s (R43). -/
def beamTime : BeamLevel → Nat
  | .blocked => 5 * second
  | .clear => 2 * second

/-- The filtered state that a level held for its time gives (R43). -/
def filteredBy : BeamLevel → BeamFilter
  | .blocked => .full
  | .clear => .notFull

/-- The debounced state of a paddle. -/
def Sense.paddle (s : Sense) : Paddle → Option PaddleState
  | .water => s.waterPaddle
  | .ice => s.icePaddle

/-- A paddle's debounced state changed. -/
def Sense.setPaddle (st : PaddleState) (s : Sense) : Paddle → Sense
  | .water => { s with waterPaddle := some st }
  | .ice => { s with icePaddle := some st }

/-- The pin of a paddle. -/
def Sense.paddlePin (s : Sense) : Paddle → Pin PaddleState
  | .water => s.waterPin
  | .ice => s.icePin

/-- The level of a paddle's pin told. -/
def Sense.tellPaddle (now : Nat) (st : PaddleState) (s : Sense) : Paddle → Sense
  | .water => { s with waterPin := s.waterPin.tell now st }
  | .ice => { s with icePin := s.icePin.tell now st }

/-- The level of the freezer door's pin told. -/
def Part.tellDoor (d : Door) (p : Part) : Part := { p with sense.doorPin := p.sense.doorPin.tell p.clock.now d }

/-- The level of a paddle's pin told. -/
def Part.tellPaddle (pad : Paddle) (st : PaddleState) (p : Part) : Part :=
  { p with sense := p.sense.tellPaddle p.clock.now st pad }

/-- The level of the ejector home switch's pin told. -/
def Part.tellHome (c : Contact) (p : Part) : Part := { p with sense.homePin := p.sense.homePin.tell p.clock.now c }

/-- The level of the chute-flap open switch's pin told. -/
def Part.tellFlap (c : Contact) (p : Part) : Part := { p with sense.flapPin := p.sense.flapPin.tell p.clock.now c }

/-- The level of the bin beam told. -/
def Part.tellBeam (l : BeamLevel) (p : Part) : Part := { p with sense.beamPin := p.sense.beamPin.tell p.clock.now l }

/-- The freezer door has held a level for its debounce time. -/
def Part.doorHeld (d : Door) (p : Part) : Bool := p.sense.doorPin.held p.clock.now doorTime d

/-- A paddle has held a level for its debounce time. -/
def Part.paddleHeld (pad : Paddle) (st : PaddleState) (p : Part) : Bool :=
  (p.sense.paddlePin pad).held p.clock.now paddleTime st

/-- The ejector home switch has held a level for its debounce time. -/
def Part.homeHeld (c : Contact) (p : Part) : Bool := p.sense.homePin.held p.clock.now switchTime c

/-- The chute-flap open switch has held a level for its debounce time. -/
def Part.flapHeld (c : Contact) (p : Part) : Bool := p.sense.flapPin.held p.clock.now switchTime c

/-- The bin beam has held a level for its filter time. -/
def Part.beamHeld (l : BeamLevel) (p : Part) : Bool := p.sense.beamPin.held p.clock.now (beamTime l) l

/-- The level of the beam that has been held for its filter time and whose filtered state differs: a change that is due. -/
def Part.beamDue (p : Part) : Option BeamLevel :=
  p.sense.beamPin.level.filter fun l => p.beamHeld l && p.sense.beam != filteredBy l

/-- The ejector home switch as it stands once everything that comes at this moment has been taken: a change that is due
counts (R118). -/
def Part.homeSettled (p : Part) : Option Contact :=
  (p.sense.homePin.due p.clock.now switchTime p.sense.home).or p.sense.home

/-- The longest discharge of a conversion, in µs: the count at which it ends without a threshold crossing (R28). -/
def longestDischarge : Nat := 65535

/-- The drive of a thermistor's pin: high while its conversion charges, released while it discharges, and low while the
channel is not converted (R28). -/
def Part.thermistorDrive (ch : ChannelNo) (p : Part) : PinDrive :=
  if p.resetting.isSome ∨ p.sense.scan.current ≠ ch then .low
  else if p.clock.now < p.sense.scan.startedAt + millisecond then .high
  else .released

end Sys2Proof.Machine
end

