-- ==== Sys2Proof/Machine/Readings.lean ====
section
/-! DEFINITION. Thermistor channels: the classes of a raw value, rings, faults, curves and readings (R28 to R36). -/

namespace Sys2Proof.Machine

/-- The class of a raw value (R29, Table 2-2). -/
def classify (raw : Nat) : ConvClass :=
  if raw < 500 then .short else if raw < 65535 then .good else .opened

/-- The mean of a settled ring, rounded down (R31). -/
def ringMean (ring : List Nat) : Option Nat :=
  if ring.length = 4 then some (ring.sum / 4) else none

/-- A good value joins the ring as its newest entry; a full ring gives up its oldest (R31). -/
def pushRing (ring : List Nat) (raw : Nat) : List Nat :=
  if ring.length < 4 then ring ++ [raw] else ring.tail ++ [raw]

/-- A bad conversion of a channel not in FAULT; the third in a row makes a fault (R33). -/
def Channel.bad (c : Channel) : Channel :=
  if c.badRun + 1 < 3 then { c with badRun := c.badRun + 1 }
  else { c with badRun := 3, fault := true, heldMean := ringMean c.ring, goodRun := [] }

/-- A good conversion of a channel in FAULT; the eighth in a row ends the fault and refills the ring (R34). -/
def Channel.recover (raw : Nat) (c : Channel) : Channel :=
  if c.goodRun.length + 1 < 8 then { c with goodRun := c.goodRun ++ [raw] }
  else { c with ring := (c.goodRun ++ [raw]).drop 4, fault := false, badRun := 0, heldMean := none, goodRun := [] }

/-- What the end of a conversion does to its channel (R29 to R34). -/
def Channel.convert (raw : Nat) (c : Channel) : Channel :=
  let c := { c with last := some (classify raw) }
  match classify raw, c.fault with
  | .good, false => { c with ring := pushRing c.ring raw, badRun := 0 }
  | .good, true => c.recover raw
  | _, false => c.bad
  | _, true => { c with goodRun := [] }

/-- A quotient rounded to the nearest whole number, a half up. -/
def roundHalfUp (a b : Int) : Int := (2 * a + b) / (2 * b)

/-- A mean count taken through a curve table (R35). The change from the warmer point is rounded with a half up, so a
result half-way between two steps is the colder one. -/
def throughCurve : List CurvePoint → Nat → ReadingStatus × Int
  | [], _ => (.range, 0)
  | [q], m => (if m = q.count then .ok else .range, q.temp)
  | q :: r :: rest, m =>
    if m < q.count then (.range, q.temp)
    else if m < r.count then
      (.ok, q.temp - roundHalfUp ((q.temp - r.temp) * ((m : Int) - q.count)) ((r.count : Int) - q.count))
    else throughCurve (r :: rest) m

/-- The curve table of a class (R35). -/
def Sense.curve (s : Sense) : CurveClass → List CurvePoint
  | .a => s.curveA
  | .b => s.curveB

/-- A channel's reading through a curve table (R32, Table 2-3). -/
def Channel.readThrough (curve : List CurvePoint) (c : Channel) : Reading :=
  if c.fault then
    { status := .fault, temp := c.heldMean.map fun m => (throughCurve curve m).2, mean := c.heldMean, last := c.last }
  else
    match ringMean c.ring with
    | none => { status := .notReady, temp := none, mean := none, last := c.last }
    | some m =>
      { status := (throughCurve curve m).1, temp := some (throughCurve curve m).2, mean := some m, last := c.last }

/-- The reading of a channel through the table of its class (R32, R36). -/
def Part.reading (ch : ChannelNo) (p : Part) : Reading :=
  p.sense.channels[ch].readThrough (p.sense.curve p.supervision.params.classes[ch])

/-- T0 EVAP, which the Defrost Controller reads (Table 2-1). -/
def evap : ChannelNo := 0

/-- T2 MOLD, which the Ice Maker Controller reads (Table 2-1). -/
def mold : ChannelNo := 2

/-- T3 TANK, which the Dispenser Controller reads (Table 2-1). -/
def tank : ChannelNo := 3

/-- A channel is in FAULT. -/
def Part.inFault (ch : ChannelNo) (p : Part) : Bool := p.sense.channels[ch].fault

/-- A reading that the jobs use as a measurement: status OK or RANGE, with its temperature (Table 2-3). -/
def Reading.measured (r : Reading) : Option Int :=
  match r.status with
  | .ok | .range => r.temp
  | .notReady | .fault => none

end Sys2Proof.Machine
end

