-- ==== Sys2Proof/Machine/DefrostControl.lean ====
section
/-! DEFINITION. The Defrost Controller: credit, the grant protocol, the cycle, adaptation and the log (R147 to R173). -/

namespace Sys2Proof.Machine

/-- The credit accrues in ACCRUING, WANTED and DEFERRED (R148). -/
def DefrostState.accrues : DefrostState → Bool
  | .accruing | .wanted | .deferred => true
  | .prep | .heating | .dwell | .recover => false

/-- Minutes added to the frost credit, which stops at 65,535 (R148, R149). -/
def Defrost.addCredit (m : Nat) (d : Defrost) : Defrost := { d with credit := sat16 (d.credit + m) }

/-- One second of compressor running (R148). -/
def Defrost.compressorSecond (d : Defrost) : Defrost :=
  if d.compressorRunning then
    if d.compressorSeconds + 1 < 60 then { d with compressorSeconds := d.compressorSeconds + 1 }
    else { d with compressorSeconds := 0 }.addCredit 1
  else d

/-- One second of the freezer door, with the DOOR_WEIGHT of a completed minute (R148). -/
def Defrost.doorSecond (isOpen : Bool) (weight : Nat) (d : Defrost) : Defrost :=
  if isOpen then
    if d.doorSeconds + 1 < 60 then { d with doorSeconds := d.doorSeconds + 1 }
    else { d with doorSeconds := 0 }.addCredit weight
  else d

/-- The frost credit's part in an advance of the part seconds count (R148). -/
def Part.frostSecond (p : Part) : Part :=
  if p.defrost.state.accrues then
    { p with
      defrost := p.defrost.compressorSecond.doorSecond (p.sense.door == some .opened) p.supervision.params.doorWeight }
  else p

/-- A fill completion handed by the Ice Maker Controller (R149). -/
def Part.fillCompletion (p : Part) : Part :=
  if p.defrost.state.accrues then { p with defrost := p.defrost.addCredit p.supervision.params.fillWeight } else p

/-- The silent-want time as it starts at an entry into WANTED or a change of SILENT: from 0 while SILENT is set (R157). -/
def Part.silentWantFromZero (p : Part) : Stopwatch :=
  if p.supervision.silent then .fromZero p.clock.now else {}

/-- Entry into WANTED from ACCRUING (R151). -/
def Part.enterWanted (p : Part) : Part :=
  (Part.notify .defrostWanted
    { p with
      defrost.wantTime := .fromZero p.clock.now
      defrost.silentWant := p.silentWantFromZero }).setDefrostState .wanted

/-- The comparison of the credit with the target, in ACCRUING (R151). -/
def Part.compareTarget (p : Part) : Part :=
  if p.defrost.state = .accruing ∧ p.defrost.target ≤ p.defrost.credit then p.enterWanted else p

/-- The defrost cycle record changed. -/
def Part.updateCycle (f : Cycle → Cycle) (p : Part) : Part := { p with defrost.cycle := p.defrost.cycle.map f }

/-- A flag of the cycle that stands in the cycle record and in the ticket: SENSOR (R161, R162, R166). -/
def Part.flagDefrostSensor (p : Part) : Part :=
  (p.updateCycle fun c => { c with sensor := true }).updateSlot p.pool.defrostSlot
    (Ticket.withProgress fun g => { g with sensor := true })

/-- Entry into HEATING (R161). -/
def Part.enterHeating (p : Part) : Part :=
  let ungranted := p.defrost.cycle.any (·.ungranted)
  let p := match p.pool.defrostSlot with
    | none => p
    | some n => (p.activate n).updateTicket n (Ticket.withProgress fun g => { g with ungranted := ungranted })
  let p := p.updateCycle fun c =>
    { c with
      heatingStart := some p.clock.partSeconds
      heatingFrom := some p.clock.now
      compressorOn := c.compressorOn || p.defrost.compressorRunning }
  let p := (p.raiseOwner 0).raiseOwner 1
  let p := if p.inFault evap then p.flagDefrostSensor else p
  p.setDefrostState .heating

/-- The wait of PREP: HEATING begins once the ice maker, as last handed, is out of HARVEST_HEAT and EJECT (R159). -/
def Part.prepWait (p : Part) : Part :=
  if p.defrost.state = .prep ∧ p.defrost.iceCopy.holdsHeating = false then p.enterHeating else p

/-- Entry into PREP (R158). -/
def Part.enterPrep (forced ungranted : Bool) (p : Part) : Part :=
  let (n, p) := p.draw .defrostCycle .defrost none {}
  let p :=
    { p with
      pool.defrostSlot := n
      defrost.cycle := some
        { startTime := p.clock.partSeconds, creditAtStart := p.defrost.credit, forced := forced, ungranted := ungranted }
      defrost.wantTime := {}
      defrost.silentWant := {}
      defrost.deferEnd := none }
  (p.setDefrostState .prep).prepWait

/-- Entry into DEFERRED for a count of minutes (R154). -/
def Part.enterDeferred (minutes : Nat) (p : Part) : Part :=
  Part.setDefrostState .deferred
    { p with
      defrost.deferEnd := some (p.clock.now + minutes * minute)
      defrost.silentWant := {} }

/-- The end of the defer timer (R154). -/
def Part.endDefer (p : Part) : Part :=
  (Part.notify .defrostWanted
    { p with
      defrost.deferEnd := none
      defrost.silentWant := p.silentWantFromZero }).setDefrostState .wanted

/-- STARVED: more than a quarter of the H0 slots were denied (R164). -/
def Cycle.isStarved (c : Cycle) : Bool := c.h0Slots < 4 * c.h0Denied

/-- The end of heating (R164), and the entry into DWELL (R165). -/
def Part.endHeating (reason : EndReason) (p : Part) : Part :=
  let p := p.dropOwner 0
  let p := p.updateCycle fun c =>
    { c with
      heatSeconds := p.clock.partSeconds - c.heatingStart.getD p.clock.partSeconds
      endReason := some reason
      starved := c.isStarved }
  let heat := (p.defrost.cycle.map (·.heatSeconds)).getD 0
  let starved := p.defrost.cycle.any (·.starved)
  let p := p.updateSlot p.pool.defrostSlot
    (Ticket.withProgress fun g => { g with measured := sat16 heat, starved := starved })
  Part.setDefrostState .dwell
    { p with defrost.dwellEnd := some (p.clock.now + p.supervision.params.dripTime * minute) }

/-- The end of DWELL, and the entry into RECOVER (R165, R166). -/
def Part.endDwell (p : Part) : Part :=
  let p := (p.dropOwner 1).notify .defrostDone
  let p :=
    { p with
      defrost.dwellEnd := none
      defrost.recoverEnd := some (p.clock.now + p.supervision.params.recoverLimit * minute) }
  let p := if p.inFault evap then p.flagDefrostSensor else p
  p.setDefrostState .recover

/-- The target after a cycle (R168, Table 7-3). -/
def adaptTarget (ps : Params) (target : Nat) (c : Cycle) : Nat :=
  if c.starved || c.sensor || c.ungranted || c.endReason == some .aborted then target
  else if c.endReason = some .heatLimit then ps.defrostMinH * 60
  else if c.heatSeconds < ps.shortHeat * 60 then min (target + ps.adaptStep * 60) (ps.defrostMaxH * 60)
  else if ps.longHeat * 60 < c.heatSeconds then max (target - ps.adaptStep * 60) (ps.defrostMinH * 60)
  else target

/-- The log record of a cycle (R169). -/
def Cycle.record (reason : EndReason) (targetAfter : Nat) (c : Cycle) : LogRecord :=
  { startTime := c.startTime, creditAtStart := c.creditAtStart, heatSeconds := c.heatSeconds, h0Denied := c.h0Denied,
    h1Denied := c.h1Denied, peak := c.peak, endReason := reason, forced := c.forced, ungranted := c.ungranted,
    starved := c.starved, sensor := c.sensor, compressorOn := c.compressorOn, targetAfter := targetAfter }

/-- A record joins the ring of 8 as the newest (R170). -/
def pushLog (log : List LogRecord) (r : LogRecord) : List LogRecord :=
  if log.length < 8 then log ++ [r] else log.tail ++ [r]

/-- A log record is written from the cycle record (R169, R170). -/
def Part.writeLog (reason : EndReason) (targetAfter : Nat) (p : Part) : Part :=
  match p.defrost.cycle with
  | none => p
  | some c => { p with defrost.log := pushLog p.defrost.log (c.record reason targetAfter) }

/-- The outcome that follows an end reason (R164). -/
def EndReason.outcome : EndReason → TicketOutcome
  | .terminated => .complete
  | .heatLimit => .heatLimit
  | .sensor => .sensor
  | .aborted => .aborted
  | .reset => .aborted

/-- The end of RECOVER (R166). -/
def Part.endRecover (p : Part) : Part :=
  match p.defrost.cycle with
  | none => p
  | some c =>
    let reason := c.endReason.getD .terminated
    let target := adaptTarget p.supervision.params p.defrost.target c
    let p := { p with defrost.target := target }
    let p := p.writeLog reason target
    let p := p.finishSlot p.pool.defrostSlot reason.outcome
    let p :=
      { p with
        defrost.credit := 0
        defrost.compressorSeconds := 0
        defrost.doorSeconds := 0
        defrost.cycle := none
        defrost.recoverEnd := none }
    (p.notify .fanRelease).setDefrostState .accruing

/-- DEFROST_ABORT in PREP (R160). -/
def Part.abortPrep (p : Part) : Part :=
  let p := p.finishSlot p.pool.defrostSlot .aborted
  let p := p.writeLog .aborted p.defrost.target
  (Part.setDefrostState .accruing { p with defrost.cycle := none }).compareTarget

/-- The RESET log record of a RESTART taken in PREP through RECOVER (R169, R173). -/
def Part.writeResetRecord (p : Part) : Part :=
  let p := if p.defrost.state = .heating then
      p.updateCycle fun c => { c with heatSeconds := p.clock.partSeconds - c.heatingStart.getD p.clock.partSeconds }
    else p
  p.writeLog .reset p.defrost.target

/-- A higher EVAP temperature becomes the peak (R161, R165). -/
def Cycle.seePeak (t : Int) (c : Cycle) : Cycle :=
  { c with peak := some (match c.peak with | none => t | some u => max u t) }

/-- The limit of the heating has been reached, compared in force: the full limit, or half of it with EVAP in FAULT (R162). -/
def Part.heatLimitReached (p : Part) : Bool :=
  match p.defrost.state, p.defrost.cycle.bind (·.heatingFrom) with
  | .heating, some t =>
    t + p.supervision.params.defrostHeatLimit * (if p.inFault evap then 30 else 60) * second ≤ p.clock.now
  | _, _ => false

/-- The limit of the heating is compared, and ends it when reached, with reason SENSOR or HEAT_LIMIT (R162). -/
def Part.compareHeatLimit (p : Part) : Part :=
  if p.heatLimitReached then p.endHeating (if p.inFault evap then .sensor else .heatLimit) else p

/-- A reading of EVAP handed to the Defrost Controller; `entered` says that the channel has just entered FAULT
(R161, R162, R165, R166). -/
def Part.evapReading (entered : Bool) (p : Part) : Part :=
  match p.defrost.state, (p.reading evap).measured with
  | .heating, some t =>
    let p := p.updateCycle (Cycle.seePeak t)
    if p.supervision.params.terminateTemp ≤ t then p.endHeating .terminated else p
  | .heating, none => if entered then p.flagDefrostSensor.compareHeatLimit else p
  | .dwell, some t => p.updateCycle (Cycle.seePeak t)
  | .recover, some t => if t ≤ p.supervision.params.fanStartTemp then p.endRecover else p
  | .recover, none => if entered then p.flagDefrostSensor else p
  | _, _ => p

/-- WANT_LIMIT reached, compared in force (R156). -/
def Part.wantLimitDue (p : Part) : Bool :=
  (p.defrost.state == .wanted || p.defrost.state == .deferred) && p.supervision.params.wantLimit != 0 &&
    p.supervision.params.wantLimit * minute ≤ p.defrost.wantTime.read p.clock.now

/-- The want limit is compared, and takes the controller to PREP, UNGRANTED (R156). -/
def Part.compareWantLimit (p : Part) : Part := if p.wantLimitDue then p.enterPrep false true else p

/-- 60 minutes in WANTED while SILENT (R157). -/
def Part.silentWantDue (p : Part) : Bool :=
  p.defrost.state == .wanted && p.supervision.silent && 60 * minute ≤ p.defrost.silentWant.read p.clock.now

/-- The target is held within the range of DEFROST_MIN_H and DEFROST_MAX_H (R150). -/
def Part.clampTarget (p : Part) : Part :=
  { p with
    defrost.target :=
      max (p.supervision.params.defrostMinH * 60) (min p.defrost.target (p.supervision.params.defrostMaxH * 60)) }

end Sys2Proof.Machine
end

