-- ==== Sys2Proof/Machine/LineControl.lean ====
section
/-! DEFINITION. The Water Line Controller: valves, claims, grants, suspension, SETTLE, supply, leak and filter
(R66 to R93). -/

namespace Sys2Proof.Machine

/-- The time of a line SETTLE: 500 ms (R79). -/
def lineSettleTime : Nat := 500 * millisecond

/-- Every valve closes, in one move (R66). -/
def Line.shut (l : Line) : Line := { l with inlet := false, moldFill := false, dispense := false }

/-- The user's valve and the inlet open, in one move, and the line state becomes OPEN (R66, R71). -/
def Line.openFor (u : LineUser) (l : Line) : Line :=
  { l with
    inlet := true
    moldFill := decide (u = .fill)
    dispense := decide (u = .dispense)
    state := .opened
    owner := some u
    closingOwner := none
    ending := none
    settleEnd := none }

/-- The open time stops. -/
def Work.stopOpen (now : Nat) (w : Work) : Work := { w with openTime := w.openTime.stop now }

/-- The open time goes on, and the no-flow time starts from 0 (R74, R81). -/
def Work.resume (now : Nat) (w : Work) : Work := { w with openTime := w.openTime.start now, noFlowFrom := now }

/-- The valves close and the line enters SETTLE for a closing owner (R77, R78, R79). -/
def Line.toSettle (now : Nat) (u : LineUser) (ending : Option EndingReason) (l : Line) : Line :=
  { l.shut with
    state := .settle
    owner := none
    closingOwner := some u
    ending := ending
    settleEnd := some (now + lineSettleTime) }

/-- The line becomes IDLE with owner NONE; the closing owner and its work record are cleared (R72). -/
def Line.toIdle (l : Line) : Line :=
  { l.shut with
    state := .idle, owner := none, closingOwner := none, work := none, ending := none, settleEnd := none }

/-- The pulse target for an amount in mL, to the nearest whole pulse, a half up (R76). -/
def pulseTarget (flowK ml : Nat) : Nat := (2 * (ml * flowK) + 1000) / 2000

/-- Pulses in whole mL, rounded down (R80). -/
def pulsesToMl (flowK pulses : Nat) : Nat := pulses * 1000 / flowK

/-- The overshoot of a count of pulses over a target, in mL (R80). -/
def overshootMl (flowK pulses : Nat) : Option Nat → Nat
  | none => 0
  | some t => pulsesToMl flowK (pulses - t)

/-- The target of a ticket that is granted the line (R76). -/
def Part.targetOf (u : LineUser) (n : TicketNo) (p : Part) : Option Nat :=
  match u with
  | .fill => some (pulseTarget p.supervision.params.flowK p.supervision.params.fillVolume)
  | .dispense => (p.ticket n).request.amount.map (pulseTarget p.supervision.params.flowK)

/-- Steps 1 to 4 of a grant: owner, work record, valves, leak record (R71). -/
def Part.openLine (u : LineUser) (n : TicketNo) (p : Part) : Part :=
  { p with
    line :=
      { p.line.openFor u with
        work := some
          { ticket := n, pulses := 0, target := p.targetOf u n, openTime := .fromZero p.clock.now,
            noFlowFrom := p.clock.now }
        fillClaim := if u = .fill then none else p.line.fillClaim
        dispenseClaim := if u = .dispense then none else p.line.dispenseClaim
        leakList := [] } }

/-- A fill claim is granted: the MOLD_FILL becomes ACTIVE, the ice maker enters FILLING and H3 is raised (R71, R98). -/
def Part.grantFill (n : TicketNo) (p : Part) : Part :=
  (((p.openLine .fill n).activate n).setIceState .filling).raiseOwner 3

/-- The line is paused for the freezer door, if it is OPEN with owner DISPENSE (R81). -/
def Part.pauseLine (p : Part) : Part :=
  if p.line.state = .opened ∧ p.line.owner = some .dispense then
    { p with
      line := { p.line.shut with state := .held, work := p.line.work.map (·.stopOpen p.clock.now) } }
  else p

/-- The line is resumed from HELD (R81). -/
def Part.resumeLine (p : Part) : Part :=
  if p.line.state = .held then
    { p with line := { p.line.openFor .dispense with work := p.line.work.map (·.resume p.clock.now) } }
  else p

/-- The head ticket of the dispenser queue is changed. -/
def Part.updateHead (f : Ticket → Ticket) (p : Part) : Part := p.updateSlot p.pool.queue.head? f

/-- The ticket that becomes ACTIVE at the outlet takes its start notes (R123): the paddle-started flag, and for a water
kind the tank temperature. -/
def Part.activateHead (n : TicketNo) (p : Part) : Part :=
  (p.activate n).updateTicket n fun t =>
    t.withProgress fun g =>
      { g with
        paddleStarted := p.outlet.paddleStarted
        tankTemp := if t.isWater then p.outlet.tankNote else none }

/-- A dispense claim is granted: the ticket becomes ACTIVE and the outlet enters RUNNING, or PAUSED with the line paused
at once while the door is OPEN (R71, R128). -/
def Part.grantDispense (n : TicketNo) (p : Part) : Part :=
  let p := (p.openLine .dispense n).activateHead n
  if p.sense.door = some .opened then Part.pauseLine { p with outlet.state := .paused }
  else { p with outlet.state := .running }

/-- The outcome that follows an ending reason (R79). -/
def EndingReason.outcome : EndingReason → TicketOutcome
  | .target => .complete
  | .timeout => .timeout
  | .noWater => .noWater
  | .withdrawn => .parked
  | .release o => o

/-- The claimant is told that its work is ending: its ticket becomes STOPPING, and for a dispense the outlet enters
STOPPING with the outcome the ending will carry, and the pause timer stops (R77, R99, R121, R129, R138). -/
def Part.tellEnding (u : LineUser) (o : TicketOutcome) (p : Part) : Part :=
  match u with
  | .fill => p.updateSlot p.pool.iceSlot Ticket.stopping
  | .dispense =>
    { p.updateHead Ticket.stopping with outlet.state := .stopping, outlet.ending := some o, outlet.pauseEnd := none }

/-- A closing event of the work that owns the line, in OPEN or HELD: the valves close, the line enters SETTLE with this
ending reason, and the claimant is told (R77, R78, R82, R83). Elsewhere the work has already begun to end, and nothing
changes (R78, R79). -/
def Part.endWork (reason : EndingReason) (p : Part) : Part :=
  match p.line.state, p.line.owner with
  | .opened, some u | .held, some u =>
    Part.tellEnding u reason.outcome
      { p with
        line := { p.line.toSettle p.clock.now u (some reason) with work := p.line.work.map (·.stopOpen p.clock.now) } }
  | _, _ => p

/-- A dispense claim suspends the fill that owns the line, and waits (R73). -/
def Part.suspendFill (n : TicketNo) (p : Part) : Part :=
  { p with
    line :=
      { p.line.toSettle p.clock.now .fill none with
        work := none
        suspended := p.line.work.map (·.stopOpen p.clock.now)
        dispenseClaim := some n } }

/-- The suspended fill is given the line back, or ends by TARGET in a new SETTLE if its count reaches its target (R74). -/
def Part.resumeFill (w : Work) (p : Part) : Part :=
  if w.target.any (· ≤ w.pulses) then
    Part.tellEnding .fill .complete
      { p with line := { p.line.toSettle p.clock.now .fill (some .target) with work := some w, suspended := none } }
  else
    { p with line := { p.line.openFor .fill with work := some (w.resume p.clock.now), suspended := none } }

/-- The line is IDLE, the supply OK and the leak latch clear: a fill may have the line (R69, R74). -/
def Line.freeForFill (l : Line) : Bool := l.state == .idle && l.supply == .ok && !l.leakLatch

/-- The waiting fill is judged again: a suspended record resumes (FILL_RESUME), else a fill claim is granted
(R69, R72, R74, R84, R87). -/
def Part.judgeFill (p : Part) : Part :=
  if p.line.freeForFill then
    match p.line.suspended, p.line.fillClaim with
    | some w, _ => p.resumeFill w
    | none, some n => p.grantFill n
    | none, none => p
  else p

/-- The line is given on at the end of a SETTLE: a waiting dispense claim, then the fill, then nobody (R72). -/
def Part.giveLine (p : Part) : Part :=
  let p := { p with line := p.line.toIdle }
  match p.line.dispenseClaim with
  | some n => p.grantDispense n
  | none => p.judgeFill

/-- A ticket's measured amount and overshoot from its pulses (R79, R80). -/
def Part.writeAmounts (w : Work) (p : Part) : Part :=
  p.updateTicket w.ticket (Ticket.withProgress fun g =>
    { g with
      measured := sat16 (pulsesToMl p.supervision.params.flowK w.pulses)
      overshoot := sat16 (overshootMl p.supervision.params.flowK w.pulses w.target) })

/-- The open time of the work that owns the line has reached its limit, compared in force (R82). -/
def Part.openLimitReached (p : Part) : Bool :=
  match p.line.state, p.line.owner, p.line.work with
  | .opened, some u, some w =>
    (match u with
      | .fill => p.supervision.params.fillOpenLimit
      | .dispense => p.supervision.params.dispenseOpenLimit) * second ≤ w.openTime.read p.clock.now
  | _, _, _ => false

/-- The open time is compared with its limit (R82). -/
def Part.compareOpenLimit (p : Part) : Part := if p.openLimitReached then p.endWork .timeout else p

/-- The no-flow time has reached NO_FLOW_WINDOW, compared in force (R83). -/
def Part.noFlowReached (p : Part) : Bool :=
  match p.line.state, p.line.work with
  | .opened, some w => w.noFlowFrom + p.supervision.params.noFlowWindow * second ≤ p.clock.now
  | _, _ => false

/-- The no-flow time is compared; its expiry ends the work NO_WATER, makes the supply DRY, starts the DRY_RETRY timer and
sets LINE_DRY (R83). -/
def Part.compareNoFlow (p : Part) : Part :=
  if p.noFlowReached then
    let p := p.endWork .noWater
    Part.notify .lineDry
      { p with
        line.supply := .dry
        line.dryRetry := some (p.clock.now + p.supervision.params.dryRetry * second) }
  else p

/-- The filter status for the totals and limits (Table 4-3). -/
def filterStatusOf (ps : Params) (ml seconds : Nat) : FilterStatus :=
  if ps.filterLimitL * 1000 ≤ ml ∨ ps.filterLimitDays * 86400 ≤ seconds then .due
  else if ps.filterLimitL * 900 ≤ ml ∨ ps.filterLimitDays * 77760 ≤ seconds then .soon
  else .good

/-- The filter status is judged anew; a change to DUE sets FILTER_DUE (R89). -/
def Part.judgeFilter (p : Part) : Part :=
  let st := filterStatusOf p.supervision.params p.line.filterMl p.line.filterSeconds
  let q := { p with line.filterStatus := st }
  if st = .due ∧ p.line.filterStatus ≠ .due then q.notify .filterDue else q

/-- A flow pulse is added to the filter totals (R88). -/
def Part.filterPulse (p : Part) : Part :=
  let k := p.supervision.params.flowK
  let r := p.line.filterRem + 1000
  Part.judgeFilter
    { p with
      line.filterMl := sat32 (p.line.filterMl + r / k)
      line.filterRem := r % k }

/-- The filter seconds' part in an advance of the part seconds count (R89). -/
def Part.filterSecond (p : Part) : Part :=
  Part.judgeFilter { p with line.filterSeconds := sat32 (p.line.filterSeconds + 1) }

/-- The leak latch is set (R86). -/
def Part.setLeakLatch (p : Part) : Part :=
  Part.notify .leak
    { p with line.leakLatch := true, line.leakTime := some p.clock.partSeconds, line.leakList := [] }

/-- A leak pulse: entries older than LEAK_WINDOW go, this one joins, and LEAK_PULSES of them set the latch (R85). -/
def Part.leakPulse (p : Part) : Part :=
  let kept := p.line.leakList.filter fun t => p.clock.now ≤ t + p.supervision.params.leakWindow * second
  let list := kept ++ [p.clock.now]
  if p.supervision.params.leakPulses ≤ list.length then p.setLeakLatch else { p with line.leakList := list }

/-- One pulse credited to a work record. -/
def Work.credit (w : Work) : Work := { w with pulses := w.pulses + 1 }

/-- The target check of a pulse credited in OPEN or HELD (R77). -/
def Part.checkTarget (p : Part) : Part :=
  match p.line.work with
  | none => p
  | some w => if w.target.any (· ≤ w.pulses) then p.endWork .target else p

/-- A flow pulse credited by the line state at the moment it is taken (R68). -/
def Part.creditPulse (p : Part) : Part :=
  match p.line.state with
  | .opened =>
    Part.checkTarget
      { p with
        line :=
          { p.line with
            work := p.line.work.map fun w => { w.credit with noFlowFrom := p.clock.now }
            supply := .ok
            dryRetry := none } }
  | .held => Part.checkTarget { p with line.work := p.line.work.map Work.credit }
  | .settle =>
    match p.line.work, p.line.closingOwner with
    | some w, _ => { p with line.work := some w.credit }
    | none, some .fill => { p with line.suspended := p.line.suspended.map Work.credit }
    | none, _ => p
  | .idle => if p.line.leakLatch then p else p.leakPulse

/-- The end of the DRY_RETRY timer: the supply becomes OK, and the waiting fill is judged again (R84). -/
def Part.endDryRetry (p : Part) : Part :=
  Part.judgeFill { p with line.supply := .ok, line.dryRetry := none }

/-- CLEAR_LEAK: latch, leak time and list are cleared, and the waiting fill is judged again (R87). -/
def Part.clearLeakLatch (p : Part) : Part :=
  Part.judgeFill { p with line.leakLatch := false, line.leakTime := none, line.leakList := [] }

end Sys2Proof.Machine
end

