-- ==== Sys2Proof/Machine/IceControl.lean ====
section
/-! DEFINITION. The Ice Maker Controller: homing, fill, freeze, harvest heat, eject, settle, the stock estimate, the ejector
test and ICE_CONTROL (R94 to R118). -/

namespace Sys2Proof.Machine

/-- The leave-home deadline of an eject attempt: 2 s (R105). -/
def leaveHomeTime : Nat := 2 * second

/-- The heat that follows a first failed attempt: 60 s (R106). -/
def ejectRetryTime : Nat := 60 * second

/-- The time of ice maker SETTLE: 10 s (R109). -/
def iceSettleTime : Nat := 10 * second

/-- The stock estimate takes a new value; a change is handed to R102 (R110). -/
def Part.setStock (n : Nat) (p : Part) : Part :=
  if p.ice.stock = n then p else Part.harvestAttempt { p with ice.stock := n }

/-- The cubes that an auger run removes (R111). -/
def cubesOf (rate ms : Nat) : Nat := ms * rate / 10000

/-- An auger run time reported by the Dispenser Controller, in ms (R111). -/
def Part.reportAuger (ms : Nat) (p : Part) : Part :=
  p.setStock (p.ice.stock - cubesOf p.supervision.params.augerRate ms)

/-- Every timer and step of an eject attempt stops, and the ejector output is released (R95, R105). -/
def IceMaker.stopEjector (c : IceMaker) : IceMaker :=
  { c with ejector := false, leftHome := false, leaveDeadline := none, returnDeadline := none }

/-- Entry into FAULT (R108), after the ticket, if any, has ended. -/
def Part.enterIceFault (p : Part) : Part :=
  let p :=
    { p with
      ice :=
        { p.ice.stopEjector with
          homingDeadline := none, retryEnd := none, heatLimitMark := false, parkPending := false, attempts := 0 } }
  (((p.dropOwner 2).dropOwner 3).notify .iceFault).setIceState .fault

/-- Entry into FREEZING (R100). -/
def Part.enterFreezing (p : Part) : Part :=
  Part.setIceState .freezing { p with ice.coldRunStart := none, ice.notedSensor := false }

/-- Entry into FILL_WAIT, which draws (R98); a refused draw counts here, a granted one follows in `redraw` (log 8). -/
def Part.enterFillWait (p : Part) : Part := (p.setIceState .fillWait).iceAttempt

/-- Entry into PARKED (R114). -/
def Part.enterParked (p : Part) : Part :=
  Part.setIceState .parked { p with ice.parkPending := false, ice.coldRunStart := none }

/-- Homing succeeds (R96). -/
def Part.homingSucceeds (p : Part) : Part :=
  Part.enterFreezing
    { p with
      ice :=
        { p.ice.stopEjector with
          homingDeadline := none, moldLoaded := true, freezeStart := some p.clock.partSeconds, offHome := false } }

/-- The wait or the run of homing, by the home switch as it stands (R96). -/
def Part.homeNow (p : Part) : Part :=
  match p.sense.home with
  | none => { p with ice.homingDeadline := some (p.clock.now + p.supervision.params.ejectLimit * second) }
  | some .made => p.homingSucceeds
  | some .released =>
    { p with
      ice.ejector := true
      ice.homingDeadline := some (p.clock.now + p.supervision.params.ejectLimit * second) }

/-- Entry into HOMING (R96). -/
def Part.enterHoming (p : Part) : Part := (p.setIceState .homing).homeNow

/-- An eject attempt's drive and deadlines start (R105). -/
def Part.driveEjector (p : Part) : Part :=
  let away := p.sense.home == some .released
  { p with
    ice.ejector := true
    ice.leftHome := away
    ice.leaveDeadline := if away then none else some (p.clock.now + leaveHomeTime)
    ice.returnDeadline := some (p.clock.now + p.supervision.params.ejectLimit * second) }

/-- An eject attempt of a harvest begins: the attempt count rises by 1 (R105). -/
def Part.beginAttempt (p : Part) : Part :=
  Part.driveEjector { p with ice.attempts := p.ice.attempts + 1, ice.retryEnd := none }

/-- The heat ends, with or without the HEAT_LIMIT mark, and the ice maker enters EJECT (R104, R105). -/
def Part.endHeat (mark : Bool) (p : Part) : Part :=
  (Part.setIceState .eject
    { p with ice.heatLimitMark := mark, ice.heatStart := none, ice.heatFrom := none }).beginAttempt

/-- The limit of the harvest heat has been reached, compared in force: the full limit, or half of it with MOLD in FAULT
(R104). -/
def Part.moldLimitReached (p : Part) : Bool :=
  match p.ice.state, p.ice.heatFrom with
  | .harvestHeat, some t =>
    t + (if p.inFault mold then p.supervision.params.moldHeatLimit / 2 else p.supervision.params.moldHeatLimit) * second
      ≤ p.clock.now
  | _, _ => false

/-- The limit is compared; with MOLD in FAULT its end notes no mark (R104). -/
def Part.compareMoldLimit (p : Part) : Part := if p.moldLimitReached then p.endHeat (!p.inFault mold) else p

/-- The freeze ends, and the ice maker enters HARVEST_WAIT and takes its conditions (R100, R101, R102). -/
def Part.endFreeze (sensor : Bool) (p : Part) : Part :=
  (Part.setIceState .harvestWait { p with ice.coldRunStart := none, ice.notedSensor := sensor }).iceAttempt

/-- k times MIN_FREEZE minutes since the freeze start have been reached in the part seconds count (R100, R101, log 23). -/
def Part.minFreezeReached (k : Nat) (p : Part) : Bool :=
  match p.ice.freezeStart with
  | none => false
  | some t => t + k * p.supervision.params.minFreeze * 60 ≤ p.clock.partSeconds

/-- FREEZE_HOLD seconds since the cold-run start have passed (R100). -/
def Part.holdRun (p : Part) : Bool :=
  match p.ice.coldRunStart with
  | none => false
  | some t => t + p.supervision.params.freezeHold * second ≤ p.clock.now

/-- The freeze condition is taken (R100). -/
def Part.takeFreeze (p : Part) : Part :=
  if p.ice.state = .freezing ∧ p.inFault mold = false ∧ p.holdRun ∧ p.minFreezeReached 1 then p.endFreeze false else p

/-- The fault rule of the freeze is taken (R101). -/
def Part.takeFaultFreeze (p : Part) : Part :=
  if p.ice.state = .freezing ∧ p.inFault mold ∧ p.minFreezeReached 2 then p.endFreeze true else p

/-- A MOLD reading in FREEZING: the cold run, and then the freeze condition or the fault rule (R100, R101). -/
def Part.freezeReading (p : Part) : Part :=
  match (p.reading mold).measured with
  | some t =>
    Part.takeFreeze
      (if t ≤ p.supervision.params.harvestTemp then
        { p with ice.coldRunStart := some (p.ice.coldRunStart.getD p.clock.now) }
      else { p with ice.coldRunStart := none })
  | none => Part.takeFaultFreeze { p with ice.coldRunStart := none }

/-- A MOLD reading in HARVEST_HEAT; `entered` says that the channel has just entered FAULT (R104). -/
def Part.heatReading (entered : Bool) (p : Part) : Part :=
  match (p.reading mold).measured with
  | some t => if p.supervision.params.releaseTemp ≤ t then p.endHeat false else p
  | none =>
    if entered then
      (p.updateSlot p.pool.iceSlot (Ticket.withProgress fun g => { g with sensor := true })).compareMoldLimit
    else p

/-- A reading of MOLD handed to the Ice Maker Controller (R100, R101, R104). -/
def Part.moldReading (entered : Bool) (p : Part) : Part :=
  match p.ice.state with
  | .freezing => p.freezeReading
  | .harvestHeat => p.heatReading entered
  | _ => p

/-- The next state at the end of a fill (Table 5-2, R114). -/
def Part.afterFill (o : TicketOutcome) (loaded : Bool) (p : Part) : Part :=
  if p.ice.parkPending || o == .parked then p.enterParked
  else if o == .complete || loaded then p.enterFreezing
  else p.enterFillWait

/-- A fill is loaded when twice its credited count is at least its target (R99). -/
def Work.loaded (w : Work) : Bool := w.target.any (· ≤ 2 * w.pulses)

/-- The end report of a fill, taken by the Ice Maker Controller as one move (R99, R79). -/
def Part.fillEnded (reason : EndingReason) (w : Work) (p : Part) : Part :=
  let p := (p.writeAmounts w).finish w.ticket reason.outcome
  let p := p.dropOwner 3
  let p := if w.loaded then { p with ice.moldLoaded := true, ice.freezeStart := some p.clock.partSeconds } else p
  let p := if reason.outcome = .complete then p.fillCompletion else p
  p.afterFill reason.outcome w.loaded

/-- An attempt of a harvest succeeds (R107). -/
def Part.ejectSucceeds (p : Part) : Part :=
  let added := min p.supervision.params.cubesPerHarvest (p.supervision.params.binCapacity - p.ice.stock)
  let p := p.setStock (p.ice.stock + added)
  let p := p.updateSlot p.pool.iceSlot (Ticket.withProgress fun g => { g with measured := added })
  let p := p.finishSlot p.pool.iceSlot (if p.ice.heatLimitMark then .heatLimit else .complete)
  let p :=
    { p with
      ice :=
        { p.ice.stopEjector with
          moldLoaded := false, freezeStart := none, attempts := 0, heatLimitMark := false,
          settleEnd := some (p.clock.now + iceSettleTime) } }
  (p.dropOwner 2).setIceState .settle

/-- The ejector test in the service slot (R117). -/
def Part.ejectorTest (p : Part) : Option TicketNo :=
  match p.pool.serviceSlot with
  | none => none
  | some n => if (p.ticket n).request.load = some .ejector then some n else none

/-- The measured amount of an ejector test: whole seconds for which the ejector was driven (R117). -/
def Part.testSeconds (p : Part) : Nat := (p.clock.now - p.ice.testFrom.getD p.clock.now) / second

/-- An ejector test ends: its amount is written, the ejector is released, the ticket ends (R117, R118). -/
def Part.endEjectorTest (n : TicketNo) (o : TicketOutcome) (p : Part) : Part :=
  let p := p.updateTicket n (Ticket.withProgress fun g => { g with measured := sat16 p.testSeconds })
  Part.finish n o { p with ice := { p.ice.stopEjector with testFrom := none } }

/-- An ejector test starts: one attempt, at once, not counted among a harvest's attempts (R117). -/
def Part.startEjectorTest (p : Part) : Part :=
  Part.driveEjector { p with ice.testFrom := some p.clock.now }

/-- An ejector test is ended by CANCEL or silence; an arm away from home sets the off-home flag, and an arm at home, or one
that comes home at this very moment, leaves it (R118). A flag that an earlier test has set stays set then, so that the
next RUN still homes: the model's choice, since R118 says only that the flag is left clear (log 29). -/
def Part.abandonEjectorTest (n : TicketNo) (o : TicketOutcome) (p : Part) : Part :=
  let p := p.endEjectorTest n o
  if p.homeSettled = some .released then { p with ice.offHome := true } else p

/-- An attempt succeeds, of a test or of a harvest (R107, R117). -/
def Part.attemptSucceeds (p : Part) : Part :=
  match p.ice.state, p.ejectorTest with
  | .parked, some n => { p.endEjectorTest n .complete with ice.offHome := false }
  | .eject, _ => p.ejectSucceeds
  | _, _ => p

/-- An attempt fails: a test ends STALL into FAULT, a first attempt heats again, a second one ends STALL into FAULT
(R105, R106, R108, R117). -/
def Part.attemptFails (p : Part) : Part :=
  match p.ice.state, p.ejectorTest with
  | .parked, some n => (p.endEjectorTest n .stall).enterIceFault
  | .eject, _ =>
    let p := { p with ice := p.ice.stopEjector }
    if p.ice.attempts < 2 then { p with ice.retryEnd := some (p.clock.now + ejectRetryTime) }
    else (p.finishSlot p.pool.iceSlot .stall).enterIceFault
  | _, _ => p

/-- A change of the ejector home switch, its new state already in the Sense Unit (R96, R105). -/
def Part.homeChanged (c : Contact) (p : Part) : Part :=
  match p.ice.state, c with
  | .homing, .made => p.homingSucceeds
  | .homing, .released => p
  | .eject, .released | .parked, .released =>
    if p.ice.returnDeadline.isSome then { p with ice.leftHome := true, ice.leaveDeadline := none } else p
  | .eject, .made | .parked, .made =>
    if p.ice.returnDeadline.isSome && p.ice.leftHome then p.attemptSucceeds else p
  | _, _ => p

/-- The first reading of the ejector home switch, its state already in the Sense Unit (R42, R96). -/
def Part.homeFirstRead (p : Part) : Part := if p.ice.state = .homing then p.homeNow else p

/-- The homing deadline passes (R96, R97). -/
def Part.homingFails (p : Part) : Part := if p.ice.state = .homing then p.enterIceFault else p

/-- The end of ice maker SETTLE (R109). -/
def Part.endIceSettle (p : Part) : Part :=
  let p := if p.sense.beam = .full then { p with ice.stock := p.supervision.params.binCapacity } else p
  let p := { p with ice.settleEnd := none }
  if p.ice.parkPending then p.enterParked else p.enterFillWait

/-- A change of the filtered beam, its new state already in the Sense Unit (R110, R102). -/
def Part.beamChanged (p : Part) : Part :=
  Part.harvestAttempt
    (if p.sense.beam = .full ∧ p.ice.state ≠ .settle then { p with ice.stock := p.supervision.params.binCapacity } else p)

/-- An accepted change of BIN_CAPACITY, already in the store (R112). -/
def Part.capacityChanged (p : Part) : Part :=
  Part.harvestAttempt { p with ice.stock := min p.ice.stock p.supervision.params.binCapacity }

/-- Entry into HARVEST_HEAT with the HARVEST just drawn (R104). -/
def Part.enterHarvestHeat (n : TicketNo) (p : Part) : Part :=
  let noted := p.ice.notedSensor
  let p := { p with pool.iceSlot := some n }
  let p := (p.activate n).updateTicket n (Ticket.withProgress fun g => { g with sensor := noted })
  let p :=
    { p with
      ice.notedSensor := false
      ice.heatStart := some p.clock.partSeconds
      ice.heatFrom := some p.clock.now
      ice.heatLimitMark := false
      ice.attempts := 0 }
  (p.raiseOwner 2).setIceState .harvestHeat

/-- The MOLD_FILL just drawn enters the ice maker slot, and its fill claim is made (R98). -/
def Part.claimFill (n : TicketNo) (p : Part) : Part :=
  { p with pool.iceSlot := some n, line.fillClaim := some n }

/-- The waiting ice maker's draw, where the pool grants it (R10, R98, R102). -/
def Part.redraw (p : Part) : Part :=
  if 4 ≤ p.pool.free.length then
    match p.iceWants with
    | none => p
    | some kind =>
      match p.draw kind .iceMaker none {} with
      | (none, p) => p
      | (some n, p) => if kind = .harvest then p.enterHarvestHeat n else p.claimFill n
  else p

/-- PARK of a fill that has been granted: the line is released, or the suspended fill withdrawn, whose end report is handed
at once (R114, R75, R78). -/
def Part.parkFilling (p : Part) : Part :=
  let p := { p with ice.parkPending := true }
  match p.line.suspended with
  | some w => Part.fillEnded .withdrawn w { p with line.suspended := none }
  | none => if p.line.owner = some .fill then p.endWork (.release .parked) else p

/-- PARK in FILL_WAIT: the waiting claim is withdrawn and its ticket ends PARKED (R114, R75). -/
def Part.parkFillWait (p : Part) : Part :=
  let p := Part.enterParked { p with line.fillClaim := none }
  p.finishSlot p.pool.iceSlot .parked

/-- PARK, where it is accepted (R114); none where it is refused STATE. -/
def Part.park (p : Part) : Option Part :=
  if p.ice.parkPending then some p
  else
    match p.ice.state with
    | .fillWait => some p.parkFillWait
    | .filling => some p.parkFilling
    | .freezing | .harvestWait => some p.enterParked
    | .harvestHeat | .eject | .settle => some { p with ice.parkPending := true }
    | .parked => some p
    | .homing | .fault => none

/-- RUN, where it is accepted (R115); none where it is refused STATE. -/
def Part.runIce (p : Part) : Option Part :=
  if p.ice.state = .parked ∧ p.ejectorTest = none then
    some
      (if p.ice.offHome then Part.enterHoming { p with ice.offHome := false }
      else if p.ice.moldLoaded then p.enterFreezing
      else p.enterFillWait)
  else none

/-- RESUME, where it is accepted (R116). -/
def Part.resumeIce (p : Part) : Option Part := if p.ice.state = .fault then some p.enterHoming else none

/-- HARVEST_NOW, where it is accepted (R116). -/
def Part.harvestNow (p : Part) : Option Part := if p.ice.state = .freezing then some (p.endFreeze false) else none

end Sys2Proof.Machine
end

