-- ==== Sys2Proof/Machine/OutletControl.lean ====
section
/-! DEFINITION. The Dispenser Controller: starts, paddles, the chute flap, ice runs and jams, the freezer door, CANCEL and
silence, the duct heater (R121 to R144). -/

namespace Sys2Proof.Machine

/-- The motion time and deadline of the flap: 1.5 s (R130). -/
def flapTime : Nat := 1500 * millisecond

/-- The jam window: 1 s (R135). -/
def jamTime : Nat := second

/-- The reverse of the auger at a first jam: 0.5 s (R135). -/
def reverseTime : Nat := 500 * millisecond

/-- The head of the dispenser queue (R122). -/
def Part.head (p : Part) : Option TicketNo := p.pool.queue.head?

/-- A condition on the record of the head; no head, no condition met. -/
def Part.headIs (f : Ticket → Bool) (p : Part) : Bool := p.head.any fun n => f (p.ticket n)

/-- A ticket that needs the flap: an ice kind, or a CHUTE or AUGER test (R123). -/
def Ticket.needsFlap (t : Ticket) : Bool := t.isIce || t.isChuteTest || t.isAugerTest

/-- The paddle that matches the ticket's kind (R3, R125). -/
def Ticket.paddle (t : Ticket) : Option Paddle :=
  if t.isWater then some .water else if t.isIce then some .ice else none

/-- The outlet returns to IDLE with its record cleared (R121, R122, R138). -/
def Part.idleOutlet (p : Part) : Part :=
  { p with
    outlet :=
      { p.outlet with
        state := .idle, paddleStarted := false, tankNote := none, ending := none, run := {}, pauseEnd := none,
        holdEnd := none } }

/-- The head ends with an outcome, and the outlet returns to IDLE (R122, R12). -/
def Part.finishHead (o : TicketOutcome) (p : Part) : Part := (p.finishSlot p.head o).idleOutlet

/-- The head ends before it has become ACTIVE: it receives its start notes at DONE (R123). -/
def Part.finishUnstarted (o : TicketOutcome) (p : Part) : Part :=
  (p.updateHead fun t =>
    t.withProgress fun g =>
      { g with
        paddleStarted := p.outlet.paddleStarted
        tankTemp := if t.isWater then p.outlet.tankNote else none }).finishHead o

/-- The flap position leaves CLOSED: the H4 demand is raised, or carried on with the duct timer stopped (R142). -/
def Part.leaveClosed (p : Part) : Part := Part.raiseOwner 4 { p with outlet.ductEnd := none }

/-- An opening starts (R130). -/
def Part.beginOpening (p : Part) : Part :=
  { p.leaveClosed with
    outlet.flap := .opening
    outlet.flapOpenOut := true
    outlet.flapDeadline := some (p.clock.now + flapTime) }

/-- A closing starts; an opening still driven is released (R130, R131). -/
def Part.beginClosing (p : Part) : Part :=
  { p.leaveClosed with
    outlet.flap := .closing
    outlet.flapOpenOut := false
    outlet.flapCloseOut := true
    outlet.flapDeadline := some (p.clock.now + flapTime) }

/-- The flap stands still at a position. -/
def Outlet.restFlap (pos : FlapPosition) (o : Outlet) : Outlet :=
  { o with flap := pos, flapDeadline := none, flapOpenOut := false, flapCloseOut := false }

/-- The duct timer starts for DUCT_AFTER; with 0 the demand is dropped at once (R142). -/
def Part.startDuct (p : Part) : Part :=
  if p.supervision.params.ductAfter = 0 then p.dropOwner 4
  else { p with outlet.ductEnd := some (p.clock.now + p.supervision.params.ductAfter * second) }

/-- The flap position becomes CLOSED (R130, R142). -/
def Part.flapCloses (p : Part) : Part := Part.startDuct { p with outlet := p.outlet.restFlap .closed }

/-- The auger, reverse and crusher outputs are released, and the run and jam times stop (R135, R136, R138). -/
def Part.stopAuger (p : Part) : Part :=
  { p with
    outlet.augerForward := false
    outlet.augerReverse := false
    outlet.crusher := false
    outlet.run :=
      { p.outlet.run with
        forward := p.outlet.run.forward.stop p.clock.now
        running := p.outlet.run.running.stop p.clock.now
        hold := p.outlet.run.hold.stop p.clock.now
        jamDeadline := none
        reverseEnd := none } }

/-- The forward run time in whole ms (R134). -/
def Part.forwardMs (p : Part) : Nat := p.outlet.run.forward.read p.clock.now / millisecond

/-- The measured amount of the head at the stop of its run: cubes, or whole seconds of an AUGER or CHUTE test
(R136, R143, R144). -/
def Part.runAmount (p : Part) (t : Ticket) : Nat :=
  if t.isAugerTest then p.forwardMs / 1000
  else if t.isChuteTest then p.outlet.run.hold.read p.clock.now / second
  else cubesOf p.supervision.params.augerRate p.forwardMs

/-- The run of the head stops: the outputs are released, the measured amount is written, and the forward run time of an ice
ticket or an auger test is reported (R136, steps 1 to 3, R143, R144). -/
def Part.endRun (p : Part) : Part :=
  let p := p.stopAuger
  let p := p.updateHead fun t => t.withProgress fun g => { g with measured := sat16 (p.runAmount t) }
  if p.headIs Ticket.isChuteTest then p else p.reportAuger p.forwardMs

/-- The head becomes STOPPING with an ending outcome (R136). -/
def Part.stopping (o : TicketOutcome) (p : Part) : Part :=
  { p.updateHead Ticket.stopping with outlet.ending := some o, outlet.pauseEnd := none }

/-- An ice ticket or auger test enters STOPPING from RUNNING or PAUSED (R136). -/
def Part.stopRun (o : TicketOutcome) (p : Part) : Part :=
  let p := p.endRun.stopping o
  { p with
    outlet.state := .stopping
    outlet.holdEnd := some (p.clock.now + p.supervision.params.chuteHold * second) }

/-- The outlet enters CLOSING, and the closing is driven (R127, R133, R136, R140, R143). -/
def Part.enterClosing (p : Part) : Part :=
  Part.beginClosing { p with outlet.state := .closing, outlet.holdEnd := none }

/-- The head goes from OPENING to CLOSING with an ending outcome, without a flap hold (R127, R133, R140). -/
def Part.abandonOpening (o : TicketOutcome) (p : Part) : Part := (p.stopping o).enterClosing

/-- A chute test goes from RUNNING or PAUSED to CLOSING with an ending outcome (R140, R143). -/
def Part.stopChuteTest (o : TicketOutcome) (p : Part) : Part := (p.endRun.stopping o).enterClosing

/-- The head is stopped in RUNNING or PAUSED: a water head releases the line, an ice head or auger test enters STOPPING, a
chute test enters CLOSING (R127, R139, R140). -/
def Part.stopDelivery (o : TicketOutcome) (p : Part) : Part :=
  if p.headIs Ticket.isWater then p.endWork (.release o)
  else if p.headIs Ticket.isChuteTest then p.stopChuteTest o
  else p.stopRun o

/-- The head is stopped with an outcome at its present stage, for a paddle release, a CANCEL or the silence timer
(R127, R140, R141). -/
def Part.stopHead (o : TicketOutcome) (p : Part) : Part :=
  match p.outlet.state with
  | .lineWait => Part.finishUnstarted o { p with line.dispenseClaim := none }
  | .opening => p.abandonOpening o
  | .running | .paused => p.stopDelivery o
  | .idle | .stopping | .closing => p

/-- A dispense claim is made and judged (R70, R128). -/
def Part.claimDispense (n : TicketNo) (p : Part) : Part :=
  if p.line.leakLatch then p.finishUnstarted .leak
  else
    match p.line.state, p.line.owner with
    | .idle, _ => p.grantDispense n
    | .opened, some .fill => p.suspendFill n
    | _, _ => { p with line.dispenseClaim := some n }

/-- The start check of a water or flush head, and its claim (R124, R128). -/
def Part.startWater (n : TicketNo) (p : Part) : Part :=
  let r := p.reading tank
  let p := { p with outlet.tankNote := r.temp }
  if (p.ticket n).request.coldOnly then
    match r.measured with
    | none => p.finishUnstarted .sensor
    | some t =>
      if p.supervision.params.waterColdLimit < t then p.finishUnstarted .warm
      else Part.claimDispense n { p with outlet.state := .lineWait }
  else Part.claimDispense n { p with outlet.state := .lineWait }

/-- The start of a head that needs the flap (R123, R133, R143, R144). -/
def Part.startFlap (n : TicketNo) (p : Part) : Part :=
  if p.outlet.chuteFault then p.finishUnstarted .chuteFault
  else Part.beginOpening { p.activateHead n with outlet.state := .opening, outlet.run := {} }

/-- The start of the head, noted as paddle-started or not (R123). -/
def Part.startHead (n : TicketNo) (byPaddle : Bool) (p : Part) : Part :=
  let p := { p with outlet.paddleStarted := byPaddle }
  if (p.ticket n).isWater then p.startWater n else p.startFlap n

/-- A paddle press matches the head: it carries AWAIT_PADDLE and is of the paddle's medium (R123, R125). -/
def Ticket.awaits (press : Option Paddle) (t : Ticket) : Bool :=
  t.request.awaitPaddle && press.isSome && t.paddle == press

/-- The start conditions of R123 for the head; one of no water kind is one that needs the flap. -/
def Part.headReady (press : Option Paddle) (p : Part) : Bool :=
  p.outlet.state == .idle && p.sense.door == some .closed &&
    p.headIs fun t =>
      t.state == .queued && (!t.request.awaitPaddle || t.awaits press) &&
        (t.isWater || (p.sense.flap.isSome && (p.outlet.flap == .closed || p.outlet.chuteFault))) &&
        (!(t.isWater && t.request.coldOnly) || (p.reading tank).status != .notReady)

/-- The head starts if its conditions hold (R123). A paddle ticket is always paddle-started (R126). -/
def Part.startOne (press : Option Paddle) (p : Part) : Part :=
  match p.head with
  | none => p
  | some n =>
    if p.headReady press then
      p.startHead n ((p.ticket n).awaits press || (p.ticket n).origin == some .paddle)
    else p

/-- Heads start one after another while each ends at its start, at most `k` of them (R122, R123). -/
def Part.startUpTo : Nat → Part → Part
  | 0, p => p
  | k + 1, p => if p.headReady none then (p.startOne none).startUpTo k else p

/-- The start conditions are taken; a queue of 8 has at most 8 heads to try (R122, R123). -/
def Part.startHeads (p : Part) : Part := p.startUpTo 8

/-- The request part of a paddle ticket (R11). -/
def Part.paddleRequest (pad : Paddle) (p : Part) : Request :=
  match pad with
  | .water => {}
  | .ice => { form := some p.supervision.params.iceForm }

/-- The kind of a paddle ticket (R11). -/
def paddleKind : Paddle → TicketKind
  | .water => .waterHold
  | .ice => .iceHold

/-- A PADDLE draw; a granted one places its ticket at the head, where it starts at once or waits for its flap
(R11, R126). -/
def Part.paddleDraw (pad : Paddle) (p : Part) : Part :=
  match p.draw (paddleKind pad) .paddle none (p.paddleRequest pad) with
  | (none, p) => p
  | (some n, p) => Part.startOne none { p with pool.queue := n :: p.pool.queue }

/-- The head is a QUEUED ticket of origin PADDLE (R125). -/
def Part.waitingPaddleHead (p : Part) : Bool := p.headIs fun t => t.state == .queued && t.origin == some .paddle

/-- A paddle press, judged (R125, Table of R125 in order). -/
def Part.judgePress (pad : Paddle) (p : Part) : Part :=
  if p.outlet.state ≠ .idle then p
  else if p.sense.door ≠ some .closed then p
  else if p.headIs (Ticket.awaits (some pad)) && p.headReady (some pad) then p.startOne (some pad)
  else if 8 ≤ p.pool.queue.length then p
  else if p.waitingPaddleHead then p
  else p.paddleDraw pad

/-- The outcome that a paddle release gives (R127). -/
def Ticket.releaseOutcome (t : Ticket) : TicketOutcome :=
  if t.kind == some .waterHold || t.kind == some .iceHold then .complete else .released

/-- The outcome that a release gives the head. -/
def Part.headRelease (p : Part) : TicketOutcome := (p.head.map fun n => (p.ticket n).releaseOutcome).getD .released

/-- The head was started by a press of this paddle and carries no LATCH (R127). -/
def Part.heldBy (pad : Paddle) (p : Part) : Bool :=
  p.outlet.paddleStarted && p.headIs fun t => t.paddle == some pad && !t.request.latch

/-- A paddle release, judged (R127). -/
def Part.judgeRelease (pad : Paddle) (p : Part) : Part := if p.heldBy pad then p.stopHead p.headRelease else p

/-- The run target, set at the first entry into RUNNING, in ms (R134, R144). -/
def Part.runTarget (p : Part) (t : Ticket) : Option Nat :=
  if t.isAugerTest then t.request.seconds.map (· * 1000)
  else if t.kind = some .icePortion then
    t.request.amount.map fun a =>
      (a * 10000 + p.supervision.params.augerRate - 1) / p.supervision.params.augerRate
  else none

/-- The forward drive starts, or resumes, with the crusher for CRUSHED and a new jam window (R134, R135). -/
def Part.driveForward (p : Part) : Part :=
  { p with
    outlet.augerForward := true
    outlet.augerReverse := false
    outlet.crusher := p.headIs fun t => t.isIce && t.request.form == some .crushed
    outlet.run :=
      { p.outlet.run with
        forward := p.outlet.run.forward.start p.clock.now
        running := p.outlet.run.running.start p.clock.now
        jamDeadline := some (p.clock.now + jamTime)
        reverseEnd := none } }

/-- The run target is set, once (R134). -/
def Part.setRunTarget (p : Part) : Part :=
  if p.outlet.run.entered then p
  else
    { p with
      outlet.run :=
        { p.outlet.run with entered := true, target := p.head.bind fun n => p.runTarget (p.ticket n) } }

/-- RUNNING is entered from a successful opening or a resume, for an ice head, an auger test or a chute test
(R134, R139, R143, R144). -/
def Part.enterRunning (p : Part) : Part :=
  if p.headIs Ticket.isChuteTest then
    { p with outlet.state := .running, outlet.run.hold := p.outlet.run.hold.start p.clock.now }
  else Part.driveForward { p.setRunTarget with outlet.state := .running }

/-- An opening succeeds (R130, R133, R138). -/
def Part.openingSucceeds (p : Part) : Part :=
  let p := { p with outlet := p.outlet.restFlap .opened }
  if p.sense.door = some .opened then { p with outlet.state := .paused } else p.enterRunning

/-- An opening fails (R130, R133, R143). -/
def Part.openingFails (p : Part) : Part := p.abandonOpening .chuteFault

/-- The open switch is released while the flap is OPEN for the head, by stage (R132). -/
def Part.flapFalls (p : Part) : Part :=
  if p.headIs Ticket.needsFlap then
    match p.outlet.state with
    | .running | .paused => p.endRun.flapCloses.finishHead .chuteFault
    | .stopping => p.flapCloses.finishHead (p.outlet.ending.getD .chuteFault)
    | _ => p
  else p

/-- A change of the chute-flap open switch, its new state already in the Sense Unit (R130, R131, R132). -/
def Part.flapChanged (c : Contact) (p : Part) : Part :=
  match c, p.outlet.flap with
  | .made, .opening => p.openingSucceeds
  | .made, .closed => p.beginClosing
  | .released, .opened =>
    if p.outlet.chuteFault then Part.flapCloses { p with outlet.chuteFault := false } else p.flapFalls
  | _, _ => p

/-- The first reading of the chute-flap open switch, already in the Sense Unit (R42, R131, R146). A reading of RELEASED
leaves the position CLOSED without any motion, and starts no duct timer (log 22). -/
def Part.flapFirstRead (p : Part) : Part :=
  match p.sense.flap with
  | none => p
  | some .released =>
    if p.outlet.flap = .closed then { p with outlet := p.outlet.restFlap .closed } else p.flapCloses
  | some .made => p.beginClosing

/-- The outcome of a head at the end of its closing (R137). -/
def closingOutcome (failed : Bool) (ending : TicketOutcome) : TicketOutcome :=
  if failed && ending == .complete then .chuteFault else ending

/-- The end of the closing of a head; a closing of the controller's own ends no ticket (R137). -/
def Part.endClosing (failed : Bool) (p : Part) : Part :=
  if p.outlet.state = .closing then p.finishHead (closingOutcome failed (p.outlet.ending.getD .chuteFault)) else p

/-- The motion time of a closing ends, and the closing is judged by the open switch (R130, R131, R137). -/
def Part.judgeClosing (p : Part) : Part :=
  if p.sense.flap = some .made then
    Part.endClosing true
      (Part.notify .chuteFault { p with outlet := { p.outlet.restFlap .opened with chuteFault := true } })
  else p.flapCloses.endClosing false

/-- The jam window passes: a first jam reverses the auger, a second ends the run JAM (R135). -/
def Part.jam (p : Part) : Part :=
  if p.outlet.run.jams = 0 then
    { p with
      outlet.augerForward := false
      outlet.crusher := false
      outlet.augerReverse := true
      outlet.run :=
        { p.outlet.run with
          forward := p.outlet.run.forward.stop p.clock.now
          jams := 1
          jamDeadline := none
          reverseEnd := some (p.clock.now + reverseTime) } }
  else Part.stopRun .jam { p with outlet.run.jams := 2 }

/-- The forward run time has reached the run target (R134). -/
def Part.targetRun (p : Part) : Bool := p.outlet.run.target.any (· * millisecond ≤ p.outlet.run.forward.read p.clock.now)

/-- The auger runs, or stands between two drives, for an ice head or an auger test in RUNNING (R134, R135, R144). -/
def Part.runsAuger (p : Part) : Bool :=
  p.outlet.state == .running && p.headIs fun t => t.isIce || t.isAugerTest

/-- The reverse ends: the forward drive resumes, or the run ends COMPLETE at its target (R135). -/
def Part.endReverse (p : Part) : Part :=
  if p.targetRun then p.stopRun .complete else p.driveForward

/-- The RUNNING time of an ice ticket has reached DISPENSE_OPEN_LIMIT, compared in force; an auger test is not bounded
(R134, R144). -/
def Part.runningLimitReached (p : Part) : Bool :=
  p.outlet.state == .running && p.headIs Ticket.isIce &&
    decide (p.supervision.params.dispenseOpenLimit * second ≤ p.outlet.run.running.read p.clock.now)

/-- The RUNNING time is compared (R134). -/
def Part.compareRunning (p : Part) : Part := if p.runningLimitReached then p.stopRun .timeout else p

/-- A tach pulse handed to the Dispenser Controller: it restarts a jam window that runs (R135). -/
def Part.tachSeen (p : Part) : Part :=
  if p.outlet.augerForward then { p with outlet.run.jamDeadline := some (p.clock.now + jamTime) } else p

/-- The pause timer starts for DOOR_PAUSE_LIMIT (R138). -/
def Part.startPause (p : Part) : Part :=
  { p with outlet.pauseEnd := some (p.clock.now + p.supervision.params.doorPauseLimit * second) }

/-- A freezer-door opening, its new state already in the Sense Unit (R138). -/
def Part.doorOpens (p : Part) : Part :=
  match p.outlet.state with
  | .lineWait | .opening => p.startPause
  | .running =>
    if p.headIs Ticket.isWater then Part.startPause { p.pauseLine with outlet.state := .paused }
    else Part.startPause { p.stopAuger with outlet.state := .paused }
  | .idle | .paused | .stopping | .closing => p

/-- The head resumes at a closing of the door: not paddle-started, or LATCH, or its paddle still PRESSED (R139). -/
def Part.mayResume (p : Part) : Bool :=
  !p.outlet.paddleStarted ||
    p.headIs fun t => t.request.latch || t.paddle.any fun pad => p.sense.paddle pad == some .pressed

/-- The head resumes from PAUSED (R139). -/
def Part.resumeHead (p : Part) : Part :=
  if p.headIs Ticket.isWater then { p.resumeLine with outlet.state := .running }
  else if p.sense.flap = some .made ∨ p.headIs Ticket.isChuteTest then p.enterRunning
  else p

/-- A freezer-door closing, its new state already in the Sense Unit (R138, R139). A paddle-started head without LATCH whose
paddle is not PRESSED ends as its release would have ended it (log 17). -/
def Part.doorCloses (p : Part) : Part :=
  match p.outlet.state with
  | .lineWait | .opening => { p with outlet.pauseEnd := none }
  | .paused =>
    let p := { p with outlet.pauseEnd := none }
    if p.mayResume then p.resumeHead else p.stopHead p.headRelease
  | .idle | .running | .stopping | .closing => p

/-- The pause timer ends with the door still OPEN (R139). -/
def Part.pauseOver (p : Part) : Part :=
  if p.outlet.state = .paused ∧ p.sense.door = some .opened then p.stopDelivery .doorOpen else p

/-- The hold time of a chute test has reached the ticket's seconds (R143). -/
def Part.holdReached (p : Part) : Bool :=
  p.outlet.state == .running && p.headIs fun t =>
    t.isChuteTest && t.request.seconds.any (· * second ≤ p.outlet.run.hold.read p.clock.now)

/-- CANCEL of a queue-bound ticket that is QUEUED or ACTIVE, by stage (R140). A paddle ticket that waits QUEUED for its flap
(R126) ends with its paddle-started flag clear: the model's choice, since no rule says it (log 30). -/
def Part.cancelQueued (n : TicketNo) (o : TicketOutcome) (p : Part) : Part :=
  if p.head = some n ∧ p.outlet.state ≠ .idle then p.stopHead o else p.finish n o

/-- One ticket of the dispenser queue at an expiry of the silence timer (R141). -/
def Part.loseLink (p : Part) (n : TicketNo) : Part :=
  if (p.ticket n).origin = some .link ∧ (p.ticket n).state ≠ .stopping then p.cancelQueued n .linkLost else p

/-- The LINK tickets of the dispenser queue at an expiry of the silence timer, in queue order (R141). -/
def Part.loseQueue (p : Part) : Part := p.pool.queue.foldl Part.loseLink p

end Sys2Proof.Machine
end

