-- ==== Sys2Proof/Machine/Operands.lean ====
section
/-! DEFINITION. The byte layouts of the link: the check byte, the codes, the SUBMIT payload and the reply data
(R192, R195, R204 to R208). -/

namespace Sys2Proof.Machine

/-- A one-byte field (R208). -/
def byte (n : Nat) : Byte := BitVec.ofNat 8 n

/-- A two-byte field, most significant byte first (R204). -/
def be16 (w : BitVec 16) : List Byte := [w.extractLsb' 8 8, w.extractLsb' 0 8]

/-- A two-byte count. -/
def nat16 (n : Nat) : List Byte := be16 (BitVec.ofNat 16 n)

/-- A signed two-byte field in two's complement (R204). -/
def int16 (v : Int) : List Byte := be16 (BitVec.ofInt 16 v)

/-- A four-byte count, most significant byte first (R204). -/
def nat32 (n : Nat) : List Byte := [byte (n / 16777216), byte (n / 65536), byte (n / 256), byte n]

/-- A flag, a demand, a mark or a lock (R208). -/
def flag (b : Bool) : Byte := if b then 1 else 0

/-- The byte of an absent one-byte field (R208). -/
def absentByte : Byte := 0xFF

/-- A one-byte field that may be absent (R208). -/
def optByte (o : Option Byte) : Byte := o.getD absentByte

/-- A ticket number, or none (R208). -/
def optTicket (n : Option TicketNo) : Byte := optByte (n.map fun t => byte t.val)

/-- A temperature, or 8000H when absent (R204, R15). -/
def optTemp (t : Option Int) : List Byte := (t.map int16).getD [0x80, 0x00]

/-- A time in part seconds, or FFFFFFFFH when absent (R204, R15). -/
def optTime (t : Option Nat) : List Byte := (t.map nat32).getD [0xFF, 0xFF, 0xFF, 0xFF]

/-- An unsigned field of two bytes. -/
def read16 (hi lo : Byte) : Nat := hi.toNat * 256 + lo.toNat

/-- A signed field of two bytes (R204). -/
def readInt16 (hi lo : Byte) : Int := (hi ++ lo).toInt

/-- An unsigned field of four bytes. -/
def read32 (a b c d : Byte) : Nat := ((a.toNat * 256 + b.toNat) * 256 + c.toNat) * 256 + d.toNat

/-- One shift of the check register (R192). -/
def crcShift (r : Byte) : Byte := if r.getLsbD 7 then (r <<< 1) ^^^ 0x07 else r <<< 1

/-- One byte through the check register (R192). -/
def crcByte (r b : Byte) : Byte :=
  crcShift (crcShift (crcShift (crcShift (crcShift (crcShift (crcShift (crcShift (r ^^^ b))))))))

/-- The check byte over LEN, KIND, TAG and the payload (R192). -/
def checkByte (bytes : List Byte) : Byte := bytes.foldl crcByte 0

/-- The first byte of every frame (R191). -/
def startByte : Byte := 0xB7

/-- A frame: START, LEN, KIND, TAG, the payload, CHECK (R191). -/
def frameBytes (kind tag : Byte) (payload : List Byte) : List Byte :=
  let body := byte payload.length :: kind :: tag :: payload
  startByte :: body ++ [checkByte body]

/-- The kind of the reply to a kind: its highest bit set (R195). -/
def replyKind (kind : Byte) : Byte := kind ||| 0x80

/-- The status codes (Table 9-4). -/
def Status.code : Status → Byte
  | .ok => 0x00
  | .unknownKind => 0x01
  | .badLength => 0x02
  | .range => 0x03
  | .state => 0x04
  | .locked => 0x05
  | .noTicket => 0x06
  | .queueFull => 0x07
  | .notFound => 0x08

/-- The codes of the receive errors; 0 for none (Table 9-1, Table 9-9). -/
def linkErrorCode : Option LinkError → Byte
  | none => 0
  | some .gap => 1
  | some .length => 2
  | some .check => 3
  | some .overrun => 4

/-- Ticket kind codes (Table 9-6). -/
def TicketKind.code : TicketKind → Byte
  | .waterPortion => 0x01
  | .waterHold => 0x02
  | .icePortion => 0x03
  | .iceHold => 0x04
  | .flush => 0x05
  | .loadTest => 0x06
  | .moldFill => 0x07
  | .harvest => 0x08
  | .defrostCycle => 0x09

/-- The kinds that SUBMIT may name, by code (R18). -/
def submitKind (b : Byte) : Option TicketKind :=
  if b = 0x01 then some .waterPortion
  else if b = 0x02 then some .waterHold
  else if b = 0x03 then some .icePortion
  else if b = 0x04 then some .iceHold
  else if b = 0x05 then some .flush
  else if b = 0x06 then some .loadTest
  else none

/-- Origin codes (Table 9-6). -/
def Origin.code : Origin → Byte
  | .link => 0
  | .paddle => 1
  | .iceMaker => 2
  | .defrost => 3

/-- Outcome codes (Table 1-5, Table 9-6). -/
def TicketOutcome.code : TicketOutcome → Byte
  | .complete => 0x00
  | .released => 0x01
  | .cancelled => 0x02
  | .doorOpen => 0x03
  | .noWater => 0x04
  | .timeout => 0x05
  | .leak => 0x06
  | .jam => 0x07
  | .chuteFault => 0x08
  | .warm => 0x09
  | .linkLost => 0x0A
  | .sensor => 0x0B
  | .stall => 0x0C
  | .heatLimit => 0x0D
  | .aborted => 0x0E
  | .parked => 0x0F

/-- Load codes (Table 9-6). -/
def Load.code : Load → Byte
  | .heater h => byte h.val
  | .ejector => 5
  | .chute => 6
  | .auger => 7

/-- The load of a code (Table 9-6). -/
def Load.ofCode (b : Byte) : Option Load :=
  if h : b.toNat < 5 then some (.heater ⟨b.toNat, h⟩)
  else if b = 5 then some .ejector
  else if b = 6 then some .chute
  else if b = 7 then some .auger
  else none

/-- Ticket state codes, in the order of R5 (R208). -/
def TicketState.code : TicketState → Byte
  | .free => 0
  | .queued => 1
  | .active => 2
  | .stopping => 3
  | .done => 4

/-- Ice maker state codes (Table 5-1, Table 9-6). -/
def IceState.code : IceState → Byte
  | .homing => 0
  | .parked => 1
  | .fillWait => 2
  | .filling => 3
  | .freezing => 4
  | .harvestWait => 5
  | .harvestHeat => 6
  | .eject => 7
  | .settle => 8
  | .fault => 9

/-- Outlet state codes (Table 6-1, Table 9-6). -/
def OutletState.code : OutletState → Byte
  | .idle => 0
  | .lineWait => 1
  | .opening => 2
  | .running => 3
  | .paused => 4
  | .stopping => 5
  | .closing => 6

/-- Defrost state codes (Table 7-1, Table 9-6). -/
def DefrostState.code : DefrostState → Byte
  | .accruing => 0
  | .wanted => 1
  | .deferred => 2
  | .prep => 3
  | .heating => 4
  | .dwell => 5
  | .recover => 6

/-- Line state codes (Table 9-6). -/
def LineState.code : LineState → Byte
  | .idle => 0
  | .opened => 1
  | .held => 2
  | .settle => 3

/-- Owner and closing owner codes (Table 9-6, Table 9-9). -/
def userCode : Option LineUser → Byte
  | none => 0
  | some .fill => 1
  | some .dispense => 2

/-- Filter status codes (Table 9-6). -/
def FilterStatus.code : FilterStatus → Byte
  | .good => 0
  | .soon => 1
  | .due => 2

/-- Reading status codes, in the order of R32 (R208). -/
def ReadingStatus.code : ReadingStatus → Byte
  | .notReady => 0
  | .ok => 1
  | .range => 2
  | .fault => 3

/-- Last-conversion class codes, in the order of R32 (R208). -/
def ConvClass.code : ConvClass → Byte
  | .short => 0
  | .opened => 1
  | .good => 2

/-- End reason codes, in the order of R169 (R208). -/
def EndReason.code : EndReason → Byte
  | .terminated => 0
  | .heatLimit => 1
  | .aborted => 2
  | .sensor => 3
  | .reset => 4

/-- Door codes, in the order of Table 2-6 (R208). -/
def doorCode (d : Door) : Byte :=
  match d with
  | .opened => 0
  | .closed => 1

/-- Paddle codes, in the order of Table 2-6 (R208). -/
def paddleCode (st : PaddleState) : Byte :=
  match st with
  | .pressed => 0
  | .released => 1

/-- Home and flap switch codes, in the order of Table 2-6 (R208). -/
def contactCode (c : Contact) : Byte :=
  match c with
  | .made => 0
  | .released => 1

/-- Filtered beam codes: FULL 0, NOT FULL 1 (R208). -/
def BeamFilter.code : BeamFilter → Byte
  | .full => 0
  | .notFull => 1

/-- A set of flags as one byte, the first in bit 0. -/
def flagsByte (bits : List Bool) : Byte :=
  byte (bits.foldr (fun b n => (if b then 1 else 0) + 2 * n) 0)

/-- A reply frame (R195). ROOM counts the free inbox entries. -/
def replyFrame (f : Frame) (room : Nat) (a : Answer) : List Byte :=
  frameBytes (replyKind f.kind) f.tag (a.status.code :: byte room :: a.data)

/-- The sensor fault set: bit n for channel Tn (Table 9-9). -/
def Part.faultSet (p : Part) : Byte :=
  flagsByte [p.inFault 0, p.inFault 1, p.inFault 2, p.inFault 3, p.inFault 4, p.inFault 5]

/-- The STATUS reply data: bytes 2 to 23 of Table 9-9 (R203, R207). -/
def Part.statusData (p : Part) : List Byte :=
  [p.ice.state.code, p.outlet.state.code, p.defrost.state.code, p.line.state.code, userCode p.line.owner,
    userCode p.line.closingOwner,
    flagsByte [p.line.supply == .dry, p.line.leakLatch, p.supervision.silent, p.supervision.lock, p.outlet.chuteFault],
    byte p.pool.free.length, byte p.pool.completion.length, p.line.filterStatus.code] ++
  nat16 p.ice.stock ++ nat16 p.defrost.credit ++ nat16 p.defrost.target ++
  [p.faultSet, linkErrorCode p.link.lastError] ++ nat32 p.clock.partSeconds

/-- A notice field of two bytes (R200). -/
def noticeField (s : BitVec 14) : List Byte := be16 (s.setWidth 16)

/-- The defrost reply data (R147). -/
def Part.defrostData (p : Part) : List Byte :=
  p.defrost.state.code :: (nat16 p.defrost.credit ++ nat16 p.defrost.target) ++ [optTicket p.pool.defrostSlot]

/-- The reply data of ICE_CONTROL (R113). -/
def Part.iceData (p : Part) : List Byte :=
  [p.ice.state.code, flag p.ice.parkPending, flag p.ice.moldLoaded, flag p.ice.offHome, byte p.ice.attempts] ++
    nat16 p.ice.stock ++ [optTicket p.pool.iceSlot]

/-- The requested amount of a completion record: the amount, or the seconds of a LOAD_TEST, or 0 (Table 1-7). -/
def Ticket.requested (t : Ticket) : Nat := (t.request.amount.or t.request.seconds).getD 0

/-- The Extra field of a completion record, by kind (Table 1-7, Table 9-8). -/
def Ticket.extra (t : Ticket) : List Byte :=
  match t.kind with
  | some .waterPortion | some .flush | some .moldFill => nat16 t.progress.overshoot
  | some .waterHold => optTemp t.progress.tankTemp
  | some .harvest | some .defrostCycle => nat16 t.progress.denied
  | some .loadTest => if t.testHeater.isSome then nat16 t.progress.denied else nat16 0
  | _ => nat16 0

/-- A kind or an origin code; the record of a held ticket always has one. -/
def Ticket.identity (t : Ticket) : List Byte :=
  [optByte (t.kind.map (·.code)), optByte (t.origin.map (·.code))]

/-- The completion record (R206, Table 9-8). -/
def Ticket.completionRecord (n : TicketNo) (t : Ticket) : List Byte :=
  [byte n.val] ++ t.identity ++
  [t.tag.getD 0, optByte (t.progress.outcome.map (·.code)),
    flagsByte [t.tag.isSome, t.progress.paddleStarted, t.progress.starved, t.progress.sensor, t.progress.ungranted]] ++
  nat16 t.requested ++ nat16 t.progress.measured ++ optTime t.progress.startTime ++ optTime t.progress.endTime ++ t.extra

/-- The present byte of a request (Table 9-7). -/
def Request.presentByte (r : Request) : Byte :=
  flagsByte [r.amount.isSome, r.form.isSome, r.load.isSome, r.seconds.isSome]

/-- The flags byte of a request (Table 9-7). -/
def Request.flagsField (r : Request) : Byte := flagsByte [r.awaitPaddle, r.latch, r.coldOnly]

/-- The request fields as bytes 1 to 7 of Table 9-7 (R208). An absent amount is a free value (log 15). -/
def Request.bytes (free : BitVec 16) (r : Request) : List Byte :=
  r.presentByte :: (r.amount.map nat16).getD (be16 free) ++
  [optByte (r.form.map fun f => byte f.code), r.flagsField, optByte (r.load.map (·.code)), optByte (r.seconds.map byte)]

/-- The progress fields in the order of Table 1-3 (R24, R208). -/
def Progress.bytes (g : Progress) : List Byte :=
  [flag g.paddleStarted] ++ nat16 g.measured ++ optTime g.startTime ++ optTime g.endTime ++
  [optByte (g.outcome.map (·.code))] ++ nat16 g.denied ++ nat16 g.overshoot ++ optTemp g.tankTemp ++
  [flag g.starved, flag g.sensor, flag g.ungranted]

/-- A position in a queue, from 1. -/
def positionIn (n : TicketNo) (q : List TicketNo) : Byte := byte (q.idxOf n + 1)

/-- The place of a ticket that is not FREE, with its position in a queue; a slot has none (R24, log 15). -/
def Part.place (n : TicketNo) (p : Part) : List Byte :=
  if p.pool.queue.contains n then [0, positionIn n p.pool.queue]
  else if p.pool.iceSlot = some n then [1, absentByte]
  else if p.pool.defrostSlot = some n then [2, absentByte]
  else if p.pool.serviceSlot = some n then [3, absentByte]
  else [4, positionIn n p.pool.completion]

/-- A MOLD_FILL named in the suspended-fill record (R24). -/
def Part.isSuspended (n : TicketNo) (p : Part) : Bool := p.line.suspended.any fun w => w.ticket == n

/-- The reply data of TICKET_INFO (R24, R208). -/
def Part.ticketInfo (n : TicketNo) (p : Part) : List Byte :=
  let t := p.ticket n
  [byte n.val] ++ t.identity ++ [t.tag.getD 0, t.state.code] ++ p.place n ++
  t.request.bytes (Config.freeAbsentAmount p.freeCount) ++ t.progress.bytes ++ [flag (p.isSuspended n)]

/-- The reply data of POOL_STATUS (R25). -/
def Part.poolData (p : Part) : List Byte :=
  [byte p.pool.free.length, byte p.pool.queue.length, byte p.pool.completion.length,
    byte (p.pool.completion.countP fun n => (p.ticket n).origin == some .link),
    optTicket p.pool.iceSlot, optTicket p.pool.defrostSlot, optTicket p.pool.serviceSlot,
    byte p.pool.starvation.link, byte p.pool.starvation.paddle, byte p.pool.starvation.iceMaker,
    byte p.pool.starvation.defrost]

/-- A rotation table entry: 0 to 4, or FFH for NONE (Table 9-10). -/
def rotationByte (e : Option HeaterNo) : Byte := optByte (e.map fun h => byte h.val)

/-- The rotation table entry of a byte, if it names one (Table 9-10). -/
def rotationEntry (b : Byte) : Option (Option HeaterNo) :=
  if h : b.toNat < 5 then some (some ⟨b.toNat, h⟩) else if b = 0xFF then some none else none

/-- The rotation table that 16 bytes name; none where one of them names no entry, or their number is not 16
(R59, Table 9-10). -/
def rotationOf (bytes : List Byte) : Option (Vector (Option HeaterNo) 16) :=
  match bytes.mapM rotationEntry with
  | none => none
  | some l => if h : l.length = 16 then some ⟨l.toArray, by simpa using h⟩ else none

/-- The fields of a heater in GET_LOADS (R62). -/
def Heater.bytes (h : Heater) : List Byte :=
  nat16 h.accepted.watts ++ [byte h.accepted.period, byte h.accepted.duty] ++ nat16 h.inForce.watts ++
  [flag h.ownerDemand, flag h.testDemand, byte h.acc, flag h.onSlot, flag h.grant] ++ nat16 h.denied

/-- The reply data of GET_LOADS (R62). -/
def Part.loadsData (p : Part) : List Byte :=
  nat16 p.supervision.params.heaterBudget ++ nat16 p.loads.budgetInForce ++ [byte p.loads.slot.val] ++
  nat16 p.loads.wattsInUse ++ p.loads.rotation.toList.map rotationByte ++
  allHeaters.flatMap fun n => p.loads.heaters[n].bytes

/-- The points of a curve table, as LOAD_CURVE and GET_CURVE carry them (R38, Table 9-10). -/
def CurvePoint.bytes (q : CurvePoint) : List Byte := nat16 q.count ++ int16 q.temp

/-- The points that a run of bytes names (Table 9-10). -/
def pointsOf : List Byte → List CurvePoint
  | c1 :: c0 :: t1 :: t0 :: rest => ⟨read16 c1 c0, readInt16 t1 t0⟩ :: pointsOf rest
  | _ => []

/-- The reply data of GET_CURVE (R38). -/
def curveData (table : List CurvePoint) : List Byte := byte table.length :: table.flatMap CurvePoint.bytes

/-- The reply data of GET_TOTALS (R90). -/
def Part.totalsData (p : Part) : List Byte :=
  nat32 p.line.filterMl ++ nat32 p.line.filterSeconds ++ [p.line.filterStatus.code] ++ nat16 p.defrost.credit ++
  [flag p.line.leakLatch] ++ optTime p.line.leakTime

/-- The fields of a defrost log record (R169, R208). -/
def LogRecord.bytes (r : LogRecord) : List Byte :=
  nat32 r.startTime ++ nat16 r.creditAtStart ++ nat16 r.heatSeconds ++ nat16 r.h0Denied ++ nat16 r.h1Denied ++
  optTemp r.peak ++
  [r.endReason.code, flagsByte [r.forced, r.ungranted, r.starved, r.sensor, r.compressorOn]] ++ nat16 r.targetAfter

/-- The reply data of DEFROST_LOG (R170). -/
def logData (log : List LogRecord) : List Byte := byte log.length :: log.flatMap LogRecord.bytes

/-- A channel's reading in READ_SENSORS (R39). -/
def Part.channelData (p : Part) (ch : ChannelNo) : List Byte :=
  let r := p.reading ch
  [byte ch.val, r.status.code] ++ optTemp r.temp ++ nat16 (r.mean.getD 0) ++ [optByte (r.last.map (·.code))]

/-- The flow rate, in units of 0.1 mL/s; a period of 0 µs gives a free value (R45, log 13). -/
def flowRate (flowK : Nat) (free : BitVec 16) : Option Nat → BitVec 16
  | none => 0
  | some 0 => free
  | some t => BitVec.ofNat 16 (min (10000000000 / (flowK * t)) 65535)

/-- The age of the last tach pulse in ms, which stays at 65,535; absent, it is reported as 65,535 (R46). -/
def Part.tachAge (p : Part) : Nat :=
  match p.sense.lastTach with
  | none => 65535
  | some t => min ((p.clock.now - t) / millisecond) 65535

/-- A beam level: blocked 0, clear 1 (R208). -/
def beamLevelCode : BeamLevel → Byte
  | .blocked => 0
  | .clear => 1

/-- The beam level as last sampled (R39); a free value while no row has told it since the reset (log 10). -/
def Part.beamLevelByte (p : Part) : Byte :=
  match p.sense.beamPin.level with
  | some l => beamLevelCode l
  | none => if Config.freeBeamBlocked p.freeCount then 0 else 1

/-- The switch part and the pulse part of READ_SENSORS (R39). -/
def Part.inputData (p : Part) : List Byte :=
  [optByte (p.sense.door.map doorCode), optByte (p.sense.waterPaddle.map paddleCode),
    optByte (p.sense.icePaddle.map paddleCode), optByte (p.sense.home.map contactCode),
    optByte (p.sense.flap.map contactCode), p.beamLevelByte, p.sense.beam.code] ++
  nat32 p.sense.flowCount.toNat ++
  be16 (flowRate p.supervision.params.flowK (Config.freeFlowRate p.freeCount) p.sense.flowPeriod) ++
  be16 p.sense.tachCount ++ nat16 p.tachAge

/-- The reply data of READ_SENSORS (R39, R40). -/
def Part.sensorData (channels : List ChannelNo) (p : Part) : List Byte := channels.flatMap p.channelData ++ p.inputData

/-- The channels that a channel set names, in ascending order (R39, Table 9-10). -/
def channelsOf (set : Byte) : List ChannelNo := ([0, 1, 2, 3, 4, 5] : List ChannelNo).filter fun ch => set.getLsbD ch.val

/-- An optional field of the SUBMIT payload: read if its present bit is set (R205). -/
def presentField {α : Type} (present : Byte) (bit : Nat) (v : α) : Option α := if present.getLsbD bit then some v else none

/-- The form of a code (Table 9-6). -/
def formOf (b : Byte) : Option Form := if b = 0 then some .cubed else if b = 1 then some .crushed else none

/-- The range of a kind's amount: mL of a portion or flush, cubes of an ice portion (Table 1-2). -/
def amountInRange (kind : TicketKind) (n : Nat) : Bool :=
  match kind with
  | .waterPortion | .flush => 10 ≤ n && n ≤ 4000
  | .icePortion => 1 ≤ n && n ≤ 200
  | _ => false

/-- The kinds that carry an amount (Table 1-2). -/
def TicketKind.carriesAmount : TicketKind → Bool
  | .waterPortion | .flush | .icePortion => true
  | _ => false

/-- The kinds that carry a form (Table 1-2). -/
def TicketKind.carriesForm : TicketKind → Bool
  | .icePortion | .iceHold => true
  | _ => false

/-- The kinds that carry AWAIT_PADDLE and LATCH (Table 1-2). -/
def TicketKind.carriesFlags : TicketKind → Bool
  | .waterPortion | .waterHold | .flush | .icePortion | .iceHold => true
  | _ => false

/-- The kinds that carry COLD_ONLY (Table 1-2). -/
def TicketKind.carriesCold : TicketKind → Bool
  | .waterPortion | .waterHold | .flush => true
  | _ => false

/-- Seconds are carried by a LOAD_TEST of every load except EJECTOR (Table 1-2). -/
def carriesSeconds (kind : TicketKind) (load : Option Load) : Bool := kind == .loadTest && load != some .ejector

/-- The checks of R18 on the fields of a request of a kind. -/
def Request.suits (kind : TicketKind) (r : Request) : Bool :=
  (r.amount.isSome == kind.carriesAmount) && r.amount.all (amountInRange kind) &&
  (r.form.isSome == kind.carriesForm) &&
  (r.load.isSome == (kind == .loadTest)) &&
  (r.seconds.isSome == carriesSeconds kind r.load) && r.seconds.all (fun s => 1 ≤ s && s ≤ 60) &&
  (kind.carriesFlags || !(r.awaitPaddle || r.latch)) && (kind.carriesCold || !r.coldOnly)

/-- The kind and request that a SUBMIT payload of 8 bytes names; none where it is refused RANGE (R18, R205). -/
def submitRequest (payload : List Byte) : Option (TicketKind × Request) :=
  match payload with
  | [k, present, a1, a0, form, flags, load, seconds] =>
    if present.extractLsb' 4 4 ≠ 0 ∨ flags.extractLsb' 3 5 ≠ 0 then none
    else
      match submitKind k, presentField present 1 (formOf form), presentField present 2 (Load.ofCode load) with
      | none, _, _ | _, some none, _ | _, _, some none => none
      | some kind, f, l =>
        let r : Request :=
          { amount := presentField present 0 (read16 a1 a0), form := f.join, awaitPaddle := flags.getLsbD 0,
            latch := flags.getLsbD 1, coldOnly := flags.getLsbD 2, load := l.join,
            seconds := presentField present 3 seconds.toNat }
        if r.suits kind then some (kind, r) else none
  | _ => none

end Sys2Proof.Machine
end

