-- ==== Sys2Proof/Machine/Settle.lean ====
section
/-! DEFINITION. What follows at once from a command: starts of heads, the entry into WANTED, the wait of PREP, the draw of
the waiting ice maker, the waiting fill; the end of a line SETTLE; the Sense Unit's events (log 7, R28 to R47, R72). -/

namespace Sys2Proof.Machine

/-- What follows at once from what has just been taken, block by block: the head of the dispenser queue (R123), the
comparison of credit and target (R151), the wait of PREP (R159), the draw of the waiting ice maker (R98, R102), the waiting
fill (R69, R74). -/
def Part.settle (p : Part) : Part := p.startHeads.compareTarget.prepWait.redraw.judgeFill

/-- The end report of the work that a SETTLE closes, if it closes one (R72, R79, R99, R129). -/
def Part.reportWork (p : Part) : Part :=
  match p.line.closingOwner, p.line.work, p.line.ending with
  | some .fill, some w, some r => p.fillEnded r w
  | some .dispense, some w, some r => (p.writeAmounts w).finishHead r.outcome
  | _, _, _ => p

/-- The end of a line SETTLE: the end report, the next head, and the line given on (R72, R79, R122). -/
def Part.endLineSettle (p : Part) : Part := p.reportWork.startHeads.giveLine

/-- A channel's reading handed to its block, without or after a conversion (Table 2-1, R32). -/
def Part.handReading (ch : ChannelNo) (entered : Bool) (p : Part) : Part :=
  if ch = evap then p.evapReading entered else if ch = mold then p.moldReading entered else p

/-- Every reading of a class is formed anew and handed on (R32, R37). That the channels come in ascending order is the model's
choice: no rule gives one (log 31). -/
def Part.handClass (c : CurveClass) (p : Part) : Part :=
  (([0, 1, 2, 3, 4, 5] : List ChannelNo).filter fun ch => p.supervision.params.classes[ch] == c).foldl
    (fun q ch => q.handReading ch false) p

/-- The channels of a round in the order of R40: the named ones first, each part ascending. -/
def roundOrder (named : List ChannelNo) : List ChannelNo :=
  let all : List ChannelNo := [0, 1, 2, 3, 4, 5]
  (all.filter named.contains) ++ all.filter fun ch => !named.contains ch

/-- A FRESH request taken up by a round that begins; one that a round has already served stays as it is (R40). -/
def Fresh.takeUp (f : Fresh) : Fresh :=
  match f.left with
  | none => { f with left := some f.channels.length }
  | some _ => f

/-- The channels of a held request that no round has taken up yet (R40). -/
def Fresh.waiting (f : Fresh) : List ChannelNo := if f.left.isNone then f.channels else []

/-- The scan goes on to the next conversion: the round's next channel, or the first one of a new round, which takes up a
FRESH request that is held (R30, R40). -/
def Scan.next (now : Nat) (s : Scan) : Scan :=
  match s.rest with
  | ch :: more => { s with current := ch, rest := more, startedAt := now }
  | [] =>
    match roundOrder ((s.fresh.map Fresh.waiting).getD []) with
    | ch :: more => { current := ch, rest := more, startedAt := now, fresh := s.fresh.map Fresh.takeUp }
    | [] => { s with startedAt := now }

/-- A conversion of the serving round counts towards its FRESH request (R40). -/
def Fresh.count (f : Fresh) : Fresh := { f with left := f.left.map (· - 1) }

/-- The clock reaches a moment, if it has not passed it yet (log 27). -/
def Part.reach (t : Nat) (p : Part) : Part := { p with clock.now := max p.clock.now t }

/-- The channel's record at the end of a conversion, and SENSOR_FAULT at an entry into FAULT (R29 to R34). -/
def Part.convertChannel (ch : ChannelNo) (raw : Nat) (p : Part) : Part :=
  let old := p.sense.channels[ch]
  let new := old.convert raw
  let p := { p with sense.channels := p.sense.channels.set ch new }
  if new.fault && !old.fault then p.notify .sensorFault else p

/-- The raw value of a conversion that ends with a row: the row's, or the count that the clock shows if that is higher,
and at most 65,535, at which a conversion ends (R28, log 27). -/
def Part.countedRaw (raw : BitVec 16) (p : Part) : Nat :=
  min longestDischarge (max raw.toNat (p.clock.now - (p.sense.scan.startedAt + millisecond)))

/-- The end of the conversion in progress: the channel, its reading handed to its block, and the next conversion
(R28 to R34, R40). -/
def Part.endConversion (raw : BitVec 16) (p : Part) : Part :=
  let ch := p.sense.scan.current
  let count := p.countedRaw raw
  let p := p.reach (p.sense.scan.startedAt + millisecond + count)
  let was := p.inFault ch
  let p := p.convertChannel ch count
  let p := p.handReading ch (p.inFault ch && !was)
  { p with
    sense.scan :=
      Scan.next p.clock.now { p.sense.scan with fresh := p.sense.scan.fresh.map Fresh.count } }

/-- The conversion in progress has reached 65,535 (R28). -/
def Part.dueConversion (p : Part) : Bool := p.sense.scan.startedAt + millisecond + longestDischarge ≤ p.clock.now

/-- 2 s, after which a flow period is none (R45). -/
def flowPeriodLimit : Nat := 2000000

/-- The flow period at a pulse (R45). -/
def flowPeriodAt (now : Nat) : Option Nat → Option Nat
  | none => none
  | some t => if now - t ≤ flowPeriodLimit then some (now - t) else none

/-- A flow pulse in the Sense Unit (R44, R45). -/
def Part.countFlow (p : Part) : Part :=
  { p with
    sense.flowCount := p.sense.flowCount + 1
    sense.flowPeriod := flowPeriodAt p.clock.now p.sense.lastFlow
    sense.lastFlow := some p.clock.now }

/-- 2 s have passed since the last flow pulse (R45). -/
def Part.flowSilent (p : Part) : Bool := p.sense.lastFlow.any fun t => t + flowPeriodLimit ≤ p.clock.now

/-- A tach pulse in the Sense Unit (R46). -/
def Part.countTach (p : Part) : Part :=
  { p with sense.tachCount := p.sense.tachCount + 1, sense.lastTach := some p.clock.now }

/-- The freezer door's debounced state becomes a level: a first reading, an opening or a closing (R41, R42, R138, R139). -/
def Part.doorBecomes (d : Door) (p : Part) : Part :=
  let q := { p with sense.door := some d }
  match p.sense.door, d with
  | none, _ => q
  | some _, .opened => q.doorOpens
  | some _, .closed => q.doorCloses

/-- A paddle's debounced state becomes a level: a first reading, a press or a release (R41, R42, R125, R127). -/
def Part.paddleBecomes (pad : Paddle) (st : PaddleState) (p : Part) : Part :=
  let q := { p with sense := p.sense.setPaddle st pad }
  match p.sense.paddle pad, st with
  | none, _ => q
  | some _, .pressed => q.judgePress pad
  | some _, .released => q.judgeRelease pad

/-- The home switch's debounced state becomes a level: a first reading or a change (R41, R42, R96, R105). -/
def Part.homeBecomes (c : Contact) (p : Part) : Part :=
  let q := { p with sense.home := some c }
  if p.sense.home = none then q.homeFirstRead else q.homeChanged c

/-- The open switch's debounced state becomes a level: a first reading or a change (R41, R42, R130 to R132). -/
def Part.flapBecomes (c : Contact) (p : Part) : Part :=
  let q := { p with sense.flap := some c }
  if p.sense.flap = none then q.flapFirstRead else q.flapChanged c

/-- The beam's filtered state becomes what a level gives (R43). -/
def Part.beamBecomes (l : BeamLevel) (p : Part) : Part := Part.beamChanged { p with sense.beam := filteredBy l }

/-- The change of an input that its pin has held for its time, and that nothing has taken yet, if there is one. -/
def takeDue {α : Type} (due : Option α) (become : α → Part → Part) (p : Part) : Part :=
  match due with
  | none => p
  | some v => become v p

/-- A row tells the level of the door's pin; a change that the level before it had earned is taken first (R41, R42, log 9). -/
def Part.doorTold (d : Door) (p : Part) : Part :=
  (takeDue (p.sense.doorPin.due p.clock.now doorTime p.sense.door) Part.doorBecomes p).tellDoor d

/-- A row tells the level of a paddle's pin; a change that the level before it had earned is taken first (R41, R42, log 9). -/
def Part.paddleTold (pad : Paddle) (st : PaddleState) (p : Part) : Part :=
  (takeDue ((p.sense.paddlePin pad).due p.clock.now paddleTime (p.sense.paddle pad)) (Part.paddleBecomes pad)
    p).tellPaddle pad st

/-- A row tells the level of the home switch's pin; a change that the level before it had earned is taken first (R41, R42,
log 9). -/
def Part.homeTold (c : Contact) (p : Part) : Part :=
  (takeDue (p.sense.homePin.due p.clock.now switchTime p.sense.home) Part.homeBecomes p).tellHome c

/-- A row tells the level of the open switch's pin; a change that the level before it had earned is taken first (R41, R42,
log 9). -/
def Part.flapTold (c : Contact) (p : Part) : Part :=
  (takeDue (p.sense.flapPin.due p.clock.now switchTime p.sense.flap) Part.flapBecomes p).tellFlap c

/-- A row tells the level of the beam; a change that the level before it had earned is taken first (R43, log 9). -/
def Part.beamTold (l : BeamLevel) (p : Part) : Part := (takeDue p.beamDue Part.beamBecomes p).tellBeam l

/-- The first reading of a switch input that is NOT_READ, once its level has stood for its debounce time since the end of
the reset; before, and with a reading there already, the row only tells the level (R42, log 9, 24). -/
def Part.firstRead (r : FirstReading) (p : Part) : Part :=
  match r with
  | .door d =>
    let p := p.doorTold d
    if p.sense.door = none ∧ p.doorHeld d then p.doorBecomes d else p
  | .paddle pad st =>
    let p := p.paddleTold pad st
    if p.sense.paddle pad = none ∧ p.paddleHeld pad st then p.paddleBecomes pad st else p
  | .home c =>
    let p := p.homeTold c
    if p.sense.home = none ∧ p.homeHeld c then p.homeBecomes c else p
  | .flap c =>
    let p := p.flapTold c
    if p.sense.flap = none ∧ p.flapHeld c then p.flapBecomes c else p

/-- A paddle at PRESSED: a press, once the level has stood for the debounce time (R41, R125). -/
def Part.press (pad : Paddle) (p : Part) : Part :=
  let p := p.paddleTold pad .pressed
  if p.sense.paddle pad = some .released ∧ p.paddleHeld pad .pressed then p.paddleBecomes pad .pressed else p

/-- A paddle at RELEASED: a release, once the level has stood for the debounce time (R41, R127). -/
def Part.unpress (pad : Paddle) (p : Part) : Part :=
  let p := p.paddleTold pad .released
  if p.sense.paddle pad = some .pressed ∧ p.paddleHeld pad .released then p.paddleBecomes pad .released else p

/-- The freezer door at OPEN: an opening, once the level has stood for the debounce time (R41, R138). -/
def Part.doorOpening (p : Part) : Part :=
  let p := p.doorTold .opened
  if p.sense.door = some .closed ∧ p.doorHeld .opened then p.doorBecomes .opened else p

/-- The freezer door at CLOSED: a closing, once the level has stood for the debounce time (R41, R139). -/
def Part.doorClosing (p : Part) : Part :=
  let p := p.doorTold .closed
  if p.sense.door = some .opened ∧ p.doorHeld .closed then p.doorBecomes .closed else p

/-- The ejector home switch at a level: a change, once the level has stood for the debounce time (R41, R96, R105). -/
def Part.homeSwitch (c : Contact) (p : Part) : Part :=
  let p := p.homeTold c
  if p.sense.home.isSome ∧ p.sense.home ≠ some c ∧ p.homeHeld c then p.homeBecomes c else p

/-- The chute-flap open switch at a level: a change, once the level has stood for the debounce time (R41, R130 to R132). -/
def Part.flapSwitch (c : Contact) (p : Part) : Part :=
  let p := p.flapTold c
  if p.sense.flap.isSome ∧ p.sense.flap ≠ some c ∧ p.flapHeld c then p.flapBecomes c else p

/-- The bin beam at a level: a change of the filtered state, once the level has stood for its filter time (R43). -/
def Part.beamAt (level : BeamLevel) (p : Part) : Part :=
  let p := p.beamTold level
  if p.sense.beam ≠ filteredBy level ∧ p.beamHeld level then p.beamBecomes level else p

end Sys2Proof.Machine
end

