-- ==== Sys2Proof/Machine/Guard.lean ====
section
/-! DEFINITION. Supervision: the effects of SET_PARAM, the silence timer, and the three resets (R174 to R189). -/

namespace Sys2Proof.Machine

/-- The five parameters bound by the pair conditions (R176). -/
def Param.paired : Param → Bool
  | .defrostMinH | .defrostMaxH | .defrostStartH | .shortHeat | .longHeat => true
  | _ => false

/-- The pair conditions (R176). -/
def Params.pairsHold (ps : Params) : Bool :=
  ps.defrostMinH ≤ ps.defrostMaxH && ps.defrostMinH ≤ ps.defrostStartH && ps.defrostStartH ≤ ps.defrostMaxH &&
    ps.shortHeat < ps.longHeat

/-- A value is in the range of Table 8-1 (R175). -/
def Param.inRange (k : Param) (v : Int) : Bool :=
  k.spec.lo ≤ v && v ≤ k.spec.hi && v % k.spec.step == 0 && !(k == .silenceLimit && v == 1)

/-- A HEATER_BUDGET is no lower than any accepted rating (R58, R175). -/
def Loads.fitsBudget (l : Loads) (v : Int) : Bool := allHeaters.all fun n => (l.heaters[n].accepted.watts : Int) ≤ v

/-- The refusal of a SET_PARAM whose number names a parameter, if any, in the order of R175. -/
def Part.paramRefusal (k : Param) (v : Int) (p : Part) : Option Status :=
  if p.supervision.lock && k.spec.locked then some .locked
  else if !k.inRange v then some .range
  else if k.paired && !(p.supervision.params.set v k).pairsHold then some .range
  else if k = .heaterBudget ∧ !p.loads.fitsBudget v then some .range
  else if k = .flowK ∧ (p.line.state ≠ .idle ∨ p.line.suspended.isSome) then some .state
  else none

/-- The owner of a LINK test in the service slot ends it (R17, R64, R118). -/
def Part.endServiceTest (o : TicketOutcome) (p : Part) : Part :=
  match p.pool.serviceSlot with
  | none => p
  | some n =>
    match (p.ticket n).testHeater with
    | some h => (p.dropTest h).finish n o
    | none => p.abandonEjectorTest n o

/-- The LINK work ends at an expiry: the dispenser tickets and the service-slot test, in an order the spec leaves open
(R12, R182, log 12). -/
def Part.endLinkWork (p : Part) : Part :=
  if Config.freeTestEndsFirst p.freeCount then (p.endServiceTest .linkLost).loseQueue.spendFree
  else (p.loseQueue.endServiceTest .linkLost).spendFree

/-- An expiry of the silence timer (R182). -/
def Part.expireSilence (p : Part) : Part :=
  let p :=
    { p with
      supervision.silent := true
      supervision.silence := p.supervision.silence.stop p.clock.now }
  let p := (p.notify .silenceTrip).endLinkWork
  if p.defrost.state = .wanted then { p with defrost.silentWant := .fromZero p.clock.now } else p

/-- The silence time has reached SILENCE_LIMIT, compared in force (R181). -/
def Part.silenceDue (p : Part) : Bool :=
  p.supervision.armed && !p.supervision.silent && p.supervision.params.silenceLimit != 0 &&
    decide (p.supervision.params.silenceLimit * second ≤ p.supervision.silence.read p.clock.now)

/-- The silence time is compared (R181). -/
def Part.compareSilence (p : Part) : Part := if p.silenceDue then p.expireSilence else p

/-- The taking of a valid frame reloads the silence timer and clears SILENT (R181, R183, R157). -/
def Part.reloadSilence (p : Part) : Part :=
  { p with
    supervision.armed := true
    supervision.silent := false
    supervision.silence := .fromZero p.clock.now
    defrost.silentWant := if p.supervision.silent then {} else p.defrost.silentWant }

/-- An accepted change of a parameter, already in the store, taken by its owner (R177, and the owners' tables of
effects: R92, R119, R145, R171, R36). -/
def Part.paramChanged (k : Param) (p : Part) : Part :=
  match k with
  | .silenceLimit => p.compareSilence
  | .flowK => { p with line.filterRem := 0 }
  | .fillOpenLimit => p.compareOpenLimit
  | .dispenseOpenLimit => p.compareOpenLimit.compareRunning
  | .noFlowWindow => p.compareNoFlow
  | .filterLimitL | .filterLimitDays => p.judgeFilter
  | .binCapacity => p.capacityChanged
  | .harvestTemp => p.takeFreeze
  | .freezeHold | .minFreeze => p.takeFreeze.takeFaultFreeze
  | .moldHeatLimit => p.compareMoldLimit
  | .defrostMinH | .defrostMaxH => p.clampTarget.compareTarget
  | .defrostStartH =>
    Part.compareTarget { p with defrost.target := p.supervision.params.defrostStartH * 60 }
  | .defrostHeatLimit => p.compareHeatLimit
  | .wantLimit => p.compareWantLimit
  | .channelClass ch => p.handReading ch false
  | .heaterBudget | .fillVolume | .dryRetry | .leakPulses | .leakWindow | .cubesPerHarvest | .augerRate | .releaseTemp
  | .ejectLimit | .chuteHold | .ductAfter | .doorPauseLimit | .waterColdLimit | .doorWeight | .fillWeight | .terminateTemp
  | .dripTime | .fanStartTemp | .recoverLimit | .shortHeat | .longHeat | .adaptStep | .iceForm => p

/-- An accepted SET_PARAM, as one move (R177). -/
def Part.acceptParam (k : Param) (v : Int) (p : Part) : Part :=
  Part.paramChanged k { p with supervision.params := p.supervision.params.set v k }

/-- The part as a power-on leaves it (R184, Table 8-3). -/
def Part.afterPowerOn (p : Part) : Part := { Part.reset with freeCount := p.freeCount }

/-- The line as a line reset or RESTART leaves it: the filter totals and the leak latch are kept (Table 4-4). That the
remainder is kept by a line reset too, which sets FLOW_K back to its default, is the model's choice (log 32). -/
def Line.afterReset (l : Line) : Line :=
  { Part.reset.line with
    filterMl := l.filterMl, filterRem := l.filterRem, filterSeconds := l.filterSeconds, filterStatus := l.filterStatus,
    leakLatch := l.leakLatch, leakTime := l.leakTime }

/-- The part as a line reset leaves it (R185, Table 8-3). -/
def Part.afterLineReset (p : Part) : Part := { p.afterPowerOn with line := p.line.afterReset }

/-- The loads as RESTART leaves them: configuration, budget and rotation table are kept (Table 3-5). -/
def Loads.afterRestart (l : Loads) : Loads :=
  { l.updateAll (fun _ h => Heater.fresh h.accepted h.inForce) with slot := 0, testSlots := 0 }

/-- The part as RESTART leaves it (R186, Table 8-3, R173). -/
def Part.afterRestart (p : Part) : Part :=
  { p.afterLineReset with
    link := { Part.reset.link with mask := p.link.mask }
    sense := { Part.reset.sense with curveA := p.sense.curveA, curveB := p.sense.curveB }
    loads := p.loads.afterRestart
    defrost := { Part.reset.defrost with credit := p.defrost.credit, target := p.defrost.target, log := p.defrost.log }
    supervision := { Part.reset.supervision with params := p.supervision.params, lock := p.supervision.lock } }

/-- The part as a kind of reset leaves it. -/
def Part.afterReset (p : Part) : ResetKind → Part
  | .powerOn => p.afterPowerOn
  | .lineReset => p.afterLineReset
  | .restart => p.afterRestart

/-- The beginning of a reset: every output is released, every timer stops, all work is dropped, the pending set is empty,
the part seconds count is held at 0 (R187, R198). The kept and the cleared state take their values here (log 18). -/
def Part.beginReset (k : ResetKind) (p : Part) : Part :=
  let q := p.afterReset k
  { q with resetting := some k, link.pendingSet := 0, ice.homingDeadline := none }

/-- The end of a reset: RESTARTED is pending, the times start from 0, the ice maker waits in HOMING, and the credit is
compared with the target (R188, R189, R96, R173). -/
def Part.endReset (p : Part) : Part :=
  let p :=
    { p with
      resetting := none
      clock := ⟨0, 0⟩
      link.pendingSet := Notice.restarted.bit
      sense.scan := Part.reset.sense.scan }
  Part.compareTarget p.homeNow

end Sys2Proof.Machine
end

