-- ==== Sys2Proof/Machine/Owners.lean ====
section
/-! DEFINITION. What the owner of each command kind does with a frame's payload, and the answer it gives: status and reply
data (Table 9-3, R195 to R197, and the owners' rules). -/

namespace Sys2Proof.Machine

/-- A refusal with STATUS and ROOM alone (R195). -/
def refuse (s : Status) (p : Part) : Answer × Part := (⟨s, []⟩, p)

/-- An acceptance without data. -/
def accept (p : Part) : Answer × Part := (⟨.ok, []⟩, p)

/-- The part code and the revision (R202). -/
def partCode : List Byte := [0x46, 0x44, 0x34, 0x31, 0x38, 0x01]

/-- PING (R202). -/
def Part.takePing (payload : List Byte) (p : Part) : Answer × Part :=
  if payload.length ≤ 8 then (⟨.ok, partCode ++ payload⟩, p) else refuse .badLength p

/-- STATUS (R203). -/
def Part.takeStatus (payload : List Byte) (p : Part) : Answer × Part :=
  match payload with
  | [] => (⟨.ok, p.statusData⟩, p)
  | _ => refuse .badLength p

/-- READ_NOTICES: the pending set and the mask are returned, and the notices read are removed (R200). -/
def Part.takeReadNotices (payload : List Byte) (p : Part) : Answer × Part :=
  match payload with
  | [] => (⟨.ok, noticeField p.link.pendingSet ++ noticeField p.link.mask⟩, { p with link.pendingSet := 0 })
  | _ => refuse .badLength p

/-- The reply data of SET_NOTICE_MASK (R201). -/
def Part.maskData (p : Part) : List Byte := noticeField p.link.mask ++ noticeField p.link.pendingSet

/-- SET_NOTICE_MASK (R201). -/
def Part.takeSetNoticeMask (payload : List Byte) (p : Part) : Answer × Part :=
  match payload with
  | [hi, lo] =>
    if hi.extractLsb' 6 2 ≠ 0 then (⟨.range, p.maskData⟩, p)
    else
      let p := { p with link.mask := (hi ++ lo).setWidth 14 }
      (⟨.ok, p.maskData⟩, p)
  | _ => (⟨.badLength, p.maskData⟩, p)

/-- RESTART: the RESET log record is written if a cycle is in progress, and the reset follows the reply (R186, R173). -/
def Part.takeRestart (payload : List Byte) (p : Part) : Answer × Part :=
  match payload with
  | [] => accept { p.writeResetRecord with link.restartPending := true }
  | _ => refuse .badLength p

/-- The reply data of SET_PARAM: the number, and the accepted value as it stands (R175). -/
def Part.paramData (b : Byte) (p : Part) : List Byte :=
  b :: int16 (((Param.ofNumber b.toNat).map p.supervision.params.get).getD 0)

/-- SET_PARAM (R175, R177). -/
def Part.takeSetParam (payload : List Byte) (p : Part) : Answer × Part :=
  match payload with
  | [n, hi, lo] =>
    match Param.ofNumber n.toNat with
    | none => (⟨.range, p.paramData n⟩, p)
    | some k =>
      match p.paramRefusal k (readInt16 hi lo) with
      | some s => (⟨s, p.paramData n⟩, p)
      | none =>
        let p := (p.acceptParam k (readInt16 hi lo)).settle
        (⟨.ok, p.paramData n⟩, p)
  | _ => (⟨.badLength, [0, 0, 0]⟩, p)

/-- GET_PARAM (R178). -/
def Part.takeGetParam (payload : List Byte) (p : Part) : Answer × Part :=
  match payload with
  | [n] =>
    match Param.ofNumber n.toNat with
    | none => (⟨.range, [n, 0, 0]⟩, p)
    | some k => (⟨.ok, p.paramData n ++ [flag k.spec.locked, flag p.supervision.lock]⟩, p)
  | _ => (⟨.badLength, [0, 0, 0]⟩, p)

/-- LOCK_LIMITS (R180). -/
def Part.takeLockLimits (payload : List Byte) (p : Part) : Answer × Part :=
  match payload with
  | [] => (⟨.ok, [flag true]⟩, { p with supervision.lock := true })
  | _ => refuse .badLength p

/-- The class of a code (R174, Table 9-10). -/
def classOf (b : Byte) : Option CurveClass := if b = 0 then some .a else if b = 1 then some .b else none

/-- Along a table the counts strictly increase and the temperatures strictly decrease (R35). -/
def ordered : List CurvePoint → Bool
  | q :: r :: rest => q.count < r.count && r.temp < q.temp && ordered (r :: rest)
  | _ => true

/-- A table that LOAD_CURVE accepts: 4 to 12 points in order, every temperature from −100.0 °C to +150.0 °C (R35, R37). -/
def validCurve (table : List CurvePoint) : Bool :=
  4 ≤ table.length && table.length ≤ 12 && table.all (fun q => -1000 ≤ q.temp && q.temp ≤ 1500) && ordered table

/-- A curve table replaced (R37). -/
def Sense.setCurve (c : CurveClass) (table : List CurvePoint) (s : Sense) : Sense :=
  match c with
  | .a => { s with curveA := table }
  | .b => { s with curveB := table }

/-- LOAD_CURVE (R37). -/
def Part.takeLoadCurve (payload : List Byte) (p : Part) : Answer × Part :=
  match payload with
  | c :: count :: points =>
    if points.length ≠ 4 * count.toNat then refuse .badLength p
    else if p.supervision.lock then refuse .locked p
    else
      match classOf c with
      | none => refuse .range p
      | some cls =>
        if validCurve (pointsOf points) then
          accept (Part.handClass cls { p with sense := p.sense.setCurve cls (pointsOf points) }).settle
        else refuse .range p
  | _ => refuse .badLength p

/-- GET_CURVE (R38). -/
def Part.takeGetCurve (payload : List Byte) (p : Part) : Answer × Part :=
  match payload with
  | [c] =>
    match classOf c with
    | none => refuse .range p
    | some cls => (⟨.ok, curveData (p.sense.curve cls)⟩, p)
  | _ => refuse .badLength p

/-- The refusal of a SET_LOAD of a heater, if any, in the order of R60. -/
def Part.loadRefusal (h : HeaterNo) (c : HeaterConfig) (p : Part) : Option Status :=
  if p.supervision.lock && c.watts != p.loads.heaters[h].accepted.watts then some .locked
  else if 400 < c.watts ∨ c.watts % 5 ≠ 0 ∨ c.period < 1 ∨ 16 < c.period ∨ 16 < c.duty then some .range
  else if p.supervision.params.heaterBudget < c.watts then some .range
  else none

/-- SET_LOAD (R60). -/
def Part.takeSetLoad (payload : List Byte) (p : Part) : Answer × Part :=
  match payload with
  | [n, hi, lo, period, duty] =>
    if h : n.toNat < 5 then
      let c : HeaterConfig := ⟨read16 hi lo, period.toNat, duty.toNat⟩
      match p.loadRefusal ⟨n.toNat, h⟩ c with
      | some s => refuse s p
      | none => accept { p with loads := p.loads.update ⟨n.toNat, h⟩ fun r => { r with accepted := c } }
    else refuse .range p
  | _ => refuse .badLength p

/-- GET_LOADS (R62). -/
def Part.takeGetLoads (payload : List Byte) (p : Part) : Answer × Part :=
  match payload with
  | [] => (⟨.ok, p.loadsData⟩, p)
  | _ => refuse .badLength p

/-- SET_ROTATION (R59). -/
def Part.takeSetRotation (payload : List Byte) (p : Part) : Answer × Part :=
  if payload.length = 16 then
    match rotationOf payload with
    | some t => accept { p with loads.rotation := t }
    | none => refuse .range p
  else refuse .badLength p

/-- A LOAD_TEST that runs in the service slot: on a heater or on EJECTOR (R17). -/
def serviceBound (kind : TicketKind) (r : Request) : Bool :=
  kind == .loadTest && (r.load != some .chute && r.load != some .auger)

/-- The kind is a water kind. -/
def TicketKind.isWater : TicketKind → Bool
  | .waterPortion | .waterHold | .flush => true
  | _ => false

/-- The refusal of a SUBMIT before its draw, if any, in the order of R19. -/
def Part.submitRefusal (kind : TicketKind) (r : Request) (p : Part) : Option Status :=
  if kind.isWater && p.line.leakLatch then some .state
  else if serviceBound kind r && p.pool.serviceSlot.isSome then some .state
  else if r.load = some .ejector ∧ p.ice.state ≠ .parked then some .state
  else if !serviceBound kind r && 7 ≤ p.pool.queue.length then some .queueFull
  else none

/-- A LINK ticket just drawn takes its place: the tail of the dispenser queue, or the service slot as ACTIVE
(R17, R20, R63, R117). -/
def Part.placeLink (n : TicketNo) (kind : TicketKind) (r : Request) (p : Part) : Part :=
  if serviceBound kind r then
    let p := Part.activate n { p with pool.serviceSlot := some n }
    match r.load with
    | some (.heater h) => p.startHeaterTest h
    | _ => p.startEjectorTest
  else { p with pool.queue := p.pool.queue ++ [n] }

/-- SUBMIT (R18, R19, R20). -/
def Part.takeSubmit (tag : Byte) (payload : List Byte) (p : Part) : Answer × Part :=
  if payload.length = 8 then
    match submitRequest payload with
    | none => refuse .range p
    | some (kind, r) =>
      match p.submitRefusal kind r with
      | some s => refuse s p
      | none =>
        match p.draw kind .link (some tag) r with
        | (none, p) => refuse .noTicket p
        | (some n, p) => (⟨.ok, [byte n.val]⟩, (p.placeLink n kind r).settle)
  else refuse .badLength p

/-- A ticket stands in the dispenser queue. -/
def Part.queued (n : TicketNo) (p : Part) : Bool := p.pool.queue.contains n

/-- The refusal of a CANCEL of a ticket, if any, in the order of R21. -/
def Part.cancelRefusal (n : TicketNo) (p : Part) : Option Status :=
  let t := p.ticket n
  if t.state = .free ∨ t.state = .done then some .notFound
  else if t.origin = some .iceMaker ∨ t.origin = some .defrost then some .state
  else if t.state = .stopping then some .state
  else none

/-- CANCEL (R21, R140, R17). -/
def Part.takeCancel (payload : List Byte) (p : Part) : Answer × Part :=
  match payload with
  | [b] =>
    if h : b.toNat < 24 then
      let n : TicketNo := ⟨b.toNat, h⟩
      match p.cancelRefusal n with
      | some s => refuse s p
      | none =>
        accept (if p.queued n then p.cancelQueued n .cancelled else p.endServiceTest .cancelled).settle
    else refuse .range p
  | _ => refuse .badLength p

/-- At most `k` records leave the head of the completion queue, oldest first, and their tickets join the free list
(R13, R23). -/
def Part.fetchUpTo : Nat → Part → List (List Byte) × Part
  | 0, p => ([], p)
  | k + 1, p =>
    match p.pool.completion with
    | [] => ([], p)
    | n :: rest =>
      let record := (p.ticket n).completionRecord n
      let (records, p) := (Part.joinFree n { p with pool.completion := rest }).fetchUpTo k
      (record :: records, p)

/-- FETCH (R23, R206). -/
def Part.takeFetch (payload : List Byte) (p : Part) : Answer × Part :=
  match payload with
  | [c] =>
    if c.toNat < 1 ∨ 3 < c.toNat then refuse .range p
    else
      let (records, p) := p.fetchUpTo c.toNat
      (⟨.ok, byte records.length :: records.flatten⟩, p.settle)
  | _ => refuse .badLength p

/-- TICKET_INFO (R24). -/
def Part.takeTicketInfo (payload : List Byte) (p : Part) : Answer × Part :=
  match payload with
  | [b] =>
    if h : b.toNat < 24 then
      let n : TicketNo := ⟨b.toNat, h⟩
      if (p.ticket n).state = .free then refuse .notFound p
      else (⟨.ok, p.ticketInfo n⟩, p.spendFree)
    else refuse .range p
  | _ => refuse .badLength p

/-- POOL_STATUS (R25, R9). -/
def Part.takePoolStatus (payload : List Byte) (p : Part) : Answer × Part :=
  match payload with
  | [c] => (⟨.ok, p.poolData⟩, if c.getLsbD 0 then { p with pool.starvation := {} } else p)
  | _ => refuse .badLength p

/-- READ_SENSORS: an answer at once, or a FRESH request handed to the scan (R39, R40). -/
def Part.takeReadSensors (payload : List Byte) (p : Part) : Option Answer × Part :=
  match payload with
  | [flags, set] =>
    if set.extractLsb' 6 2 ≠ 0 then (some ⟨.range, []⟩, p)
    else if flags.getLsbD 0 && !(channelsOf set).isEmpty then
      (none, { p with sense.scan.fresh := some { channels := channelsOf set, left := none } })
    else (some ⟨.ok, p.sensorData (channelsOf set)⟩, p.spendFree)
  | _ => (some ⟨.badLength, []⟩, p)

/-- CLEAR_LEAK (R87). -/
def Part.takeClearLeak (payload : List Byte) (p : Part) : Answer × Part :=
  match payload with
  | [] => accept p.clearLeakLatch.settle
  | _ => refuse .badLength p

/-- FILTER_RESET (R90). -/
def Part.takeFilterReset (payload : List Byte) (p : Part) : Answer × Part :=
  match payload with
  | [] =>
    accept
      { p with
        line.filterMl := 0
        line.filterRem := 0
        line.filterSeconds := 0
        line.filterStatus := .good }
  | _ => refuse .badLength p

/-- GET_TOTALS (R90). -/
def Part.takeGetTotals (payload : List Byte) (p : Part) : Answer × Part :=
  match payload with
  | [] => (⟨.ok, p.totalsData⟩, p)
  | _ => refuse .badLength p

/-- RESTORE_TOTALS (R91, R149). -/
def Part.takeRestoreTotals (payload : List Byte) (p : Part) : Answer × Part :=
  match payload with
  | [v3, v2, v1, v0, s3, s2, s1, s0, c1, c0] =>
    let p :=
      Part.judgeFilter
        { p with line.filterMl := read32 v3 v2 v1 v0, line.filterRem := 0, line.filterSeconds := read32 s3 s2 s1 s0 }
    let p :=
      { p with defrost.credit := read16 c1 c0, defrost.compressorSeconds := 0, defrost.doorSeconds := 0 }
    accept p.compareTarget.settle
  | _ => refuse .badLength p

/-- The answer to a request of ICE_CONTROL that its rule accepts, or does not (R113). -/
def Part.answerIce (taken : Option Part) (p : Part) : Answer × Part :=
  match taken with
  | some q => (⟨.ok, q.settle.iceData⟩, q.settle)
  | none => (⟨.state, p.iceData⟩, p)

/-- ICE_CONTROL (R113 to R116). -/
def Part.takeIceControl (payload : List Byte) (p : Part) : Answer × Part :=
  match payload with
  | [r] =>
    if r = 0 then p.answerIce p.park
    else if r = 1 then p.answerIce p.runIce
    else if r = 2 then p.answerIce p.resumeIce
    else if r = 3 then p.answerIce p.harvestNow
    else refuse .range p
  | _ => (⟨.badLength, p.iceData⟩, p)

/-- A refusal of a defrost command carries the defrost reply data (R147, R195, log 14). -/
def Part.refuseDefrost (s : Status) (p : Part) : Answer × Part := (⟨s, p.defrostData⟩, p)

/-- The answer to a defrost command that its rule accepts, or does not (R153, R155, R160). -/
def Part.answerDefrost (taken : Option Part) (p : Part) : Answer × Part :=
  match taken with
  | some q => (⟨.ok, q.settle.defrostData⟩, q.settle)
  | none => p.refuseDefrost .state

/-- COMPRESSOR, its state already checked (R152). -/
def Part.setCompressor (running : Bool) (p : Part) : Part :=
  let p := { p with defrost.compressorRunning := running }
  if running ∧ p.defrost.state = .heating then p.updateCycle fun c => { c with compressorOn := true } else p

/-- COMPRESSOR (R152). -/
def Part.takeCompressor (payload : List Byte) (p : Part) : Answer × Part :=
  match payload with
  | [s] =>
    if s = 0 then (⟨.ok, (p.setCompressor false).defrostData⟩, p.setCompressor false)
    else if s = 1 then (⟨.ok, (p.setCompressor true).defrostData⟩, p.setCompressor true)
    else p.refuseDefrost .range
  | _ => p.refuseDefrost .badLength

/-- GO, where it is accepted (R153). -/
def Part.go (p : Part) : Option Part :=
  match p.defrost.state with
  | .wanted | .deferred => some (p.enterPrep false false)
  | .accruing | .prep | .heating | .dwell | .recover => none

/-- DEFER, where it is accepted (R153, R154). -/
def Part.defer (minutes : Nat) (p : Part) : Option Part :=
  match p.defrost.state with
  | .wanted => some (p.enterDeferred minutes)
  | .accruing | .deferred | .prep | .heating | .dwell | .recover => none

/-- DEFROST_REPLY (R153). -/
def Part.takeDefrostReply (payload : List Byte) (p : Part) : Answer × Part :=
  match payload with
  | [a, m] =>
    if a = 0 then p.answerDefrost p.go
    else if a = 1 then
      if m.toNat < 1 ∨ 120 < m.toNat then p.refuseDefrost .range else p.answerDefrost (p.defer m.toNat)
    else p.refuseDefrost .range
  | _ => p.refuseDefrost .badLength

/-- DEFROST_FORCE, where it is accepted (R155). -/
def Part.force (p : Part) : Option Part :=
  match p.defrost.state with
  | .accruing | .wanted | .deferred => some (p.enterPrep true false)
  | .prep | .heating | .dwell | .recover => none

/-- DEFROST_FORCE (R155). -/
def Part.takeDefrostForce (payload : List Byte) (p : Part) : Answer × Part :=
  match payload with
  | [] => p.answerDefrost p.force
  | _ => p.refuseDefrost .badLength

/-- DEFROST_ABORT, where it is accepted (R160, R163). -/
def Part.abort (p : Part) : Option Part :=
  match p.defrost.state with
  | .prep => some p.abortPrep
  | .heating => some (p.endHeating .aborted)
  | .accruing | .wanted | .deferred | .dwell | .recover => none

/-- DEFROST_ABORT (R160, R163). -/
def Part.takeDefrostAbort (payload : List Byte) (p : Part) : Answer × Part :=
  match payload with
  | [] => p.answerDefrost p.abort
  | _ => p.refuseDefrost .badLength

/-- DEFROST_LOG (R170). -/
def Part.takeDefrostLog (payload : List Byte) (p : Part) : Answer × Part :=
  match payload with
  | [] => (⟨.ok, logData p.defrost.log⟩, p)
  | _ => refuse .badLength p

end Sys2Proof.Machine
end

