-- ==== Sys2Proof/Machine/Link.lean ====
section
/-! DEFINITION. The Link Port: the kind table, execution and replies, valid frames, discards and the frame receiver
(R191 to R196). -/

namespace Sys2Proof.Machine

/-- The longest payload of a frame from the host (R193). -/
def maxPayload : Nat := 64

/-- The gap within a frame: 20 ms from the end of a byte to the beginning of the next (R193). -/
def gapTime : Nat := 20 * millisecond

/-- From the taking of a byte, at the middle of its stop bit, to its end: half a bit of R190, 26.04 µs, in whole µs upward. -/
def stopBitRest : Nat := 27

/-- A byte on the line: 10 bits of R190, 520.83 µs, in whole µs upward. It is the time from the taking of a byte to its end and
from the beginning of the next to its taking, together. -/
def byteTime : Nat := 521

/-- An answer that is given at once. -/
def atOnce (r : Answer × Part) : Option Answer × Part := (some r.1, r.2)

/-- The command of a frame, taken by the owner of its kind (Table 9-3, R196); no answer while a READ_SENSORS with FRESH is
held. -/
def Part.takeKind (f : Frame) (p : Part) : Option Answer × Part :=
  if f.kind = 0x01 then atOnce (p.takePing f.payload)
  else if f.kind = 0x02 then atOnce (p.takeStatus f.payload)
  else if f.kind = 0x03 then atOnce (p.takeReadNotices f.payload)
  else if f.kind = 0x04 then atOnce (p.takeSetNoticeMask f.payload)
  else if f.kind = 0x05 then atOnce (p.takeRestart f.payload)
  else if f.kind = 0x10 then atOnce (p.takeSetParam f.payload)
  else if f.kind = 0x11 then atOnce (p.takeGetParam f.payload)
  else if f.kind = 0x12 then atOnce (p.takeLoadCurve f.payload)
  else if f.kind = 0x13 then atOnce (p.takeGetCurve f.payload)
  else if f.kind = 0x14 then atOnce (p.takeSetLoad f.payload)
  else if f.kind = 0x15 then atOnce (p.takeGetLoads f.payload)
  else if f.kind = 0x16 then atOnce (p.takeSetRotation f.payload)
  else if f.kind = 0x17 then atOnce (p.takeLockLimits f.payload)
  else if f.kind = 0x20 then atOnce (p.takeSubmit f.tag f.payload)
  else if f.kind = 0x21 then atOnce (p.takeCancel f.payload)
  else if f.kind = 0x22 then atOnce (p.takeFetch f.payload)
  else if f.kind = 0x23 then atOnce (p.takeTicketInfo f.payload)
  else if f.kind = 0x24 then atOnce (p.takePoolStatus f.payload)
  else if f.kind = 0x30 then p.takeReadSensors f.payload
  else if f.kind = 0x38 then atOnce (p.takeClearLeak f.payload)
  else if f.kind = 0x39 then atOnce (p.takeFilterReset f.payload)
  else if f.kind = 0x3A then atOnce (p.takeGetTotals f.payload)
  else if f.kind = 0x3B then atOnce (p.takeRestoreTotals f.payload)
  else if f.kind = 0x40 then atOnce (p.takeIceControl f.payload)
  else if f.kind = 0x50 then atOnce (p.takeCompressor f.payload)
  else if f.kind = 0x51 then atOnce (p.takeDefrostReply f.payload)
  else if f.kind = 0x52 then atOnce (p.takeDefrostForce f.payload)
  else if f.kind = 0x53 then atOnce (p.takeDefrostAbort f.payload)
  else if f.kind = 0x54 then atOnce (p.takeDefrostLog f.payload)
  else (some ⟨.unknownKind, []⟩, p)

/-- ROOM: the free inbox entries at this moment (R195). -/
def Link.room (l : Link) : Nat := 4 - l.inbox.length

/-- The reply to a frame is built and begins to be sent (R195). -/
def Part.sendReply (f : Frame) (a : Answer) (p : Part) : Part :=
  { p with link.reply := some (replyFrame f p.link.room a) }

/-- A command is executed: its owner takes it, and the reply is built when the owner has (R194, R195). -/
def Part.execute (f : Frame) (p : Part) : Part :=
  match Part.takeKind f { p with link.executing := some f } with
  | (some a, p) => p.sendReply f a
  | (none, p) => p

/-- The command at the head of the inbox begins execution, if none is in execution (R194). -/
def Part.beginNext (p : Part) : Part :=
  match p.link.executing, p.link.inbox with
  | none, f :: rest => Part.execute f { p with link.inbox := rest }
  | _, _ => p

/-- A frame is discarded (R193). -/
def Part.discard (e : LinkError) (p : Part) : Part := Part.notify .linkError { p with link.lastError := some e }

/-- A frame whose check byte is correct is taken: into the inbox as a valid frame, or discarded OVERRUN
(R181, R191, R193, R194). -/
def Part.takeFrame (f : Frame) (p : Part) : Part :=
  if 4 ≤ p.link.inbox.length then p.discard .overrun
  else
    let p := p.reloadSilence
    Part.beginNext { p with link.inbox := p.link.inbox ++ [f] }

/-- A frame of a host command as a whole, its LEN judged first (R191, R193, log 5). -/
def Part.hostFrame (f : Frame) (p : Part) : Part :=
  if maxPayload < f.payload.length then p.discard .length else p.takeFrame f

/-- The bytes gathered so far, after START, make a whole frame: LEN, KIND, TAG, the payload and CHECK (R191). -/
def wholeFrame (bytes : List Byte) : Bool :=
  match bytes with
  | [] => false
  | len :: _ => bytes.length = len.toNat + 4

/-- The end of a frame at its CHECK (R191, R193). -/
def Part.checkFrame (bytes : List Byte) (p : Part) : Part :=
  match bytes with
  | _ :: kind :: tag :: rest =>
    if bytes.getLast? = some (checkByte bytes.dropLast) then p.takeFrame ⟨kind, tag, rest.dropLast⟩
    else p.discard .check
  | _ => p.discard .check

/-- A byte taken while gathering (R191, R193). -/
def Part.gather (bytes : List Byte) (b : Byte) (p : Part) : Part :=
  let got := bytes ++ [b]
  if bytes = [] ∧ maxPayload < b.toNat then Part.discard .length { p with link.receiver := .hunting }
  else if wholeFrame got then Part.checkFrame got { p with link.receiver := .hunting }
  else { p with link.receiver := .gathering got p.clock.now }

/-- A time has passed since the taking of the last byte of a frame being gathered. -/
def Part.sinceByte (time : Nat) (p : Part) : Bool :=
  match p.link.receiver with
  | .hunting => false
  | .gathering _ t => t + time ≤ p.clock.now

/-- 20 ms have passed since the end of the last byte of a frame being gathered (R193). -/
def Part.gapDue (p : Part) : Bool := p.sinceByte (gapTime + stopBitRest)

/-- A byte of a frame being gathered that is taken now, or is still to be taken, has not begun within the 20 ms (R193). -/
def Part.gapOver (p : Part) : Bool := p.sinceByte (gapTime + byteTime)

/-- The gap ends the frame: it is discarded GAP (R193). -/
def Part.endGap (p : Part) : Part := Part.discard .gap { p with link.receiver := .hunting }

/-- A byte taken by the frame receiver: one that has begun too late finds its frame discarded GAP, and is a hunting byte
(R191, R193, log 6). -/
def Part.receive (p : Part) (b : Byte) : Part :=
  let p := if p.gapOver then p.endGap else p
  match p.link.receiver with
  | .hunting => if b = startByte then { p with link.receiver := .gathering [] p.clock.now } else p
  | .gathering bytes _ => p.gather bytes b

/-- Bytes taken one after another. -/
def Part.receiveAll (bytes : List Byte) (p : Part) : Part := bytes.foldl Part.receive p

/-- The last byte of the reply has been sent: a RESTART's reset begins, or the next command may (R186, R194). -/
def Part.replyEnds (p : Part) : Part :=
  match p.link.reply with
  | none => p
  | some _ =>
    if p.link.restartPending then p.beginReset .restart
    else Part.beginNext { p with link.reply := none, link.executing := none }

/-- A held READ_SENSORS is answered once the last named channel has been converted (R40). -/
def Part.answerFresh (p : Part) : Part :=
  match p.sense.scan.fresh, p.link.executing with
  | some { channels := chs, left := some 0 }, some f =>
    let a : Answer := ⟨.ok, p.sensorData chs⟩
    Part.spendFree (Part.sendReply f a { p with sense.scan.fresh := none })
  | _, _ => p

end Sys2Proof.Machine
end

