-- ==== Sys2Proof/Machine/Timers.lean ====
section
/-! DEFINITION. The moments of the timer rows: when each is due by the part's clock, and what the seconds count does
(log 2, 3). -/

namespace Sys2Proof.Machine

/-- A command is taken: time passes, then its effect. While a reset lasts the part answers nothing (R187). -/
def Part.take (dt : Nat) (f : Part → Part) (p : Part) : Part := if p.resetting.isSome then p else f (p.elapse dt)

/-- A command taken in a state with commands waiting; the queue is not touched. -/
def State.take (dt : Nat) (f : Part → Part) (s : State) : Host.Outcome State Fault Refusal :=
  .next { s with part := s.part.take dt f }

/-- A timer row: its effect, and what follows at once, if its moment has come; else only time has passed (log 3). -/
def Part.onDue (due : Part → Bool) (f : Part → Part) (p : Part) : Part := if due p then (f p).settle else p

/-- The line SETTLE has lasted 500 ms (R79). -/
def Part.dueLineSettle (p : Part) : Bool := p.line.state == .settle && passed p.clock.now p.line.settleEnd

/-- The DRY_RETRY timer has ended (R84). -/
def Part.dueDryRetry (p : Part) : Bool := passed p.clock.now p.line.dryRetry

/-- EJECT_LIMIT has passed in HOMING (R96). -/
def Part.dueHoming (p : Part) : Bool := p.ice.state == .homing && passed p.clock.now p.ice.homingDeadline

/-- MIN_FREEZE minutes since the freeze start have been reached, in FREEZING (R100). -/
def Part.dueMinFreeze (p : Part) : Bool := p.ice.state == .freezing && p.minFreezeReached 1

/-- 2 × MIN_FREEZE minutes since the freeze start have been reached, in FREEZING with MOLD in FAULT (R101). That it is due at
once where FREEZING is entered by RUN with MOLD in FAULT and the time already past is the model's choice (log 33). -/
def Part.dueFaultFreeze (p : Part) : Bool := p.ice.state == .freezing && p.inFault mold && p.minFreezeReached 2

/-- The leave-home deadline has passed (R105). -/
def Part.dueLeaveHome (p : Part) : Bool := passed p.clock.now p.ice.leaveDeadline

/-- The return deadline has passed (R105). -/
def Part.dueReturn (p : Part) : Bool := passed p.clock.now p.ice.returnDeadline

/-- The retry timer has ended (R106). -/
def Part.dueRetry (p : Part) : Bool := p.ice.state == .eject && passed p.clock.now p.ice.retryEnd

/-- Ice maker SETTLE has lasted 10 s (R109). -/
def Part.dueIceSettle (p : Part) : Bool := p.ice.state == .settle && passed p.clock.now p.ice.settleEnd

/-- The opening deadline has passed (R130). -/
def Part.dueFlapOpen (p : Part) : Bool := p.outlet.flap == .opening && passed p.clock.now p.outlet.flapDeadline

/-- The motion time of a closing has ended (R130). -/
def Part.dueFlapClose (p : Part) : Bool := p.outlet.flap == .closing && passed p.clock.now p.outlet.flapDeadline

/-- The forward run time has reached the run target, with the auger running forward (R134). -/
def Part.dueRunTarget (p : Part) : Bool := p.runsAuger && p.outlet.augerForward && p.targetRun

/-- The jam window has passed (R135). -/
def Part.dueJam (p : Part) : Bool :=
  p.runsAuger && p.outlet.augerForward && passed p.clock.now p.outlet.run.jamDeadline

/-- The reverse has lasted 0.5 s (R135). -/
def Part.dueReverse (p : Part) : Bool :=
  p.runsAuger && p.outlet.augerReverse && passed p.clock.now p.outlet.run.reverseEnd

/-- The flap hold timer has ended (R136). -/
def Part.dueFlapHold (p : Part) : Bool := p.outlet.state == .stopping && passed p.clock.now p.outlet.holdEnd

/-- The pause timer has ended in PAUSED with the door still OPEN (R139). -/
def Part.duePause (p : Part) : Bool :=
  p.outlet.state == .paused && p.sense.door == some .opened && passed p.clock.now p.outlet.pauseEnd

/-- The duct timer has ended (R142). -/
def Part.dueDuct (p : Part) : Bool := passed p.clock.now p.outlet.ductEnd

/-- The duct timer ends: the H4 demand is dropped (R142). -/
def Part.endDuct (p : Part) : Part := Part.dropOwner 4 { p with outlet.ductEnd := none }

/-- The defer timer has ended (R154). -/
def Part.dueDefer (p : Part) : Bool := p.defrost.state == .deferred && passed p.clock.now p.defrost.deferEnd

/-- DRIP_TIME has passed in DWELL (R165). -/
def Part.dueDwell (p : Part) : Bool := p.defrost.state == .dwell && passed p.clock.now p.defrost.dwellEnd

/-- RECOVER_LIMIT has passed in RECOVER (R166). -/
def Part.dueRecover (p : Part) : Bool := p.defrost.state == .recover && passed p.clock.now p.defrost.recoverEnd

/-- The flow period becomes none (R45). -/
def Part.endFlowPeriod (p : Part) : Part := { p with sense.flowPeriod := none }

/-- The part seconds count after an advance; what follows its highest value is a free value (Table 0-2, log 11). -/
def Part.nextSecond (p : Part) : Nat :=
  if p.clock.partSeconds < 4294967295 then p.clock.partSeconds + 1 else (Config.freePartSeconds p.freeCount).toNat

/-- The part seconds count advances (R52); the free value, where one was taken, is spent. -/
def Part.countSecond (p : Part) : Part :=
  let q := { p with clock.partSeconds := p.nextSecond }
  if p.clock.partSeconds < 4294967295 then q else q.spendFree

/-- The advance of the part seconds count: the slot boundary, a filter second, a second of frost credit
(R52, R89, R148, R188). The clock reaches the moment of the advance, if it had not (log 27). -/
def Part.advanceSecond (p : Part) : Part :=
  (p.reach ((p.clock.partSeconds + 1) * second)).countSecond.boundary.filterSecond.frostSecond

/-- A line grant judged now: a waiting dispense claim, else a waiting fill claim (R69 to R72). -/
def Part.judgeGrant (p : Part) : Part :=
  match p.line.state, p.line.dispenseClaim, p.line.suspended with
  | .idle, some n, _ => p.grantDispense n
  | .idle, none, none => p.judgeFill
  | _, _, _ => p

/-- A suspended fill judged now (R74). -/
def Part.judgeResume (p : Part) : Part :=
  match p.line.suspended with
  | some w => if p.line.freeForFill then p.resumeFill w else p
  | none => p

end Sys2Proof.Machine
end

