-- ==== Sys2Proof/Machine/DefrostCommands.lean ====
section
/-! DEFINITION. The commands and events of the Defrost Controller (chapter 7). -/

namespace Sys2Proof.Machine

/-- COMPRESSOR: the reported compressor state (R152). -/
def execCompressor (dt : Nat) (tag : Byte) (payload : List Byte) (s : State) : Host.Outcome State Fault Refusal :=
  s.take dt (Part.hostFrame ⟨0x50, tag, payload⟩)

/-- DEFROST_REPLY GO (R153). -/
def execDefrostReplyGo (dt : Nat) (tag minutes : Byte) (s : State) : Host.Outcome State Fault Refusal :=
  s.take dt (Part.hostFrame ⟨0x51, tag, [0, minutes]⟩)

/-- DEFROST_REPLY DEFER (R154). -/
def execDefrostReplyDefer (dt : Nat) (tag minutes : Byte) (s : State) : Host.Outcome State Fault Refusal :=
  s.take dt (Part.hostFrame ⟨0x51, tag, [1, minutes]⟩)

/-- DEFROST_FORCE: a FORCED cycle (R155). -/
def execDefrostForce (dt : Nat) (tag : Byte) (payload : List Byte) (s : State) : Host.Outcome State Fault Refusal :=
  s.take dt (Part.hostFrame ⟨0x52, tag, payload⟩)

/-- DEFROST_ABORT: the end of a cycle in PREP, or of heating (R160, R163). -/
def execDefrostAbort (dt : Nat) (tag : Byte) (payload : List Byte) (s : State) : Host.Outcome State Fault Refusal :=
  s.take dt (Part.hostFrame ⟨0x53, tag, payload⟩)

/-- DEFROST_LOG (R170). -/
def execDefrostLog (dt : Nat) (tag : Byte) (payload : List Byte) (s : State) : Host.Outcome State Fault Refusal :=
  s.take dt (Part.hostFrame ⟨0x54, tag, payload⟩)

/-- The defer timer ends (R154). -/
def execDeferTimerEnd (dt : Nat) (s : State) : Host.Outcome State Fault Refusal :=
  s.take dt (Part.onDue Part.dueDefer Part.endDefer)

/-- The want time reaches WANT_LIMIT (R156). -/
def execWantLimitReached (dt : Nat) (s : State) : Host.Outcome State Fault Refusal :=
  s.take dt (Part.onDue Part.wantLimitDue (Part.enterPrep false true))

/-- 60 minutes in WANTED while SILENT (R157). -/
def execSilentWantLimit (dt : Nat) (s : State) : Host.Outcome State Fault Refusal :=
  s.take dt (Part.onDue Part.silentWantDue (Part.enterPrep false true))

/-- The wait of PREP ends, if the ice maker is out of its harvest (R159, R161). -/
def execDefrostHeatingStart (dt : Nat) (s : State) : Host.Outcome State Fault Refusal :=
  s.take dt fun p => p.prepWait.settle

/-- DEFROST_HEAT_LIMIT, or half of it with EVAP in FAULT, ends the heating (R162). -/
def execDefrostHeatLimitExpiry (dt : Nat) (s : State) : Host.Outcome State Fault Refusal :=
  s.take dt (Part.onDue Part.heatLimitReached Part.compareHeatLimit)

/-- DRIP_TIME ends (R165). -/
def execDwellEnd (dt : Nat) (s : State) : Host.Outcome State Fault Refusal :=
  s.take dt (Part.onDue Part.dueDwell Part.endDwell)

/-- RECOVER_LIMIT ends RECOVER (R166). -/
def execRecoverLimitExpiry (dt : Nat) (s : State) : Host.Outcome State Fault Refusal :=
  s.take dt (Part.onDue Part.dueRecover Part.endRecover)

end Sys2Proof.Machine
end

