-- ==== Sys2Proof/Machine/IceCommands.lean ====
section
/-! DEFINITION. The commands and events of the Ice Maker Controller (chapter 5). -/

namespace Sys2Proof.Machine

/-- ICE_CONTROL PARK (R114). -/
def execIceControlPark (dt : Nat) (tag : Byte) (s : State) : Host.Outcome State Fault Refusal :=
  s.take dt (Part.hostFrame ⟨0x40, tag, [0]⟩)

/-- ICE_CONTROL RUN (R115). -/
def execIceControlRun (dt : Nat) (tag : Byte) (s : State) : Host.Outcome State Fault Refusal :=
  s.take dt (Part.hostFrame ⟨0x40, tag, [1]⟩)

/-- ICE_CONTROL RESUME (R116). -/
def execIceControlResume (dt : Nat) (tag : Byte) (s : State) : Host.Outcome State Fault Refusal :=
  s.take dt (Part.hostFrame ⟨0x40, tag, [2]⟩)

/-- ICE_CONTROL HARVEST_NOW (R116). -/
def execIceControlHarvestNow (dt : Nat) (tag : Byte) (s : State) : Host.Outcome State Fault Refusal :=
  s.take dt (Part.hostFrame ⟨0x40, tag, [3]⟩)

/-- The ejector home switch changes (R96, R105, R117). -/
def execHomeSwitchChange (dt : Nat) (c : Contact) (s : State) : Host.Outcome State Fault Refusal :=
  s.take dt fun p => (p.homeSwitch c).settle

/-- EJECT_LIMIT passes in HOMING, which fails (R96). -/
def execHomingDeadline (dt : Nat) (s : State) : Host.Outcome State Fault Refusal :=
  s.take dt (Part.onDue Part.dueHoming Part.homingFails)

/-- MIN_FREEZE since the freeze start is reached, and the freeze condition is taken (R100). -/
def execMinFreezeReached (dt : Nat) (s : State) : Host.Outcome State Fault Refusal :=
  s.take dt (Part.onDue Part.dueMinFreeze Part.takeFreeze)

/-- 2 × MIN_FREEZE passes with MOLD in FAULT (R101). -/
def execFaultFreezeTime (dt : Nat) (s : State) : Host.Outcome State Fault Refusal :=
  s.take dt (Part.onDue Part.dueFaultFreeze Part.takeFaultFreeze)

/-- HARVEST_WAIT finds its three conditions, and the ice maker enters HARVEST_HEAT (R102). -/
def execHarvestStart (dt : Nat) (s : State) : Host.Outcome State Fault Refusal :=
  s.take dt fun p => if p.ice.state = .harvestWait then p.redraw.settle else p

/-- MOLD_HEAT_LIMIT, or half of it with MOLD in FAULT, ends the heat (R104). -/
def execMoldHeatLimitExpiry (dt : Nat) (s : State) : Host.Outcome State Fault Refusal :=
  s.take dt (Part.onDue Part.moldLimitReached Part.compareMoldLimit)

/-- The leave-home deadline passes, and the attempt fails (R105). -/
def execLeaveHomeDeadline (dt : Nat) (s : State) : Host.Outcome State Fault Refusal :=
  s.take dt (Part.onDue Part.dueLeaveHome Part.attemptFails)

/-- The return deadline passes, and the attempt fails (R105). -/
def execEjectReturnDeadline (dt : Nat) (s : State) : Host.Outcome State Fault Refusal :=
  s.take dt (Part.onDue Part.dueReturn Part.attemptFails)

/-- The retry timer ends, and the second attempt begins (R106). -/
def execEjectRetryTimer (dt : Nat) (s : State) : Host.Outcome State Fault Refusal :=
  s.take dt (Part.onDue Part.dueRetry Part.beginAttempt)

/-- Ice maker SETTLE ends (R109). -/
def execIceSettleEnd (dt : Nat) (s : State) : Host.Outcome State Fault Refusal :=
  s.take dt (Part.onDue Part.dueIceSettle Part.endIceSettle)

end Sys2Proof.Machine
end

