-- ==== Sys2Proof/Machine/LineCommands.lean ====
section
/-! DEFINITION. The commands and events of the Water Line Controller (chapter 4). -/

namespace Sys2Proof.Machine

/-- CLEAR_LEAK: the latch, the leak time and the list are cleared (R87). -/
def execClearLeak (dt : Nat) (tag : Byte) (payload : List Byte) (s : State) : Host.Outcome State Fault Refusal :=
  s.take dt (Part.hostFrame ⟨0x38, tag, payload⟩)

/-- FILTER_RESET: the filter totals are set to 0 (R90). -/
def execFilterReset (dt : Nat) (tag : Byte) (payload : List Byte) (s : State) : Host.Outcome State Fault Refusal :=
  s.take dt (Part.hostFrame ⟨0x39, tag, payload⟩)

/-- GET_TOTALS (R90). -/
def execGetTotals (dt : Nat) (tag : Byte) (payload : List Byte) (s : State) : Host.Outcome State Fault Refusal :=
  s.take dt (Part.hostFrame ⟨0x3A, tag, payload⟩)

/-- RESTORE_TOTALS: the totals and the frost credit are replaced (R91). -/
def execRestoreTotals (dt : Nat) (tag : Byte) (payload : List Byte) (s : State) : Host.Outcome State Fault Refusal :=
  s.take dt (Part.hostFrame ⟨0x3B, tag, payload⟩)

/-- A flow pulse is counted, added to the filter totals and credited by the line state (R44, R68). -/
def execFlowPulse (dt : Nat) (s : State) : Host.Outcome State Fault Refusal :=
  s.take dt fun p => p.countFlow.filterPulse.creditPulse.settle

/-- A waiting claim is granted, if the line is free for it (R71). -/
def execLineGrant (dt : Nat) (s : State) : Host.Outcome State Fault Refusal :=
  s.take dt fun p => p.judgeGrant.settle

/-- A suspended fill is given the line back, if it is free for it (R74). -/
def execFillResume (dt : Nat) (s : State) : Host.Outcome State Fault Refusal :=
  s.take dt fun p => p.judgeResume.settle

/-- The line SETTLE ends: the end report, and the line given on (R79, R72). -/
def execLineSettleEnd (dt : Nat) (s : State) : Host.Outcome State Fault Refusal :=
  s.take dt (Part.onDue Part.dueLineSettle Part.endLineSettle)

/-- The open time reaches its limit (R82). -/
def execOpenTimeLimit (dt : Nat) (s : State) : Host.Outcome State Fault Refusal :=
  s.take dt (Part.onDue Part.openLimitReached (Part.endWork .timeout))

/-- No pulse for NO_FLOW_WINDOW in OPEN (R83). -/
def execNoFlowExpiry (dt : Nat) (s : State) : Host.Outcome State Fault Refusal :=
  s.take dt (Part.onDue Part.noFlowReached Part.compareNoFlow)

/-- The DRY_RETRY timer ends (R84). -/
def execDryRetryEnd (dt : Nat) (s : State) : Host.Outcome State Fault Refusal :=
  s.take dt (Part.onDue Part.dueDryRetry Part.endDryRetry)

end Sys2Proof.Machine
end

