-- ==== Sys2Proof/Machine/LinkCommands.lean ====
section
/-! DEFINITION. The commands of the Link Port (chapter 9). -/

namespace Sys2Proof.Machine

/-- PING: the echo, the part code and the revision (R202). -/
def execPing (dt : Nat) (tag : Byte) (payload : List Byte) (s : State) : Host.Outcome State Fault Refusal :=
  s.take dt (Part.hostFrame ⟨0x01, tag, payload⟩)

/-- STATUS: the 24-byte snapshot (R203). -/
def execStatus (dt : Nat) (tag : Byte) (payload : List Byte) (s : State) : Host.Outcome State Fault Refusal :=
  s.take dt (Part.hostFrame ⟨0x02, tag, payload⟩)

/-- READ_NOTICES: the pending set is read and emptied (R200). -/
def execReadNotices (dt : Nat) (tag : Byte) (payload : List Byte) (s : State) : Host.Outcome State Fault Refusal :=
  s.take dt (Part.hostFrame ⟨0x03, tag, payload⟩)

/-- SET_NOTICE_MASK: the mask is replaced (R201). -/
def execSetNoticeMask (dt : Nat) (tag : Byte) (payload : List Byte) (s : State) : Host.Outcome State Fault Refusal :=
  s.take dt (Part.hostFrame ⟨0x04, tag, payload⟩)

/-- A valid frame of a kind that Table 9-3 does not list is answered UNKNOWN_KIND (R196). -/
def execUnknownKindCommand (dt : Nat) (kind tag : Byte) (payload : List Byte) (s : State) :
    Host.Outcome State Fault Refusal :=
  s.take dt (Part.hostFrame ⟨kind, tag, payload⟩)

/-- Bytes arrive on RXD: the frame receiver takes them, up to a whole frame and beyond (R191, log 6). -/
def execFrameReceived (dt : Nat) (bytes : List Byte) (s : State) : Host.Outcome State Fault Refusal :=
  s.take dt (Part.receiveAll bytes)

/-- 20 ms pass within a frame and no byte has begun: the frame is discarded GAP (R193, log 6). -/
def execGapTimeout (dt : Nat) (s : State) : Host.Outcome State Fault Refusal :=
  s.take dt fun p => if p.gapDue then p.endGap else p

/-- The last byte of a reply has been sent (R194, R186). -/
def execReplySent (dt : Nat) (s : State) : Host.Outcome State Fault Refusal :=
  s.take dt Part.replyEnds

end Sys2Proof.Machine
end

