-- ==== Sys2Proof/Machine/LoadCommands.lean ====
section
/-! DEFINITION. The commands of the Load Budget Unit, and the slot boundary (chapter 3). -/

namespace Sys2Proof.Machine

/-- SET_LOAD: a heater's accepted configuration (R60). -/
def execSetLoad (dt : Nat) (tag : Byte) (payload : List Byte) (s : State) : Host.Outcome State Fault Refusal :=
  s.take dt (Part.hostFrame ⟨0x14, tag, payload⟩)

/-- GET_LOADS (R62). -/
def execGetLoads (dt : Nat) (tag : Byte) (payload : List Byte) (s : State) : Host.Outcome State Fault Refusal :=
  s.take dt (Part.hostFrame ⟨0x15, tag, payload⟩)

/-- SET_ROTATION: the rotation table is replaced (R59). -/
def execSetRotation (dt : Nat) (tag : Byte) (payload : List Byte) (s : State) : Host.Outcome State Fault Refusal :=
  s.take dt (Part.hostFrame ⟨0x16, tag, payload⟩)

/-- The part seconds count advances: a slot boundary, a filter second, a second of frost credit (R52). -/
def execPartSecondsAdvance (dt : Nat) (s : State) : Host.Outcome State Fault Refusal :=
  s.take dt fun p => p.advanceSecond.settle

end Sys2Proof.Machine
end

