-- ==== Sys2Proof/Machine/OutletCommands.lean ====
section
/-! DEFINITION. The events of the Dispenser Controller (chapter 6). -/

namespace Sys2Proof.Machine

/-- A paddle press (R125). -/
def execPaddlePress (dt : Nat) (pad : Paddle) (s : State) : Host.Outcome State Fault Refusal :=
  s.take dt fun p => (p.press pad).settle

/-- A paddle release (R127). -/
def execPaddleRelease (dt : Nat) (pad : Paddle) (s : State) : Host.Outcome State Fault Refusal :=
  s.take dt fun p => (p.unpress pad).settle

/-- The freezer door opens (R138). -/
def execDoorOpening (dt : Nat) (s : State) : Host.Outcome State Fault Refusal :=
  s.take dt fun p => p.doorOpening.settle

/-- The freezer door closes (R139). -/
def execDoorClosing (dt : Nat) (s : State) : Host.Outcome State Fault Refusal :=
  s.take dt fun p => p.doorClosing.settle

/-- The chute-flap open switch changes (R130, R131, R132). -/
def execFlapSwitchChange (dt : Nat) (c : Contact) (s : State) : Host.Outcome State Fault Refusal :=
  s.take dt fun p => (p.flapSwitch c).settle

/-- An auger tach pulse (R46, R135). -/
def execTachPulse (dt : Nat) (s : State) : Host.Outcome State Fault Refusal :=
  s.take dt fun p => p.countTach.tachSeen

/-- The head of the dispenser queue starts, if its conditions hold (R123). -/
def execHeadStart (dt : Nat) (s : State) : Host.Outcome State Fault Refusal :=
  s.take dt fun p => (p.startOne none).settle

/-- The opening deadline passes, and the opening fails (R130, R133). -/
def execFlapOpenDeadline (dt : Nat) (s : State) : Host.Outcome State Fault Refusal :=
  s.take dt (Part.onDue Part.dueFlapOpen Part.openingFails)

/-- The closing motion ends and is judged (R130, R137). -/
def execFlapCloseEnd (dt : Nat) (s : State) : Host.Outcome State Fault Refusal :=
  s.take dt (Part.onDue Part.dueFlapClose Part.judgeClosing)

/-- The forward run time reaches the run target (R134). -/
def execRunTargetReached (dt : Nat) (s : State) : Host.Outcome State Fault Refusal :=
  s.take dt (Part.onDue Part.dueRunTarget (Part.stopRun .complete))

/-- The RUNNING time of an ice ticket reaches DISPENSE_OPEN_LIMIT (R134). -/
def execRunningTimeLimit (dt : Nat) (s : State) : Host.Outcome State Fault Refusal :=
  s.take dt (Part.onDue Part.runningLimitReached (Part.stopRun .timeout))

/-- The jam window passes with no tach pulse (R135). -/
def execJamWindowExpiry (dt : Nat) (s : State) : Host.Outcome State Fault Refusal :=
  s.take dt (Part.onDue Part.dueJam Part.jam)

/-- The reverse of the auger ends (R135). -/
def execReverseEnd (dt : Nat) (s : State) : Host.Outcome State Fault Refusal :=
  s.take dt (Part.onDue Part.dueReverse Part.endReverse)

/-- The flap hold ends, and the outlet enters CLOSING (R136). -/
def execFlapHoldEnd (dt : Nat) (s : State) : Host.Outcome State Fault Refusal :=
  s.take dt (Part.onDue Part.dueFlapHold Part.enterClosing)

/-- The pause timer ends with the door still OPEN (R139). -/
def execPauseTimerEnd (dt : Nat) (s : State) : Host.Outcome State Fault Refusal :=
  s.take dt (Part.onDue Part.duePause (Part.stopDelivery .doorOpen))

/-- The hold time of a chute test reaches the ticket's seconds (R143). -/
def execChuteTestHoldEnd (dt : Nat) (s : State) : Host.Outcome State Fault Refusal :=
  s.take dt (Part.onDue Part.holdReached (Part.stopChuteTest .complete))

/-- The duct timer ends, and the H4 demand is dropped (R142). -/
def execDuctTimerEnd (dt : Nat) (s : State) : Host.Outcome State Fault Refusal :=
  s.take dt (Part.onDue Part.dueDuct Part.endDuct)

end Sys2Proof.Machine
end

