-- ==== Sys2Proof/Machine/PoolCommands.lean ====
section
/-! DEFINITION. The commands of the Ticket Manager (chapter 1). -/

namespace Sys2Proof.Machine

/-- SUBMIT: a host order is judged and drawn (R18). -/
def execSubmit (dt : Nat) (tag : Byte) (payload : List Byte) (s : State) : Host.Outcome State Fault Refusal :=
  s.take dt (Part.hostFrame ⟨0x20, tag, payload⟩)

/-- CANCEL: a ticket is cancelled by its state and stage (R21). -/
def execCancel (dt : Nat) (tag : Byte) (payload : List Byte) (s : State) : Host.Outcome State Fault Refusal :=
  s.take dt (Part.hostFrame ⟨0x21, tag, payload⟩)

/-- FETCH: up to three records leave the completion queue (R23). -/
def execFetch (dt : Nat) (tag : Byte) (payload : List Byte) (s : State) : Host.Outcome State Fault Refusal :=
  s.take dt (Part.hostFrame ⟨0x22, tag, payload⟩)

/-- TICKET_INFO (R24). -/
def execTicketInfo (dt : Nat) (tag : Byte) (payload : List Byte) (s : State) : Host.Outcome State Fault Refusal :=
  s.take dt (Part.hostFrame ⟨0x23, tag, payload⟩)

/-- POOL_STATUS, which may clear the starvation counts (R25). -/
def execPoolStatus (dt : Nat) (tag : Byte) (payload : List Byte) (s : State) : Host.Outcome State Fault Refusal :=
  s.take dt (Part.hostFrame ⟨0x24, tag, payload⟩)

/-- A waiting internal owner draws, if its conditions hold and the pool grants it (R10). -/
def execInternalRedraw (dt : Nat) (s : State) : Host.Outcome State Fault Refusal :=
  s.take dt fun p => p.redraw.settle

end Sys2Proof.Machine
end

