-- ==== Sys2Proof/Machine/SenseCommands.lean ====
section
/-! DEFINITION. The commands and events of the Sense Unit (chapter 2). -/

namespace Sys2Proof.Machine

/-- LOAD_CURVE: a curve table is replaced (R37). -/
def execLoadCurve (dt : Nat) (tag : Byte) (payload : List Byte) (s : State) : Host.Outcome State Fault Refusal :=
  s.take dt (Part.hostFrame ⟨0x12, tag, payload⟩)

/-- GET_CURVE (R38). -/
def execGetCurve (dt : Nat) (tag : Byte) (payload : List Byte) (s : State) : Host.Outcome State Fault Refusal :=
  s.take dt (Part.hostFrame ⟨0x13, tag, payload⟩)

/-- READ_SENSORS: the readings, or a FRESH request handed to the scan (R39, R40). -/
def execReadSensors (dt : Nat) (tag : Byte) (payload : List Byte) (s : State) : Host.Outcome State Fault Refusal :=
  s.take dt (Part.hostFrame ⟨0x30, tag, payload⟩)

/-- The held READ_SENSORS is answered, if its last named channel has been converted (R40). -/
def execReadSensorsFreshReply (dt : Nat) (s : State) : Host.Outcome State Fault Refusal :=
  s.take dt Part.answerFresh

/-- The conversion in progress ends with a raw value (R28 to R34), which may answer a held READ_SENSORS (R40). -/
def execConversionEnd (dt : Nat) (raw : BitVec 16) (s : State) : Host.Outcome State Fault Refusal :=
  s.take dt fun p => (p.endConversion raw).settle.answerFresh

/-- A switch input gets its first reading after a reset (R42). -/
def execSwitchFirstReading (dt : Nat) (reading : FirstReading) (s : State) : Host.Outcome State Fault Refusal :=
  s.take dt fun p => (p.firstRead reading).settle

/-- The bin beam stands at a level, and has perhaps held it for its filter time (R43, R110). -/
def execBeamFilterChange (dt : Nat) (level : BeamLevel) (s : State) : Host.Outcome State Fault Refusal :=
  s.take dt fun p => (p.beamAt level).settle

/-- 2 s pass after the last flow pulse, and the flow period becomes none (R45). -/
def execFlowPeriodTimeout (dt : Nat) (s : State) : Host.Outcome State Fault Refusal :=
  s.take dt fun p => if p.flowSilent then p.endFlowPeriod else p

end Sys2Proof.Machine
end

