-- ==== Sys2Proof/Machine/SupervisionCommands.lean ====
section
/-! DEFINITION. The commands of Supervision, and the resets (chapter 8). -/

namespace Sys2Proof.Machine

/-- RESTART: the log record, the answer, and the reset when the reply has been sent (R186). -/
def execRestart (dt : Nat) (tag : Byte) (payload : List Byte) (s : State) : Host.Outcome State Fault Refusal :=
  s.take dt (Part.hostFrame ⟨0x05, tag, payload⟩)

/-- SET_PARAM: a parameter is judged, stored and handed to its owner (R175). -/
def execSetParam (dt : Nat) (tag : Byte) (payload : List Byte) (s : State) : Host.Outcome State Fault Refusal :=
  s.take dt (Part.hostFrame ⟨0x10, tag, payload⟩)

/-- GET_PARAM (R178). -/
def execGetParam (dt : Nat) (tag : Byte) (payload : List Byte) (s : State) : Host.Outcome State Fault Refusal :=
  s.take dt (Part.hostFrame ⟨0x11, tag, payload⟩)

/-- LOCK_LIMITS: the limits lock is set (R180). -/
def execLockLimits (dt : Nat) (tag : Byte) (payload : List Byte) (s : State) : Host.Outcome State Fault Refusal :=
  s.take dt (Part.hostFrame ⟨0x17, tag, payload⟩)

/-- The silence time reaches SILENCE_LIMIT (R182). -/
def execSilenceExpiry (dt : Nat) (s : State) : Host.Outcome State Fault Refusal :=
  s.take dt (Part.onDue Part.silenceDue Part.expireSilence)

/-- The supply rises, or falls out of its range: a power-on reset begins, whatever the part was doing (R184, R187, R189). -/
def execPowerOn (_dt : Nat) (s : State) : Host.Outcome State Fault Refusal :=
  .next { s with part := s.part.beginReset .powerOn }

/-- The RESET input has been low for 1 ms: a line reset begins, whatever the part was doing (R185, R187, R189). -/
def execLineReset (_dt : Nat) (s : State) : Host.Outcome State Fault Refusal :=
  .next { s with part := s.part.beginReset .lineReset }

/-- A reset ends (R188, R189); with no reset in progress only time passes (log 24). -/
def execResetEnd (dt : Nat) (s : State) : Host.Outcome State Fault Refusal :=
  .next { s with part := if s.part.resetting.isSome then s.part.endReset else s.part.elapse dt }

end Sys2Proof.Machine
end

