-- ==== Sys2Proof/Machine/Dispatch.lean ====
section
/-! DEFINITION. The meaning of every command: one arm for each constructor of Instr. -/

namespace Sys2Proof.Machine

/-- What a command does to everything but the queue of waiting commands. -/
def exec (i : Instr) (s : State) : Host.Outcome State Fault Refusal :=
  match i with
  | .ping dt tag payload => Sys2Proof.Machine.execPing dt tag payload s
  | .status dt tag payload => Sys2Proof.Machine.execStatus dt tag payload s
  | .readNotices dt tag payload => Sys2Proof.Machine.execReadNotices dt tag payload s
  | .setNoticeMask dt tag payload => Sys2Proof.Machine.execSetNoticeMask dt tag payload s
  | .restart dt tag payload => Sys2Proof.Machine.execRestart dt tag payload s
  | .setParam dt tag payload => Sys2Proof.Machine.execSetParam dt tag payload s
  | .getParam dt tag payload => Sys2Proof.Machine.execGetParam dt tag payload s
  | .loadCurve dt tag payload => Sys2Proof.Machine.execLoadCurve dt tag payload s
  | .getCurve dt tag payload => Sys2Proof.Machine.execGetCurve dt tag payload s
  | .setLoad dt tag payload => Sys2Proof.Machine.execSetLoad dt tag payload s
  | .getLoads dt tag payload => Sys2Proof.Machine.execGetLoads dt tag payload s
  | .setRotation dt tag payload => Sys2Proof.Machine.execSetRotation dt tag payload s
  | .lockLimits dt tag payload => Sys2Proof.Machine.execLockLimits dt tag payload s
  | .submit dt tag payload => Sys2Proof.Machine.execSubmit dt tag payload s
  | .cancel dt tag payload => Sys2Proof.Machine.execCancel dt tag payload s
  | .fetch dt tag payload => Sys2Proof.Machine.execFetch dt tag payload s
  | .ticketInfo dt tag payload => Sys2Proof.Machine.execTicketInfo dt tag payload s
  | .poolStatus dt tag payload => Sys2Proof.Machine.execPoolStatus dt tag payload s
  | .readSensors dt tag payload => Sys2Proof.Machine.execReadSensors dt tag payload s
  | .readSensorsFreshReply dt => Sys2Proof.Machine.execReadSensorsFreshReply dt s
  | .clearLeak dt tag payload => Sys2Proof.Machine.execClearLeak dt tag payload s
  | .filterReset dt tag payload => Sys2Proof.Machine.execFilterReset dt tag payload s
  | .getTotals dt tag payload => Sys2Proof.Machine.execGetTotals dt tag payload s
  | .restoreTotals dt tag payload => Sys2Proof.Machine.execRestoreTotals dt tag payload s
  | .iceControlPark dt tag => Sys2Proof.Machine.execIceControlPark dt tag s
  | .iceControlRun dt tag => Sys2Proof.Machine.execIceControlRun dt tag s
  | .iceControlResume dt tag => Sys2Proof.Machine.execIceControlResume dt tag s
  | .iceControlHarvestNow dt tag => Sys2Proof.Machine.execIceControlHarvestNow dt tag s
  | .compressor dt tag payload => Sys2Proof.Machine.execCompressor dt tag payload s
  | .defrostReplyGo dt tag minutes => Sys2Proof.Machine.execDefrostReplyGo dt tag minutes s
  | .defrostReplyDefer dt tag minutes => Sys2Proof.Machine.execDefrostReplyDefer dt tag minutes s
  | .defrostForce dt tag payload => Sys2Proof.Machine.execDefrostForce dt tag payload s
  | .defrostAbort dt tag payload => Sys2Proof.Machine.execDefrostAbort dt tag payload s
  | .defrostLog dt tag payload => Sys2Proof.Machine.execDefrostLog dt tag payload s
  | .unknownKindCommand dt kind tag payload => Sys2Proof.Machine.execUnknownKindCommand dt kind tag payload s
  | .frameReceived dt bytes => Sys2Proof.Machine.execFrameReceived dt bytes s
  | .gapTimeout dt => Sys2Proof.Machine.execGapTimeout dt s
  | .replySent dt => Sys2Proof.Machine.execReplySent dt s
  | .silenceExpiry dt => Sys2Proof.Machine.execSilenceExpiry dt s
  | .powerOn dt => Sys2Proof.Machine.execPowerOn dt s
  | .lineReset dt => Sys2Proof.Machine.execLineReset dt s
  | .resetEnd dt => Sys2Proof.Machine.execResetEnd dt s
  | .partSecondsAdvance dt => Sys2Proof.Machine.execPartSecondsAdvance dt s
  | .conversionEnd dt raw => Sys2Proof.Machine.execConversionEnd dt raw s
  | .switchFirstReading dt reading => Sys2Proof.Machine.execSwitchFirstReading dt reading s
  | .paddlePress dt pad => Sys2Proof.Machine.execPaddlePress dt pad s
  | .paddleRelease dt pad => Sys2Proof.Machine.execPaddleRelease dt pad s
  | .doorOpening dt => Sys2Proof.Machine.execDoorOpening dt s
  | .doorClosing dt => Sys2Proof.Machine.execDoorClosing dt s
  | .homeSwitchChange dt c => Sys2Proof.Machine.execHomeSwitchChange dt c s
  | .flapSwitchChange dt c => Sys2Proof.Machine.execFlapSwitchChange dt c s
  | .beamFilterChange dt level => Sys2Proof.Machine.execBeamFilterChange dt level s
  | .flowPulse dt => Sys2Proof.Machine.execFlowPulse dt s
  | .flowPeriodTimeout dt => Sys2Proof.Machine.execFlowPeriodTimeout dt s
  | .tachPulse dt => Sys2Proof.Machine.execTachPulse dt s
  | .internalRedraw dt => Sys2Proof.Machine.execInternalRedraw dt s
  | .lineGrant dt => Sys2Proof.Machine.execLineGrant dt s
  | .fillResume dt => Sys2Proof.Machine.execFillResume dt s
  | .lineSettleEnd dt => Sys2Proof.Machine.execLineSettleEnd dt s
  | .openTimeLimit dt => Sys2Proof.Machine.execOpenTimeLimit dt s
  | .noFlowExpiry dt => Sys2Proof.Machine.execNoFlowExpiry dt s
  | .dryRetryEnd dt => Sys2Proof.Machine.execDryRetryEnd dt s
  | .homingDeadline dt => Sys2Proof.Machine.execHomingDeadline dt s
  | .minFreezeReached dt => Sys2Proof.Machine.execMinFreezeReached dt s
  | .faultFreezeTime dt => Sys2Proof.Machine.execFaultFreezeTime dt s
  | .harvestStart dt => Sys2Proof.Machine.execHarvestStart dt s
  | .moldHeatLimitExpiry dt => Sys2Proof.Machine.execMoldHeatLimitExpiry dt s
  | .leaveHomeDeadline dt => Sys2Proof.Machine.execLeaveHomeDeadline dt s
  | .ejectReturnDeadline dt => Sys2Proof.Machine.execEjectReturnDeadline dt s
  | .ejectRetryTimer dt => Sys2Proof.Machine.execEjectRetryTimer dt s
  | .iceSettleEnd dt => Sys2Proof.Machine.execIceSettleEnd dt s
  | .headStart dt => Sys2Proof.Machine.execHeadStart dt s
  | .flapOpenDeadline dt => Sys2Proof.Machine.execFlapOpenDeadline dt s
  | .flapCloseEnd dt => Sys2Proof.Machine.execFlapCloseEnd dt s
  | .runTargetReached dt => Sys2Proof.Machine.execRunTargetReached dt s
  | .runningTimeLimit dt => Sys2Proof.Machine.execRunningTimeLimit dt s
  | .jamWindowExpiry dt => Sys2Proof.Machine.execJamWindowExpiry dt s
  | .reverseEnd dt => Sys2Proof.Machine.execReverseEnd dt s
  | .flapHoldEnd dt => Sys2Proof.Machine.execFlapHoldEnd dt s
  | .pauseTimerEnd dt => Sys2Proof.Machine.execPauseTimerEnd dt s
  | .chuteTestHoldEnd dt => Sys2Proof.Machine.execChuteTestHoldEnd dt s
  | .ductTimerEnd dt => Sys2Proof.Machine.execDuctTimerEnd dt s
  | .deferTimerEnd dt => Sys2Proof.Machine.execDeferTimerEnd dt s
  | .wantLimitReached dt => Sys2Proof.Machine.execWantLimitReached dt s
  | .silentWantLimit dt => Sys2Proof.Machine.execSilentWantLimit dt s
  | .defrostHeatingStart dt => Sys2Proof.Machine.execDefrostHeatingStart dt s
  | .defrostHeatLimitExpiry dt => Sys2Proof.Machine.execDefrostHeatLimitExpiry dt s
  | .dwellEnd dt => Sys2Proof.Machine.execDwellEnd dt s
  | .recoverLimitExpiry dt => Sys2Proof.Machine.execRecoverLimitExpiry dt s

end Sys2Proof.Machine
end

