-- ==== Sys2Proof/Machine/Tick.lean ====
section
/-! DEFINITION. The tick: what happens on an empty queue. One microsecond passes, and the rows of timers and input pins that
have fallen due join the queue (log 1). -/

namespace Sys2Proof.Machine

/-- A row, if it is due. -/
def ifDue (due : Bool) (i : Instr) : List Instr := if due then [i] else []

/-- The advance of the part seconds count has come (R52, R188). -/
def Part.dueSecond (p : Part) : Bool := (p.clock.partSeconds + 1) * second ≤ p.clock.now

/-- The coming second is the one at which MIN_FREEZE since the freeze start is reached (R100, log 23). -/
def Part.freezeSecond (p : Part) : Bool :=
  p.ice.state == .freezing &&
    p.ice.freezeStart.any fun t => t + p.supervision.params.minFreeze * 60 == p.clock.partSeconds + 1

/-- The timer rows of the part seconds count. -/
def Part.secondEvents (p : Part) : List Instr :=
  ifDue p.dueSecond (.partSecondsAdvance 0) ++ ifDue (p.dueSecond && p.freezeSecond) (.minFreezeReached 0)

/-- The row of a debounced change, or of a first reading, that is due on a pin. -/
def pinEvent {α : Type} [DecidableEq α] (now time : Nat) (state : Option α) (pin : Pin α) (first : α → FirstReading)
    (change : α → Instr) : List Instr :=
  match pin.due now time state with
  | none => []
  | some v => [if state.isNone then .switchFirstReading 0 (first v) else change v]

/-- The change of a paddle, by its new state. -/
def paddleChange (pad : Paddle) : PaddleState → Instr
  | .pressed => .paddlePress 0 pad
  | .released => .paddleRelease 0 pad

/-- The change of the freezer door, by its new state. -/
def doorChange : Door → Instr
  | .opened => .doorOpening 0
  | .closed => .doorClosing 0

/-- The row of a change of the beam's filtered state that is due. -/
def Part.beamEvent (p : Part) : List Instr :=
  match p.beamDue with
  | none => []
  | some l => [.beamFilterChange 0 l]

/-- The rows of the Sense Unit's pins: debounced changes, first readings, the beam, and a conversion at its longest
(R28, R41 to R43). -/
def Part.pinEvents (p : Part) : List Instr :=
  let s := p.sense
  pinEvent p.clock.now doorTime s.door s.doorPin .door doorChange ++
  pinEvent p.clock.now paddleTime s.waterPaddle s.waterPin (.paddle .water) (paddleChange .water) ++
  pinEvent p.clock.now paddleTime s.icePaddle s.icePin (.paddle .ice) (paddleChange .ice) ++
  pinEvent p.clock.now switchTime s.home s.homePin .home (.homeSwitchChange 0) ++
  pinEvent p.clock.now switchTime s.flap s.flapPin .flap (.flapSwitchChange 0) ++
  p.beamEvent ++ ifDue p.dueConversion (.conversionEnd 0 65535)

/-- The timer rows of the link, the Sense Unit and Supervision. -/
def Part.linkEvents (p : Part) : List Instr :=
  ifDue p.gapOver (.gapTimeout 0) ++ ifDue p.silenceDue (.silenceExpiry 0) ++
  ifDue (p.sense.flowPeriod.isSome && p.flowSilent) (.flowPeriodTimeout 0)

/-- The timer rows of the water line. -/
def Part.lineEvents (p : Part) : List Instr :=
  ifDue p.dueLineSettle (.lineSettleEnd 0) ++ ifDue p.openLimitReached (.openTimeLimit 0) ++
  ifDue p.noFlowReached (.noFlowExpiry 0) ++ ifDue p.dueDryRetry (.dryRetryEnd 0)

/-- The timer rows of the ice maker. -/
def Part.iceEvents (p : Part) : List Instr :=
  ifDue p.dueHoming (.homingDeadline 0) ++ ifDue p.dueFaultFreeze (.faultFreezeTime 0) ++
  ifDue p.moldLimitReached (.moldHeatLimitExpiry 0) ++ ifDue p.dueLeaveHome (.leaveHomeDeadline 0) ++
  ifDue p.dueReturn (.ejectReturnDeadline 0) ++ ifDue p.dueRetry (.ejectRetryTimer 0) ++
  ifDue p.dueIceSettle (.iceSettleEnd 0)

/-- The timer rows of the outlet. -/
def Part.outletEvents (p : Part) : List Instr :=
  ifDue p.dueFlapOpen (.flapOpenDeadline 0) ++ ifDue p.dueFlapClose (.flapCloseEnd 0) ++
  ifDue p.dueRunTarget (.runTargetReached 0) ++ ifDue p.runningLimitReached (.runningTimeLimit 0) ++
  ifDue p.dueJam (.jamWindowExpiry 0) ++ ifDue p.dueReverse (.reverseEnd 0) ++ ifDue p.dueFlapHold (.flapHoldEnd 0) ++
  ifDue p.duePause (.pauseTimerEnd 0) ++ ifDue p.holdReached (.chuteTestHoldEnd 0) ++ ifDue p.dueDuct (.ductTimerEnd 0)

/-- The timer rows of the defrost. -/
def Part.defrostEvents (p : Part) : List Instr :=
  ifDue p.dueDefer (.deferTimerEnd 0) ++ ifDue p.wantLimitDue (.wantLimitReached 0) ++
  ifDue p.silentWantDue (.silentWantLimit 0) ++ ifDue p.heatLimitReached (.defrostHeatLimitExpiry 0) ++
  ifDue p.dueDwell (.dwellEnd 0) ++ ifDue p.dueRecover (.recoverLimitExpiry 0)

/-- The rows of timers and input pins that are due at this moment. -/
def Part.dueEvents (p : Part) : List Instr :=
  p.secondEvents ++ p.linkEvents ++ p.pinEvents ++ p.lineEvents ++ p.iceEvents ++ p.outletEvents ++ p.defrostEvents

/-- One microsecond on an empty queue. A RESTART reset ends at once (R186); a power-on or line reset lasts until the
RESET_END of its input, and the part idles. -/
def State.tick (s : State) : State :=
  match s.part.resetting with
  | some .restart => { s with pending := [.resetEnd 0] }
  | some _ => s
  | none => { part := s.part.elapse 1, pending := (s.part.elapse 1).dueEvents }

end Sys2Proof.Machine
end

