-- ==== Sys2Proof/Safety.lean ====
section
/-! DEFINITION. What the rules promise of every state: the invariants that the statements are about. -/

namespace Sys2Proof.Machine

/-- R66: at most one user valve is open, each only while the line owner is its user, and the inlet exactly with one of
them. -/
def Line.valvesSafe (l : Line) : Prop :=
  ¬(l.moldFill = true ∧ l.dispense = true) ∧ (l.moldFill = true → l.owner = some .fill) ∧
    (l.dispense = true → l.owner = some .dispense) ∧ (l.inlet = true ↔ l.moldFill = true ∨ l.dispense = true)

/-- R58: the rated watts in force of the granted heaters are within the budget in force. -/
def Loads.withinBudget (l : Loads) : Prop := l.wattsInUse ≤ l.budgetInForce

/-- R51, R54, R57: a heater holds a grant only while it is demanded. -/
def Loads.grantsDemanded (l : Loads) : Prop :=
  ∀ n : HeaterNo, l.heaters[n].grant = true → l.heaters[n].demanded = true

/-- R95, R103, R120: each controller's copy is the other's state. -/
def Part.copiesAgree (p : Part) : Prop := p.defrost.iceCopy = p.ice.state ∧ p.ice.defrostCopy = p.defrost.state

/-- R103: the ice maker is not in HARVEST_HEAT or EJECT while the Defrost Controller is in HEATING. -/
def Part.interlocked (p : Part) : Prop := ¬(p.ice.state.holdsHeating = true ∧ p.defrost.state = .heating)

/-- R9, R31, R34, R170, R194: the inbox holds no more than 4 frames, the defrost log 8 records, a ring 4 values, a run of
good values in FAULT 7, and a starvation count does not pass 255. -/
def Part.listsBounded (p : Part) : Prop :=
  p.link.inbox.length ≤ 4 ∧ p.defrost.log.length ≤ 8 ∧
    (∀ ch : ChannelNo, p.sense.channels[ch].ring.length ≤ 4 ∧ p.sense.channels[ch].goodRun.length ≤ 7) ∧
    p.pool.starvation.link ≤ 255 ∧ p.pool.starvation.paddle ≤ 255 ∧ p.pool.starvation.iceMaker ≤ 255 ∧
    p.pool.starvation.defrost ≤ 255

/-- R174 to R176: every parameter lies in the range of Table 8-1, and the pair conditions hold. -/
def Params.legal (ps : Params) : Prop := (∀ k : Param, k.inRange (ps.get k) = true) ∧ ps.pairsHold = true

/-- R130, R134: the auger is not driven both ways, the crusher only with the auger forward, and each flap output only in its
own motion. -/
def Outlet.motorsSafe (o : Outlet) : Prop :=
  ¬(o.augerForward = true ∧ o.augerReverse = true) ∧ (o.crusher = true → o.augerForward = true) ∧
    (o.flapOpenOut = true → o.flap = .opening) ∧ (o.flapCloseOut = true → o.flap = .closing)

/-- The number of places of R1 that a ticket stands in: free list, dispenser queue, completion queue and the three slots. -/
def Pool.places (n : TicketNo) (q : Pool) : Nat :=
  q.free.count n + q.queue.count n + q.completion.count n + (if q.iceSlot = some n then 1 else 0) +
    (if q.defrostSlot = some n then 1 else 0) + (if q.serviceSlot = some n then 1 else 0)

/-- R1: every ticket is in exactly one place, in a state that Table 1-1 gives for the place. -/
def Part.ticketsPlaced (p : Part) : Prop :=
  (∀ n : TicketNo, p.pool.places n = 1) ∧ (∀ n ∈ p.pool.free, (p.ticket n).state = .free) ∧
    (∀ n ∈ p.pool.completion, (p.ticket n).state = .done) ∧
    (∀ n : TicketNo, n ∈ p.pool.queue ∨ p.pool.iceSlot = some n →
      (p.ticket n).state = .queued ∨ (p.ticket n).state = .active ∨ (p.ticket n).state = .stopping) ∧
    (∀ n : TicketNo, p.pool.defrostSlot = some n → (p.ticket n).state = .queued ∨ (p.ticket n).state = .active) ∧
    (∀ n : TicketNo, p.pool.serviceSlot = some n → (p.ticket n).state = .active)

/-- R122: the dispenser queue holds at most 8 tickets, only its head may be other than QUEUED, and with the outlet IDLE the
head is QUEUED too. -/
def Part.queueOrdered (p : Part) : Prop :=
  p.pool.queue.length ≤ 8 ∧ (∀ n ∈ p.pool.queue.tail, (p.ticket n).state = .queued) ∧
    (p.outlet.state = .idle → ∀ n ∈ p.pool.queue, (p.ticket n).state = .queued)

/-- R122, R128 to R130, R136: the outlet works for the head of the queue. A dispense claim, which waits for the end of a SETTLE,
the line while DISPENSE owns it and a SETTLE that closes a dispense are a water head's; an OPEN or HELD line has its owner;
the flap hold is no water head's, and the flap opens in OPENING alone. -/
def Part.outletServesHead (p : Part) : Prop :=
  (p.outlet.state ≠ .idle → p.pool.queue ≠ []) ∧
    (∀ n : TicketNo, p.line.dispenseClaim = some n →
      p.outlet.state = .lineWait ∧ p.line.state = .settle ∧ p.pool.queue.head? = some n ∧
        (p.ticket n).isWater = true) ∧
    (p.line.state = .opened → p.line.owner.isSome = true) ∧ (p.line.state = .held → p.line.owner = some .dispense) ∧
    (p.line.owner = some .dispense →
      (p.outlet.state = .running ∨ p.outlet.state = .paused) ∧ p.headIs Ticket.isWater = true) ∧
    (p.line.closingOwner = some .dispense → p.outlet.state = .stopping ∧ p.headIs Ticket.isWater = true) ∧
    (p.outlet.holdEnd.isSome = true → p.outlet.state = .stopping ∧ p.headIs Ticket.isWater = false) ∧
    (p.outlet.flap = .opening → p.outlet.state = .opening)

/-- R67, R73, R98, R99, R158: a fill claim, a suspended fill and the work of a fill are those of the MOLD_FILL in the ice maker
slot, in FILL_WAIT and in FILLING; and no cycle holds the defrost slot while the credit accrues. -/
def Part.slotsServed (p : Part) : Prop :=
  (∀ n : TicketNo, p.line.fillClaim = some n → p.pool.iceSlot = some n ∧ p.ice.state = .fillWait) ∧
    (∀ w : Work, p.line.suspended = some w → p.pool.iceSlot = some w.ticket ∧ p.ice.state = .filling) ∧
    (∀ w : Work, p.line.work = some w → (p.line.owner = some .fill ∨ p.line.closingOwner = some .fill) →
      p.pool.iceSlot = some w.ticket ∧ p.ice.state = .filling ∧ p.line.suspended = none) ∧
    (p.defrost.state.accrues = true → p.pool.defrostSlot = none)

/-- R1, R122, and what they rest on: tickets, queue, outlet, line and slots agree. -/
def Part.ticketsSound (p : Part) : Prop :=
  p.ticketsPlaced ∧ p.queueOrdered ∧ p.outletServesHead ∧ p.slotsServed

/-- R51, R98, R104, R107, R142, R161, R164, R165: an owner demand stands only in the states that its owner's chapter gives. -/
def Part.demandsStand (p : Part) : Prop :=
  (p.loads.heaters[(0 : HeaterNo)].ownerDemand = true → p.defrost.state = .heating) ∧
    (p.loads.heaters[(1 : HeaterNo)].ownerDemand = true → p.defrost.state = .heating ∨ p.defrost.state = .dwell) ∧
    (p.loads.heaters[(2 : HeaterNo)].ownerDemand = true → p.ice.state = .harvestHeat ∨ p.ice.state = .eject) ∧
    (p.loads.heaters[(3 : HeaterNo)].ownerDemand = true → p.ice.state = .filling) ∧
    (p.loads.heaters[(4 : HeaterNo)].ownerDemand = true → p.outlet.flap ≠ .closed ∨ p.outlet.ductEnd.isSome = true)

/-! What the statements are stated with. -/

/-- An input has stood at a level for a time: that level, or none yet, is the one told, and it has not changed for the time,
counted from the end of the reset at the earliest (R41 to R43, log 9). -/
abbrev Pin.stood {α : Type} (now time : Nat) (v : α) (pin : Pin α) : Prop :=
  (pin.level = none ∨ pin.level = some v) ∧ pin.since + time ≤ now

/-- A change of an input is due and nothing has taken it yet: the level told has stood for its time and is not the state
(R41 to R43). -/
abbrev Pin.earned {α : Type} (now time : Nat) (state : Option α) (v : α) (pin : Pin α) : Prop :=
  pin.level = some v ∧ state ≠ some v ∧ pin.since + time ≤ now

/-- No change of an input is due: a level told that is not the state has not stood for its time yet (R41 to R43). -/
abbrev Pin.quiet {α : Type} (now time : Nat) (state : Option α) (pin : Pin α) : Prop :=
  ∀ v ∈ pin.level, state ≠ some v → now < pin.since + time

/-- An input's pin once a row has told a level (R41 to R43, log 9). -/
def Pin.told {α : Type} [DecidableEq α] (now : Nat) (v : α) (pin : Pin α) : Pin α :=
  { level := some v, since := if pin.level = none ∨ pin.level = some v then pin.since else now }

/-- What a command makes of the part; the commands that wait are untouched. -/
def Becomes (i : Instr) (s : State) (q : Part) : Prop := exec i s = .next { s with part := q }

/-- The part when a command comes `dt` microseconds after the one before it. -/
def State.later (s : State) (dt : Nat) : Part := s.part.elapse dt

/-- The time and the frame of a host command; none for a row that is no host command. -/
def hostRow : Instr → Option (Nat × Frame)
  | .ping dt tag p => some (dt, ⟨0x01, tag, p⟩)
  | .status dt tag p => some (dt, ⟨0x02, tag, p⟩)
  | .readNotices dt tag p => some (dt, ⟨0x03, tag, p⟩)
  | .setNoticeMask dt tag p => some (dt, ⟨0x04, tag, p⟩)
  | .restart dt tag p => some (dt, ⟨0x05, tag, p⟩)
  | .setParam dt tag p => some (dt, ⟨0x10, tag, p⟩)
  | .getParam dt tag p => some (dt, ⟨0x11, tag, p⟩)
  | .loadCurve dt tag p => some (dt, ⟨0x12, tag, p⟩)
  | .getCurve dt tag p => some (dt, ⟨0x13, tag, p⟩)
  | .setLoad dt tag p => some (dt, ⟨0x14, tag, p⟩)
  | .getLoads dt tag p => some (dt, ⟨0x15, tag, p⟩)
  | .setRotation dt tag p => some (dt, ⟨0x16, tag, p⟩)
  | .lockLimits dt tag p => some (dt, ⟨0x17, tag, p⟩)
  | .submit dt tag p => some (dt, ⟨0x20, tag, p⟩)
  | .cancel dt tag p => some (dt, ⟨0x21, tag, p⟩)
  | .fetch dt tag p => some (dt, ⟨0x22, tag, p⟩)
  | .ticketInfo dt tag p => some (dt, ⟨0x23, tag, p⟩)
  | .poolStatus dt tag p => some (dt, ⟨0x24, tag, p⟩)
  | .readSensors dt tag p => some (dt, ⟨0x30, tag, p⟩)
  | .clearLeak dt tag p => some (dt, ⟨0x38, tag, p⟩)
  | .filterReset dt tag p => some (dt, ⟨0x39, tag, p⟩)
  | .getTotals dt tag p => some (dt, ⟨0x3A, tag, p⟩)
  | .restoreTotals dt tag p => some (dt, ⟨0x3B, tag, p⟩)
  | .iceControlPark dt tag => some (dt, ⟨0x40, tag, [0]⟩)
  | .iceControlRun dt tag => some (dt, ⟨0x40, tag, [1]⟩)
  | .iceControlResume dt tag => some (dt, ⟨0x40, tag, [2]⟩)
  | .iceControlHarvestNow dt tag => some (dt, ⟨0x40, tag, [3]⟩)
  | .compressor dt tag p => some (dt, ⟨0x50, tag, p⟩)
  | .defrostReplyGo dt tag m => some (dt, ⟨0x51, tag, [0, m]⟩)
  | .defrostReplyDefer dt tag m => some (dt, ⟨0x51, tag, [1, m]⟩)
  | .defrostForce dt tag p => some (dt, ⟨0x52, tag, p⟩)
  | .defrostAbort dt tag p => some (dt, ⟨0x53, tag, p⟩)
  | .defrostLog dt tag p => some (dt, ⟨0x54, tag, p⟩)
  | .unknownKindCommand dt k tag p => some (dt, ⟨k, tag, p⟩)
  | _ => none

/-- No reset lasts, no command waits in the inbox, and none is in execution: a command taken now is executed now (R194). -/
abbrev State.linkIdle (s : State) : Prop :=
  s.part.resetting = none ∧ s.part.link.inbox = [] ∧ s.part.link.executing = none

/-- The part at the moment a host command is executed on an idle link: its time has passed, the silence timer is reloaded
and SILENT cleared, a silent-want time stops with SILENT (R181, R183, R157), and the command is in execution (R194). -/
def State.heard (s : State) (i : Instr) : Part :=
  match hostRow i with
  | none => s.part
  | some (dt, f) =>
    { s.later dt with
      link.executing := some f
      supervision.armed := true
      supervision.silent := false
      supervision.silence := { counted := 0, since := some (s.later dt).clock.now }
      defrost.silentWant := if s.part.supervision.silent then {} else s.part.defrost.silentWant }

/-- A host command makes `q` of the part and is answered with a status and reply data, ROOM being 4 (R195). -/
def Answers (i : Instr) (s : State) (st : Status) (data : List Byte) (q : Part) : Prop :=
  match hostRow i with
  | none => False
  | some (_, f) =>
    Becomes i s { q with link.reply := some (frameBytes (f.kind ||| 0x80) f.tag (st.code :: 4 :: data)) }

end Sys2Proof.Machine
end

