-- ==== Sys2Proof/WellFormed.lean ====
section
/-! DEFINITION. Which terms of Instr are commands that the part can be sent (R193, R196). -/

namespace Sys2Proof

/-- The codes of Table 9-3. -/
def knownKinds : List Byte :=
  [0x01, 0x02, 0x03, 0x04, 0x05, 0x10, 0x11, 0x12, 0x13, 0x14, 0x15, 0x16, 0x17, 0x20, 0x21, 0x22, 0x23, 0x24, 0x30, 0x38,
    0x39, 0x3A, 0x3B, 0x40, 0x50, 0x51, 0x52, 0x53, 0x54]

/-- The payload of a host command's frame; none for a row that carries none. -/
def Instr.payload : Instr → List Byte
  | .ping _ _ p | .status _ _ p | .readNotices _ _ p | .setNoticeMask _ _ p | .restart _ _ p | .setParam _ _ p
  | .getParam _ _ p | .loadCurve _ _ p | .getCurve _ _ p | .setLoad _ _ p | .getLoads _ _ p | .setRotation _ _ p
  | .lockLimits _ _ p | .submit _ _ p | .cancel _ _ p | .fetch _ _ p | .ticketInfo _ _ p | .poolStatus _ _ p
  | .readSensors _ _ p | .clearLeak _ _ p | .filterReset _ _ p | .getTotals _ _ p | .restoreTotals _ _ p
  | .compressor _ _ p | .defrostForce _ _ p | .defrostAbort _ _ p | .defrostLog _ _ p
  | .unknownKindCommand _ _ _ p => p
  | _ => []

/-- The kind of a command of unknown kind; none for every other row. -/
def Instr.unknownKind : Instr → Option Byte
  | .unknownKindCommand _ k _ _ => some k
  | _ => none

/-- A host command's frame has at most 64 payload bytes (R193); a command of unknown kind has a kind that Table 9-3 does
not list (R196); bytes arrive at least one at a time (R191). -/
def Instr.wellFormed (i : Instr) : Bool :=
  i.payload.length ≤ 64 && i.unknownKind.all (fun k => !knownKinds.contains k) &&
    match i with
    | .frameReceived _ bytes => !bytes.isEmpty
    | _ => true

end Sys2Proof
end

