-- ==== Sys2Proof/Certificates/Slice0/Obligations.lean ====
section
/-! DEFINITION. The statements for the provers. Each says what the model does by a rule of the spec; where a clause is the
model's own choice, its docstring names the log entry. -/

open Sys2Proof Sys2Proof.Machine

/-! The queue, the step and the frame receiver. -/

/-- A step takes the command at the front of the queue and runs it on the state with the queue's rest. -/
def Obligations.StepRunsTheFrontCommand : Prop :=
  ∀ (c : Instr) (s : State), step { s with pending := c :: s.pending } = exec c s

/-- On an empty queue one microsecond passes and the rows that have fallen due are queued; a RESTART reset ends at once; a
power-on or line reset goes on. The model's own choice (log 1). -/
def Obligations.EmptyQueueIsATick : Prop :=
  ∀ s : State, s.pending = [] →
    (s.part.resetting = none → step s = .next { part := s.later 1, pending := (s.later 1).dueEvents }) ∧
    (s.part.resetting = some .restart → step s = .next { s with pending := [.resetEnd 0] }) ∧
    ((s.part.resetting = some .powerOn ∨ s.part.resetting = some .lineReset) → step s = .next s)

/-- While a reset lasts, no command but a POWER_ON, a LINE_RESET or a RESET_END changes anything (R187). -/
def Obligations.ResetAnswersNothing : Prop :=
  ∀ (i : Instr) (s : State), s.part.resetting.isSome = true →
    (∀ dt, i ≠ .powerOn dt) → (∀ dt, i ≠ .lineReset dt) → (∀ dt, i ≠ .resetEnd dt) → exec i s = .next s

/-- A host command that comes while another is in execution: a payload above 64 bytes is discarded LENGTH, a frame that
finds four commands in the inbox is discarded OVERRUN, and any other joins the inbox and reloads the silence timer
(R181, R193, R194). The last byte of a reply: with a RESTART answered its reset begins; else nothing is in execution
any more, and the command at the head of the inbox, if there is one, is executed (R186, R194). -/
def Obligations.InboxHoldsWaitingCommands : Prop :=
  (∀ (i : Instr) (s : State) (dt : Nat) (f : Frame), hostRow i = some (dt, f) → s.part.resetting = none →
     let p := s.later dt
     (64 < f.payload.length →
       Becomes i s
         { p with link.lastError := some .length, link.pendingSet := p.link.pendingSet ||| Notice.linkError.bit }) ∧
     (f.payload.length ≤ 64 → 4 ≤ p.link.inbox.length →
       Becomes i s
         { p with link.lastError := some .overrun, link.pendingSet := p.link.pendingSet ||| Notice.linkError.bit }) ∧
     (f.payload.length ≤ 64 → p.link.inbox.length < 4 → p.link.executing.isSome = true →
       Becomes i s
         { p with
           link.inbox := p.link.inbox ++ [f]
           supervision.armed := true
           supervision.silent := false
           supervision.silence := { counted := 0, since := some p.clock.now }
           defrost.silentWant := if p.supervision.silent then {} else p.defrost.silentWant })) ∧
  (∀ (s : State) (dt : Nat) (reply : List Byte), s.part.resetting = none → s.part.link.reply = some reply →
     let p := s.later dt
     (p.link.restartPending = true → Becomes (.replySent dt) s (p.beginReset .restart)) ∧
     (p.link.restartPending = false → p.link.inbox = [] →
       Becomes (.replySent dt) s { p with link.reply := none, link.executing := none }) ∧
     (∀ (f : Frame) (rest : List Frame), p.link.restartPending = false → p.link.inbox = f :: rest →
       Becomes (.replySent dt) s
         (Part.execute f { p with link.reply := none, link.executing := none, link.inbox := rest })))

/-- The bytes of a frame, after any bytes that are not B7H, are taken by a hunting receiver as the host command they spell:
every KIND, every TAG and every payload up to 64 bytes is read as it was sent (R191). So is a frame whose first bytes
have been gathered, when the rest of it comes in time, the next byte taken no more than 20 ms and one byte of the line
after the last (R190, R193). -/
def Obligations.ReceiverReadsFrames : Prop :=
  (∀ (i : Instr) (s : State) (dt : Nat) (f : Frame) (noise : List Byte), hostRow i = some (dt, f) →
    f.payload.length ≤ 64 → s.part.link.receiver = .hunting → (∀ b ∈ noise, b ≠ 0xB7) →
    exec (.frameReceived dt (noise ++ frameBytes f.kind f.tag f.payload)) s = exec i s) ∧
  ∀ (i : Instr) (s : State) (dt t : Nat) (f : Frame) (bytes rest : List Byte), hostRow i = some (dt, f) →
    f.payload.length ≤ 64 → s.part.resetting = none → s.part.link.receiver = .gathering bytes t → rest ≠ [] →
    0xB7 :: (bytes ++ rest) = frameBytes f.kind f.tag f.payload → (s.later dt).clock.now ≤ t + 20520 →
    exec (.frameReceived dt rest) s = exec i { s with part.link.receiver := .hunting }

/-- A hunting receiver discards a frame at a LEN above 64 and at a CHECK that is not the CRC of R192, and gathers what is
still short of a frame; it is hunting again after a discard (R191, R193). 20 ms after the end of the last byte of a
frame being gathered, half a bit after its taking, GAP_TIMEOUT discards the frame GAP; earlier, or while hunting, only
time passes. A byte that has begun within the 20 ms is taken at most 20,520 µs after the last one was, and goes on with
the frame if no GAP_TIMEOUT has come; one that is taken later finds the frame discarded GAP and is a hunting byte. With
no row, the tick brings GAP_TIMEOUT once those 20,520 µs are past (R190, R193). That no row tells the beginning of a
byte, and what follows for the tick, is the model's choice (log 6). -/
def Obligations.ReceiverDiscardsBrokenFrames : Prop :=
  (∀ (s : State) (dt : Nat), s.part.resetting = none → s.part.link.receiver = .hunting →
     let p := s.later dt
     (∀ len : Byte, 64 < len.toNat →
       Becomes (.frameReceived dt [0xB7, len]) s
         { p with link.lastError := some .length, link.pendingSet := p.link.pendingSet ||| Notice.linkError.bit }) ∧
     (∀ (kind tag check : Byte) (payload : List Byte), payload.length ≤ 64 →
       check ≠ checkByte (byte payload.length :: kind :: tag :: payload) →
       Becomes (.frameReceived dt (0xB7 :: byte payload.length :: kind :: tag :: (payload ++ [check]))) s
         { p with link.lastError := some .check, link.pendingSet := p.link.pendingSet ||| Notice.linkError.bit }) ∧
     (∀ (len : Byte) (rest : List Byte), len.toNat ≤ 64 → rest.length < len.toNat + 3 →
       Becomes (.frameReceived dt (0xB7 :: len :: rest)) s
         { p with link.receiver := .gathering (len :: rest) p.clock.now })) ∧
  (∀ (s : State) (dt : Nat), s.part.resetting = none →
     let p := s.later dt
     (∀ (bytes : List Byte) (t : Nat), p.link.receiver = .gathering bytes t → t + 20027 ≤ p.clock.now →
       Becomes (.gapTimeout dt) s
         { p with
           link.receiver := .hunting
           link.lastError := some .gap
           link.pendingSet := p.link.pendingSet ||| Notice.linkError.bit }) ∧
     (∀ (bytes : List Byte) (t : Nat), p.link.receiver = .gathering bytes t → p.clock.now < t + 20027 →
       Becomes (.gapTimeout dt) s p) ∧
     (p.link.receiver = .hunting → Becomes (.gapTimeout dt) s p) ∧
     (∀ (bytes rest more : List Byte) (len : Byte) (t : Nat), p.link.receiver = .gathering bytes t →
       p.clock.now ≤ t + 20520 → rest ≠ [] → bytes ++ rest = len :: more → len.toNat ≤ 64 →
       more.length < len.toNat + 3 →
       Becomes (.frameReceived dt rest) s { p with link.receiver := .gathering (bytes ++ rest) p.clock.now }) ∧
     (∀ (bytes rest : List Byte) (t : Nat), p.link.receiver = .gathering bytes t → t + 20520 < p.clock.now →
       rest ≠ [] →
       exec (.frameReceived dt rest) s =
         exec (.frameReceived 0 rest)
           { s with
             part :=
               { p with
                 link.receiver := .hunting
                 link.lastError := some .gap
                 link.pendingSet := p.link.pendingSet ||| Notice.linkError.bit } }) ∧
     (∀ (bytes : List Byte) (t : Nat), p.link.receiver = .gathering bytes t → t + 20520 < p.clock.now →
       .gapTimeout 0 ∈ p.dueEvents))

/-! The commands of the Link Port. -/

/-- PING echoes up to 8 bytes after the part code and the revision, and a longer one is refused BAD_LENGTH without an echo;
beyond the reload of the silence timer nothing changes. -/
def Obligations.PingEchoes : Prop :=
  ∀ (s : State) (dt : Nat) (tag : Byte) (payload : List Byte), s.linkIdle → payload.length ≤ 64 →
    let i : Instr := .ping dt tag payload
    (payload.length ≤ 8 →
      Answers i s .ok ([0x46, 0x44, 0x34, 0x31, 0x38, 0x01] ++ payload) (s.heard i)) ∧
    (8 < payload.length → Answers i s .badLength [] (s.heard i))

/-- READ_NOTICES answers the pending set and the mask, each in two bytes, and removes what it read. SET_NOTICE_MASK
replaces the mask and leaves the pending set; with bit 14 or 15 set it is refused RANGE and the mask stays. The reply,
either way, carries the mask after the command and the pending set. ATTN follows the new mask. ATTN is asserted exactly
while some pending notice is unmasked, and is released while a reset lasts; setting a notice adds it to the pending
set, and changes nothing if it is pending already (R198, R199). -/
def Obligations.NoticesAreReadMaskedAndShown : Prop :=
  (∀ (s : State) (dt : Nat) (tag : Byte), s.linkIdle →
     let i : Instr := .readNotices dt tag []
     let q := s.heard i
     let field (x : BitVec 14) : List Byte := [(x.setWidth 16).extractLsb' 8 8, (x.setWidth 16).extractLsb' 0 8]
     Answers i s .ok (field q.link.pendingSet ++ field q.link.mask) { q with link.pendingSet := 0 } ∧
       Part.attn { q with link.pendingSet := 0 } = false) ∧
  (∀ (s : State) (dt : Nat) (tag hi lo : Byte), s.linkIdle →
     let i : Instr := .setNoticeMask dt tag [hi, lo]
     let q := s.heard i
     let field (x : BitVec 14) : List Byte := [(x.setWidth 16).extractLsb' 8 8, (x.setWidth 16).extractLsb' 0 8]
     let mask : BitVec 14 := (hi ++ lo : BitVec 16).setWidth 14
     ((hi.getLsbD 6 = true ∨ hi.getLsbD 7 = true) →
       Answers i s .range (field q.link.mask ++ field q.link.pendingSet) q) ∧
     (hi.getLsbD 6 = false → hi.getLsbD 7 = false →
       Answers i s .ok (field mask ++ field q.link.pendingSet) { q with link.mask := mask } ∧
         (Part.attn { q with link.mask := mask } = true ↔
           ∃ n : Notice, q.link.pendingSet.getLsbD n.position = true ∧ mask.getLsbD n.position = false))) ∧
  (∀ p : Part,
     (p.resetting = none →
       (p.attn = true ↔
         ∃ n : Notice, p.link.pendingSet.getLsbD n.position = true ∧ p.link.mask.getLsbD n.position = false)) ∧
     (p.resetting.isSome = true → p.attn = false) ∧
     (∀ n m : Notice, (p.notify n).isPending m = (decide (m = n) || p.isPending m)) ∧
     (∀ n : Notice, p.isPending n = true → p.notify n = p))

/-- STATUS answers the fields of Table 9-9 from byte 2 on, as they stand, and changes nothing (R203, R207). GET_LOADS
answers the budgets, the slot position, the watts in use, the rotation table and the fields of the five heaters, and
changes nothing. GET_TOTALS answers the filter totals and status, the frost credit, the leak latch and the leak time,
and changes nothing (R90). DEFROST_LOG answers the number of records and their fields, oldest first, and changes
nothing (R169, R170). A valid frame of a kind that Table 9-3 does not list is answered UNKNOWN_KIND, and nothing else
is done with it beyond the reload of the silence timer; the reply's kind is the frame's with the highest bit set (R195,
R196). A payload of a length that its kind does not take is answered BAD_LENGTH, and beyond the reload of the silence
timer nothing is done (R195, R196, R208). The reply carries STATUS and ROOM alone, but for four owners: DEFROST_FORCE,
DEFROST_ABORT and DEFROST_REPLY give the defrost reply data (R147). That SET_NOTICE_MASK gives the mask and the pending
set too, GET_PARAM the number 0 and the value 0, ICE_CONTROL the ice maker's data, and DEFROST_REPLY the data where
R153 names OK and STATE alone, is the model's reading (log 14). ICE_CONTROL and DEFROST_REPLY, whose rows have their
payloads, are stated as frames on RXD. -/
def Obligations.ReadsShowAndChangeNothing : Prop :=
  (∀ (s : State) (dt : Nat) (tag : Byte), s.linkIdle →
     let i : Instr := .status dt tag []
     let q := s.heard i
     Answers i s .ok
       ([q.ice.state.code, q.outlet.state.code, q.defrost.state.code, q.line.state.code, userCode q.line.owner,
           userCode q.line.closingOwner,
           flagsByte [q.line.supply == .dry, q.line.leakLatch, false, q.supervision.lock, q.outlet.chuteFault],
           byte q.pool.free.length, byte q.pool.completion.length, q.line.filterStatus.code] ++
         nat16 q.ice.stock ++ nat16 q.defrost.credit ++ nat16 q.defrost.target ++
         [flagsByte (List.ofFn fun ch : ChannelNo => q.sense.channels[ch].fault), linkErrorCode q.link.lastError] ++
         nat32 q.clock.partSeconds) q) ∧
  (∀ (s : State) (dt : Nat) (tag : Byte), s.linkIdle →
     let i : Instr := .getLoads dt tag []
     let q := s.heard i
     let l := q.loads
     Answers i s .ok
       (nat16 q.supervision.params.heaterBudget ++ nat16 l.budgetInForce ++ [byte l.slot.val] ++
         nat16 ((List.finRange 5).map fun n => if l.heaters[n].grant then l.heaters[n].inForce.watts else 0).sum ++
         ((List.finRange 16).map fun j => match l.rotation[j] with | none => 0xFF | some h => byte h.val) ++
         (List.finRange 5).flatMap fun n =>
           let h := l.heaters[n]
           nat16 h.accepted.watts ++ [byte h.accepted.period, byte h.accepted.duty] ++ nat16 h.inForce.watts ++
             [flag h.ownerDemand, flag h.testDemand, byte h.acc, flag h.onSlot, flag h.grant] ++ nat16 h.denied) q) ∧
  (∀ (s : State) (dt : Nat) (tag : Byte), s.linkIdle →
     let i : Instr := .getTotals dt tag []
     let q := s.heard i
     Answers i s .ok
       (nat32 q.line.filterMl ++ nat32 q.line.filterSeconds ++ [q.line.filterStatus.code] ++ nat16 q.defrost.credit ++
         [if q.line.leakLatch then 1 else 0] ++
         (match q.line.leakTime with | none => [0xFF, 0xFF, 0xFF, 0xFF] | some t => nat32 t)) q) ∧
  (∀ (s : State) (dt : Nat) (tag : Byte), s.linkIdle →
     let i : Instr := .defrostLog dt tag []
     let q := s.heard i
     Answers i s .ok
       (byte q.defrost.log.length :: q.defrost.log.flatMap fun r =>
         nat32 r.startTime ++ nat16 r.creditAtStart ++ nat16 r.heatSeconds ++ nat16 r.h0Denied ++ nat16 r.h1Denied ++
           optTemp r.peak ++
           [r.endReason.code, flagsByte [r.forced, r.ungranted, r.starved, r.sensor, r.compressorOn]] ++
           nat16 r.targetAfter) q) ∧
  (∀ (s : State) (dt : Nat) (kind tag : Byte) (payload : List Byte), s.linkIdle → payload.length ≤ 64 →
     kind ∉ knownKinds →
     Answers (.unknownKindCommand dt kind tag payload) s .unknownKind []
       (s.heard (.unknownKindCommand dt kind tag payload))) ∧
  (∀ (s : State) (dt : Nat) (tag : Byte) (payload : List Byte), s.linkIdle → payload.length ≤ 64 →
     let refused (i : Instr) (data : Part → List Byte) : Prop := Answers i s .badLength (data (s.heard i)) (s.heard i)
     let alone (_ : Part) : List Byte := []
     let field (x : BitVec 14) : List Byte := [(x.setWidth 16).extractLsb' 8 8, (x.setWidth 16).extractLsb' 0 8]
     let defrost (q : Part) : List Byte :=
       q.defrost.state.code :: (nat16 q.defrost.credit ++ nat16 q.defrost.target) ++ [optTicket q.pool.defrostSlot]
     let ice (q : Part) : List Byte :=
       [q.ice.state.code, flag q.ice.parkPending, flag q.ice.moldLoaded, flag q.ice.offHome, byte q.ice.attempts] ++
         nat16 q.ice.stock ++ [optTicket q.pool.iceSlot]
     (payload.length ≠ 0 →
       refused (.status dt tag payload) alone ∧ refused (.readNotices dt tag payload) alone ∧
         refused (.restart dt tag payload) alone ∧ refused (.getLoads dt tag payload) alone ∧
         refused (.lockLimits dt tag payload) alone ∧ refused (.clearLeak dt tag payload) alone ∧
         refused (.filterReset dt tag payload) alone ∧ refused (.getTotals dt tag payload) alone ∧
         refused (.defrostLog dt tag payload) alone ∧ refused (.defrostForce dt tag payload) defrost ∧
         refused (.defrostAbort dt tag payload) defrost) ∧
     (payload.length ≠ 1 →
       refused (.getCurve dt tag payload) alone ∧ refused (.cancel dt tag payload) alone ∧
         refused (.fetch dt tag payload) alone ∧ refused (.ticketInfo dt tag payload) alone ∧
         refused (.poolStatus dt tag payload) alone ∧ refused (.getParam dt tag payload) fun _ => [0, 0, 0]) ∧
     (payload.length ≠ 2 →
       refused (.readSensors dt tag payload) alone ∧
         refused (.setNoticeMask dt tag payload) fun q => field q.link.mask ++ field q.link.pendingSet) ∧
     (payload.length < 2 → refused (.loadCurve dt tag payload) alone) ∧
     (payload.length ≠ 5 → refused (.setLoad dt tag payload) alone) ∧
     (payload.length ≠ 10 → refused (.restoreTotals dt tag payload) alone) ∧
     ∀ (kind : Byte) (data : Part → List Byte), s.part.link.receiver = .hunting →
       ((kind = 0x40 ∧ payload.length ≠ 1 ∧ data = ice) ∨ (kind = 0x51 ∧ payload.length ≠ 2 ∧ data = defrost)) →
       let q := { s.heard (.ping dt tag payload) with link.executing := some ⟨kind, tag, payload⟩ }
       Becomes (.frameReceived dt (frameBytes kind tag payload)) s
         { q with link.reply := some (frameBytes (kind ||| 0x80) tag (2 :: 4 :: data q)) })

/-! Supervision and the resets. -/

/-- SET_PARAM is judged by the cases of R175 in order. A refusal changes nothing and shows the value that holds, 0 for a
number that names no parameter and for a payload of a wrong length. An accepted value becomes the parameter's value,
every other parameter keeps its own, and the reply shows the new value. What an accepted SET_PARAM changes at once,
beside the store: DEFROST_START_H sets the interval target, DEFROST_MIN_H and DEFROST_MAX_H hold the target in their
range, BIN_CAPACITY lowers the stock estimate, FLOW_K clears the filter remainder, and a filter limit judges the filter
status anew (R92, R112, R150, R171, R177). -/
def Obligations.SetParamIsJudgedInOrder : Prop :=
  (∀ (s : State) (dt : Nat) (tag : Byte) (payload : List Byte), s.linkIdle → payload.length ≤ 64 →
     let i : Instr := .setParam dt tag payload
     let q := s.heard i
     (payload.length ≠ 3 → Answers i s .badLength [0, 0, 0] q) ∧
     ∀ n hi lo : Byte, payload = [n, hi, lo] →
       (Param.ofNumber n.toNat = none → Answers i s .range [n, 0, 0] q) ∧
       ∀ k : Param, Param.ofNumber n.toNat = some k →
         let v : Int := (hi ++ lo : BitVec 16).toInt
         let shown : List Byte := n :: int16 (q.supervision.params.get k)
         let next := q.supervision.params.set v k
         let inRange :=
           k.spec.lo ≤ v ∧ v ≤ k.spec.hi ∧ v % k.spec.step = 0 ∧ ¬(k = .silenceLimit ∧ v = 1)
         let pairs :=
           next.defrostMinH ≤ next.defrostMaxH ∧ next.defrostMinH ≤ next.defrostStartH ∧
             next.defrostStartH ≤ next.defrostMaxH ∧ next.shortHeat < next.longHeat
         let bound := k ∈ [Param.defrostMinH, .defrostMaxH, .defrostStartH, .shortHeat, .longHeat]
         let budget := k = .heaterBudget → ∀ h : HeaterNo, (q.loads.heaters[h].accepted.watts : Int) ≤ v
         let flow := k = .flowK → q.line.state = .idle ∧ q.line.suspended = none
         if q.supervision.lock = true ∧ k.spec.locked = true then Answers i s .locked shown q
         else if ¬inRange then Answers i s .range shown q
         else if bound ∧ ¬pairs then Answers i s .range shown q
         else if ¬budget then Answers i s .range shown q
         else if ¬flow then Answers i s .state shown q
         else
           ∃ t : Part, Answers i s .ok [n, hi, lo] t ∧ t.supervision.params.get k = v ∧
             (∀ j : Param, j ≠ k → t.supervision.params.get j = q.supervision.params.get j) ∧
             t.supervision.lock = q.supervision.lock) ∧
  (∀ (s : State) (dt : Nat) (tag n hi lo : Byte) (k : Param) (t : State), s.linkIdle →
     Param.ofNumber n.toNat = some k →
     let q := s.heard (.setParam dt tag [n, hi, lo])
     q.paramRefusal k (hi ++ lo : BitVec 16).toInt = none →
     exec (.setParam dt tag [n, hi, lo]) s = .next t →
     (k = .defrostStartH → t.part.defrost.target = t.part.supervision.params.defrostStartH * 60) ∧
     ((k = .defrostMinH ∨ k = .defrostMaxH) →
       t.part.defrost.target =
         max (t.part.supervision.params.defrostMinH * 60)
           (min q.defrost.target (t.part.supervision.params.defrostMaxH * 60))) ∧
     (k = .binCapacity → t.part.ice.stock = min q.ice.stock t.part.supervision.params.binCapacity) ∧
     (k = .flowK → t.part.line.filterRem = 0) ∧
     ((k = .filterLimitL ∨ k = .filterLimitDays) →
       t.part.line.filterStatus =
         (let ps := t.part.supervision.params
          if ps.filterLimitL * 1000 ≤ t.part.line.filterMl ∨ ps.filterLimitDays * 86400 ≤ t.part.line.filterSeconds
          then .due
          else if ps.filterLimitL * 900 ≤ t.part.line.filterMl ∨ ps.filterLimitDays * 77760 ≤ t.part.line.filterSeconds
          then .soon else .good)))

/-- GET_PARAM answers the number, the accepted value, the L mark and the lock; a number outside 1 to 46 is refused RANGE
with the value 0. It changes nothing. LOCK_LIMITS sets the limits lock, set or not before, and answers it. While the
lock is set, a SET_PARAM of a parameter marked L, a LOAD_CURVE and a SET_LOAD with other watts are answered LOCKED and
change nothing (R179, R180). -/
def Obligations.ParametersAreShownAndLocked : Prop :=
  (∀ (s : State) (dt : Nat) (tag n : Byte), s.linkIdle →
     let i : Instr := .getParam dt tag [n]
     let q := s.heard i
     ((n.toNat < 1 ∨ 46 < n.toNat) → Answers i s .range [n, 0, 0] q) ∧
     (1 ≤ n.toNat → n.toNat ≤ 46 →
       ∃ k : Param, Param.ofNumber n.toNat = some k ∧
         Answers i s .ok
           (n :: int16 (q.supervision.params.get k) ++
             [if k.spec.locked then 1 else 0, if q.supervision.lock then 1 else 0]) q)) ∧
  (∀ (s : State) (dt : Nat) (tag : Byte), s.linkIdle →
     (Answers (.lockLimits dt tag []) s .ok [1]
       { s.heard (.lockLimits dt tag []) with supervision.lock := true }) ∧
     (s.part.supervision.lock = true →
       (∀ (n hi lo : Byte) (k : Param), Param.ofNumber n.toNat = some k → k.spec.locked = true →
         Answers (.setParam dt tag [n, hi, lo]) s .locked (n :: int16 (s.part.supervision.params.get k))
           (s.heard (.setParam dt tag [n, hi, lo]))) ∧
       (∀ (c count : Byte) (points : List Byte), points.length = 4 * count.toNat → points.length ≤ 62 →
         Answers (.loadCurve dt tag (c :: count :: points)) s .locked []
           (s.heard (.loadCurve dt tag (c :: count :: points)))) ∧
       (∀ (h : HeaterNo) (hi lo period duty : Byte),
         hi.toNat * 256 + lo.toNat ≠ s.part.loads.heaters[h].accepted.watts →
         Answers (.setLoad dt tag [byte h.val, hi, lo, period, duty]) s .locked []
           (s.heard (.setLoad dt tag [byte h.val, hi, lo, period, duty])))))

/-- The silence time at SILENCE_LIMIT expires the timer: SILENT is set and the time stops, SILENCE_TRIP is pending, the
silent-want time starts in WANTED, a LINK ticket that waits behind the head of the dispenser queue and a LINK test in
the service slot are DONE LINK_LOST. So is a LINK head with the outlet IDLE or in LINE_WAIT, whose claim is withdrawn,
its start time as it was. A LINK head at work is stopped with LINK_LOST at its stage: in OPENING the outlet enters
CLOSING; a water head in RUNNING or PAUSED releases the line; an ice head or auger test enters STOPPING with the flap
held; a chute test enters CLOSING. A STOPPING head keeps its record and its ending outcome, and a PADDLE ticket its
record and its place, at the head with the outlet and the line as they were. The ended tickets join the completion
queue in queue order. Before SILENCE_LIMIT, or with SILENT set, unarmed or a limit of 0, nothing but time passes (R12,
R136, R140, R141, R143, R181, R182). What becomes of the tickets is stated where no ticket of the dispenser queue
stands in another place as well (R1). -/
def Obligations.SilenceExpires : Prop :=
  ∀ (s : State) (dt : Nat), s.part.resetting = none →
    let p := s.later dt
    let due :=
      p.supervision.armed = true ∧ p.supervision.silent = false ∧ p.supervision.params.silenceLimit ≠ 0 ∧
        p.supervision.params.silenceLimit * 1000000 ≤ p.supervision.silence.read p.clock.now
    (¬due → Becomes (.silenceExpiry dt) s p) ∧
    (due →
      ∃ q : Part, Becomes (.silenceExpiry dt) s q.settle ∧
        q.supervision =
          { p.supervision with
            silent := true, silence := { counted := p.supervision.silence.read p.clock.now, since := none } } ∧
        q.isPending .silenceTrip = true ∧
        (p.defrost.state = .wanted → q.defrost.silentWant = { counted := 0, since := some p.clock.now }) ∧
        ((∀ n ∈ p.pool.queue, p.pool.serviceSlot ≠ some n ∧ p.pool.iceSlot ≠ some n) →
          (∀ n ∈ p.pool.queue, (p.ticket n).origin = some .link → (p.ticket n).state = .queued →
            p.pool.queue.head? ≠ some n →
            (q.ticket n).state = .done ∧ (q.ticket n).progress.outcome = some .linkLost) ∧
          (∀ n : TicketNo, p.pool.serviceSlot = some n → (p.ticket n).origin = some .link →
            q.pool.serviceSlot = none ∧ (q.ticket n).state = .done ∧
              (q.ticket n).progress.outcome = some .linkLost)) ∧
        (∀ (n : TicketNo) (rest : List TicketNo), p.pool.queue = n :: rest → p.pool.queue.Nodup →
          (∀ m ∈ p.pool.queue, p.pool.serviceSlot ≠ some m ∧ p.pool.iceSlot ≠ some m ∧ m ∉ p.pool.completion) →
          let t := p.ticket n
          let outlet := p.outlet.state
          let atOnce := outlet = .idle ∨ outlet = .lineWait
          let runs := outlet = .running ∨ outlet = .paused
          let water := t.kind = some .waterPortion ∨ t.kind = some .waterHold ∨ t.kind = some .flush
          let chute := t.kind = some .loadTest ∧ t.request.load = some .chute
          let auger := t.kind = some .loadTest ∧ t.request.load = some .auger
          let ice := t.kind = some .icePortion ∨ t.kind = some .iceHold
          let lost := p.pool.queue.filter fun m => (p.ticket m).origin = some .link ∧ (p.ticket m).state ≠ .stopping ∧
            (m = n → atOnce)
          let stops :=
            (q.ticket n).state = .stopping ∧ (q.ticket n).progress.startTime = t.progress.startTime ∧
              q.outlet.ending = some .linkLost ∧ q.outlet.pauseEnd = none ∧ q.pool.queue.head? = some n
          let closes :=
            q.outlet.state = .closing ∧ q.outlet.flap = .closing ∧ q.outlet.flapOpenOut = false ∧
              q.outlet.flapCloseOut = true ∧ q.outlet.flapDeadline = some (p.clock.now + 1500000)
          q.pool.queue = (p.pool.queue.filter fun m => m ∉ lost) ∧
          (p.pool.serviceSlot = none → q.pool.completion = p.pool.completion ++ lost) ∧
          (∀ m ∈ lost, (q.ticket m).state = .done ∧ (q.ticket m).progress.outcome = some .linkLost ∧
            (q.ticket m).progress.startTime = (p.ticket m).progress.startTime) ∧
          (n ∈ lost → q.outlet.state = .idle ∧ (outlet = .lineWait → q.line = { p.line with dispenseClaim := none })) ∧
          (∀ m ∈ p.pool.queue, (p.ticket m).origin = some .paddle ∨ (p.ticket m).state = .stopping →
            q.ticket m = p.ticket m) ∧
          (t.origin = some .paddle ∨ t.state = .stopping → q.outlet = p.outlet ∧ q.line = p.line) ∧
          (t.origin = some .link → t.state ≠ .stopping →
            (outlet = .opening → stops ∧ closes) ∧
            (runs → water → (p.line.state = .opened ∨ p.line.state = .held) → p.line.owner = some .dispense →
              stops ∧ q.outlet.state = .stopping ∧ q.line.state = .settle ∧
                q.line.ending = some (.release .linkLost) ∧ q.line.inlet = false ∧ q.line.dispense = false ∧
                q.line.settleEnd = some (p.clock.now + 500000)) ∧
            (runs → ice ∨ auger →
              let ms := p.outlet.run.forward.read p.clock.now / 1000
              let cubes := ms * p.supervision.params.augerRate / 10000
              stops ∧ q.outlet.state = .stopping ∧ q.outlet.augerForward = false ∧ q.outlet.augerReverse = false ∧
                q.outlet.crusher = false ∧
                q.outlet.holdEnd = some (p.clock.now + p.supervision.params.chuteHold * 1000000) ∧
                (q.ticket n).progress.measured = min (if auger then ms / 1000 else cubes) 65535 ∧
                q.ice.stock = p.ice.stock - cubes) ∧
            (runs → chute →
              stops ∧ closes ∧
                (q.ticket n).progress.measured = min (p.outlet.run.hold.read p.clock.now / 1000000) 65535))))

/-- RESTART is answered OK, and its reset follows the reply; with a cycle in progress a log record with end reason RESET is
written first, with the target unchanged (R169, R173, R186). POWER_ON and LINE_RESET begin a reset whatever the part
does: every output is released, the link is cut off, ATTN is released with the pending set empty, and the part seconds
count is 0. A line reset keeps the filter totals and the leak latch, which power-on clears (R184, R185, R187). What a
RESTART keeps and the other resets set to default: parameters, lock, curves, heater configuration, rotation table,
credit, target and log (R185, R186, Table 8-3). -/
def Obligations.ResetsBegin : Prop :=
  (∀ (s : State) (dt : Nat) (tag : Byte), s.linkIdle →
     let i : Instr := .restart dt tag []
     let q := s.heard i
     (q.defrost.cycle = none → Answers i s .ok [] { q with link.restartPending := true }) ∧
     (∀ c : Cycle, q.defrost.cycle = some c →
       ∃ (t : Part) (r : LogRecord), Answers i s .ok [] t ∧ t.link.restartPending = true ∧
         t.defrost.log = (if q.defrost.log.length < 8 then q.defrost.log else q.defrost.log.tail) ++ [r] ∧
         r.endReason = .reset ∧ r.targetAfter = q.defrost.target ∧ r.startTime = c.startTime ∧
         r.creditAtStart = c.creditAtStart ∧ r.h0Denied = c.h0Denied ∧ r.h1Denied = c.h1Denied ∧ r.peak = c.peak ∧
         r.heatSeconds =
           (if q.defrost.state = .heating then
             q.clock.partSeconds - c.heatingStart.getD q.clock.partSeconds else c.heatSeconds))) ∧
  (∀ (s : State) (dt : Nat),
     let released (k : ResetKind) (q : Part) : Prop :=
       q.resetting = some k ∧ q.line.inlet = false ∧ q.line.moldFill = false ∧ q.line.dispense = false ∧
         (∀ n : HeaterNo, q.loads.heaters[n].grant = false) ∧ q.ice.ejector = false ∧ q.outlet.augerForward = false ∧
         q.outlet.augerReverse = false ∧ q.outlet.crusher = false ∧ q.outlet.flapOpenOut = false ∧
         q.outlet.flapCloseOut = false ∧ q.attn = false ∧ q.link.pendingSet = 0 ∧ q.link.reply = none ∧
         q.link.executing = none ∧ q.link.inbox = [] ∧ q.clock.partSeconds = 0
     (∃ q : Part, Becomes (.powerOn dt) s q ∧ released .powerOn q ∧ q.line.filterMl = 0 ∧ q.line.filterSeconds = 0 ∧
       q.line.filterStatus = .good ∧ q.line.leakLatch = false) ∧
     (∃ q : Part, Becomes (.lineReset dt) s q ∧ released .lineReset q ∧ q.line.filterMl = s.part.line.filterMl ∧
       q.line.filterSeconds = s.part.line.filterSeconds ∧ q.line.filterStatus = s.part.line.filterStatus ∧
       q.line.leakLatch = s.part.line.leakLatch ∧ q.line.leakTime = s.part.line.leakTime)) ∧
  (∀ p : Part,
     (let q := p.beginReset .restart
      q.supervision.params = p.supervision.params ∧ q.supervision.lock = p.supervision.lock ∧
        q.sense.curveA = p.sense.curveA ∧ q.sense.curveB = p.sense.curveB ∧ q.loads.rotation = p.loads.rotation ∧
        (∀ n : HeaterNo, q.loads.heaters[n].accepted = p.loads.heaters[n].accepted) ∧
        q.defrost.credit = p.defrost.credit ∧ q.defrost.target = p.defrost.target ∧ q.defrost.log = p.defrost.log ∧
        q.line.filterMl = p.line.filterMl ∧ q.line.filterSeconds = p.line.filterSeconds ∧
        q.line.leakLatch = p.line.leakLatch) ∧
     ∀ k : ResetKind, k ≠ .restart →
       let q := p.beginReset k
       q.supervision.params = defaultParams ∧ q.supervision.lock = false ∧ q.sense.curveA = defaultCurve ∧
         q.sense.curveB = defaultCurve ∧ q.loads.rotation = defaultRotation ∧
         (∀ n : HeaterNo, q.loads.heaters[n].accepted = defaultHeaterConfig[n]) ∧ q.defrost.credit = 0 ∧
         q.defrost.target = 480 ∧ q.defrost.log = [])

/-- A reset of any kind that has begun ends with RESET_END: the clock starts from 0, RESTARTED is pending, alone but for
DEFROST_WANTED after a RESTART with the credit at the target, the inbox is empty, the last link error is none, the
silence timer is not armed, no switch input has a reading, and the ice maker is in HOMING (R42, R96, R173, R188). After
a reset of any kind all 24 tickets are FREE, the free list holds them in number order, the dispenser queue, the three
slots and the completion queue are empty, and the four starvation counts are 0. A POWER_ON and the RESET_END after it
bring any state to the state after reset, but for the free-value counter, which is the model's own field (log 10, log
21). -/
def Obligations.ResetsEnd : Prop :=
  (∀ (p : Part) (k : ResetKind) (w : List Instr) (dt : Nat),
     ∃ q : Part, Becomes (.resetEnd dt) { part := p.beginReset k, pending := w } q ∧
       q.resetting = none ∧ q.clock = ⟨0, 0⟩ ∧
       q.link.pendingSet =
         (if k = .restart ∧ p.defrost.target ≤ p.defrost.credit then
           Notice.restarted.bit ||| Notice.defrostWanted.bit else Notice.restarted.bit) ∧
       q.link.mask = (if k = .restart then p.link.mask else 0) ∧
       q.link.inbox = [] ∧ q.link.executing = none ∧ q.link.lastError = none ∧ q.link.receiver = .hunting ∧
       q.supervision.armed = false ∧ q.supervision.silent = false ∧
       q.sense.door = none ∧ q.sense.waterPaddle = none ∧ q.sense.icePaddle = none ∧ q.sense.home = none ∧
       q.sense.flap = none ∧ q.ice.state = .homing ∧ q.defrost.iceCopy = .homing ∧
       q.defrost.state = (if k = .restart ∧ p.defrost.target ≤ p.defrost.credit then .wanted else .accruing)) ∧
  (∀ (p : Part) (k : ResetKind) (w : List Instr) (dt : Nat),
     ∃ q : Part, Becomes (.resetEnd dt) { part := p.beginReset k, pending := w } q ∧
       (∀ n : TicketNo, (q.ticket n).state = .free) ∧ q.pool.free = List.finRange 24 ∧ q.pool.queue = [] ∧
       q.pool.iceSlot = none ∧ q.pool.defrostSlot = none ∧ q.pool.serviceSlot = none ∧ q.pool.completion = [] ∧
       q.pool.starvation.link = 0 ∧ q.pool.starvation.paddle = 0 ∧ q.pool.starvation.iceMaker = 0 ∧
       q.pool.starvation.defrost = 0) ∧
  (∀ (s : State) (dt dt' : Nat),
     ∃ t : State, exec (.powerOn dt) s = .next t ∧
       exec (.resetEnd dt') t =
         .next { part := { State.reset.part with freeCount := s.part.freeCount }, pending := s.pending })

/-! The Sense Unit. -/

/-- GET_CURVE answers the class's point count and its points, each a count and a temperature, in table order; a class other
than A or B is refused RANGE. The lock is not looked at, and nothing changes. LOAD_CURVE with the lock clear: a table
of 4 to 12 points in order and in range replaces the class's table and leaves the rest of the Sense Unit; any other is
refused RANGE, and a length that does not agree BAD_LENGTH (R37). -/
def Obligations.CurvesAreShownAndReplaced : Prop :=
  (∀ (s : State) (dt : Nat) (tag c : Byte), s.linkIdle →
     let i : Instr := .getCurve dt tag [c]
     let q := s.heard i
     let data (table : List CurvePoint) : List Byte :=
       byte table.length :: table.flatMap fun z => nat16 z.count ++ int16 z.temp
     (c = 0 → Answers i s .ok (data q.sense.curveA) q) ∧ (c = 1 → Answers i s .ok (data q.sense.curveB) q) ∧
       (c ≠ 0 → c ≠ 1 → Answers i s .range [] q)) ∧
  (∀ (s : State) (dt : Nat) (tag c count : Byte) (points : List Byte), s.linkIdle → points.length ≤ 62 →
     let i : Instr := .loadCurve dt tag (c :: count :: points)
     let q := s.heard i
     let table := pointsOf points
     let valid :=
       4 ≤ table.length ∧ table.length ≤ 12 ∧ (∀ z ∈ table, -1000 ≤ z.temp ∧ z.temp ≤ 1500) ∧
         table.Pairwise fun a b => a.count < b.count ∧ b.temp < a.temp
     (points.length ≠ 4 * count.toNat → Answers i s .badLength [] q) ∧
     (points.length = 4 * count.toNat → q.supervision.lock = false →
       ((c ≠ 0 ∧ c ≠ 1) ∨ ¬valid → Answers i s .range [] q) ∧
       (c = 0 → valid → ∃ t : Part, Answers i s .ok [] t ∧ t.sense = { q.sense with curveA := table }) ∧
       (c = 1 → valid → ∃ t : Part, Answers i s .ok [] t ∧ t.sense = { q.sense with curveB := table })))

/-- Through a table in order, a mean equal to a point's count has that point's temperature and status OK; between two
neighbouring points the status is OK and the temperature, which lies between theirs, is the point of their straight
line rounded to the nearest 0.1 °C, half-way to the colder; below the first and above the last count the status is
RANGE, with the first and the last temperature (R35). -/
def Obligations.CurveReadsBetweenItsPoints : Prop :=
  ∀ (before after : List CurvePoint) (a b : CurvePoint) (m : Nat),
    let table := before ++ a :: b :: after
    (table.Pairwise fun x y => x.count < y.count ∧ y.temp < x.temp) →
    throughCurve table a.count = (.ok, a.temp) ∧ throughCurve table b.count = (.ok, b.temp) ∧
    (a.count ≤ m → m ≤ b.count →
      let t := (throughCurve table m).2
      let width : Int := b.count - a.count
      let line : Int := a.temp * width - (a.temp - b.temp) * (m - a.count)
      (throughCurve table m).1 = .ok ∧ b.temp ≤ t ∧ t ≤ a.temp ∧
        -width ≤ 2 * (t * width - line) ∧ 2 * (t * width - line) < width) ∧
    (before = [] → m < a.count → throughCurve table m = (.range, a.temp)) ∧
    (after = [] → b.count < m → throughCurve table m = (.range, b.temp))

/-- READ_SENSORS without FRESH, or with FRESH and an empty set, is answered at once with seven bytes for each named channel
in ascending order and the seventeen bytes of the inputs; a set that names a channel beyond T5 is refused RANGE; with
FRESH and a set the request is held and nothing is answered yet (R39, R40). The beam level is the one last sampled;
while no row has told it since the reset it is a free value (log 10). A held READ_SENSORS is answered once its last
named channel has been converted, with the readings then; ROOM counts the inbox as it stands. Before that nothing is
answered (R40, R195). -/
def Obligations.ReadSensorsAnswersOrHolds : Prop :=
  (∀ (s : State) (dt : Nat) (tag flags set : Byte), s.linkIdle →
     let i : Instr := .readSensors dt tag [flags, set]
     let q := s.heard i
     let named : List ChannelNo := (List.finRange 6).filter fun ch => set.getLsbD ch.val
     ((set.getLsbD 6 = true ∨ set.getLsbD 7 = true) → Answers i s .range [] q) ∧
     (set.getLsbD 6 = false → set.getLsbD 7 = false →
       (flags.getLsbD 0 = true → named ≠ [] →
         Becomes i s { q with sense.scan.fresh := some { channels := named, left := none } }) ∧
       (flags.getLsbD 0 = false ∨ named = [] →
         ∃ (readings : List (List Byte)) (inputs : List Byte) (level : Byte),
           Answers i s .ok (readings.flatten ++ inputs) { q with freeCount := q.freeCount + 1 } ∧
           readings =
             (named.map fun ch =>
               let r := q.reading ch
               [byte ch.val, r.status.code] ++ optTemp r.temp ++ nat16 (r.mean.getD 0) ++
                 [optByte (r.last.map (·.code))]) ∧
           (level = 0 ∨ level = 1) ∧
           (q.sense.beamPin.level = some .blocked → level = 0) ∧ (q.sense.beamPin.level = some .clear → level = 1) ∧
           inputs.take 11 =
             [optByte (q.sense.door.map doorCode), optByte (q.sense.waterPaddle.map paddleCode),
                 optByte (q.sense.icePaddle.map paddleCode), optByte (q.sense.home.map contactCode),
                 optByte (q.sense.flap.map contactCode), level, q.sense.beam.code] ++
               nat32 q.sense.flowCount.toNat ∧
           (∀ t : Nat, q.sense.flowPeriod ≠ some 0 → q.sense.flowPeriod = some t →
             (inputs.drop 11).take 2 = nat16 (min (10000000000 / (q.supervision.params.flowK * t)) 65535)) ∧
           (q.sense.flowPeriod = none → (inputs.drop 11).take 2 = [0, 0]) ∧
           inputs.drop 13 =
             nat16 q.sense.tachCount.toNat ++
               nat16 (match q.sense.lastTach with
                 | none => 65535
                 | some t => min ((q.clock.now - t) / 1000) 65535)))) ∧
  (∀ (s : State) (dt : Nat), s.part.resetting = none →
     let p := s.later dt
     (∀ (chs : List ChannelNo) (f : Frame), p.sense.scan.fresh = some { channels := chs, left := some 0 } →
       p.link.executing = some f →
       Becomes (.readSensorsFreshReply dt) s
         { p with
           sense.scan.fresh := none
           link.reply :=
             some (frameBytes (f.kind ||| 0x80) f.tag (0 :: byte (4 - p.link.inbox.length) :: p.sensorData chs))
           freeCount := p.freeCount + 1 }) ∧
     ((∀ chs : List ChannelNo, p.sense.scan.fresh ≠ some { channels := chs, left := some 0 }) →
       Becomes (.readSensorsFreshReply dt) s p))

/-- The end of a conversion acts on its channel alone among the six: outside FAULT a good value joins the ring of four and
a bad one counts towards the third, which makes a fault with SENSOR_FAULT and the mean held; in FAULT a bad value
starts the good run over, and the eighth good one ends the fault with the last four as the ring (R29 to R34). The count
is at most 65,535 (R28). The next conversion begins as this one ends, on the next channel of the round; after the last
a round T0 to T5 begins, or, with a FRESH request held, its named channels and then the others, and the conversion of
the last named one sends the reply (R28, R30, R40). A pin is high for the first 1 ms of its conversion, released after
that, and low otherwise. The reading is handed on (R32; stated with no FRESH request held). EVAP: in HEATING and DWELL
the peak is kept, and in HEATING TERMINATE_TEMP ends it TERMINATED; in RECOVER FAN_START_TEMP ends it; an entry into
FAULT flags SENSOR, and in HEATING halves the limit (R161, R162, R165, R166). MOLD: in FREEZING HARVEST_TEMP begins or
goes on with the cold run, which ends the freeze once FREEZE_HOLD and MIN_FREEZE have passed; any other reading clears
it, a FAULT ending the freeze at 2 × MIN_FREEZE; in HARVEST_HEAT RELEASE_TEMP begins the eject, and an entry into FAULT
flags SENSOR and halves the limit (R100, R101, R104). The model's readings are these: the reading by which a channel
leaves FAULT acts as the next one would, so the OK and RANGE clauses hold there too (log 16); MIN_FREEZE and 2 ×
MIN_FREEZE are counted in part seconds (log 23), and a FAULT reading after 2 × MIN_FREEZE ends the freeze also where
RUN entered it (log 33); and the count is the clock's if it is higher than the row's, or the row brings the clock to
its end (log 27). -/
def Obligations.ConversionActsOnItsChannel : Prop :=
  (∀ (s : State) (dt : Nat) (raw : BitVec 16), s.part.resetting = none →
     let p := s.later dt
     let ch := p.sense.scan.current
     let c := p.sense.channels[ch]
     let count := min 65535 (max raw.toNat (p.clock.now - (p.sense.scan.startedAt + 1000)))
     let good := 500 ≤ count ∧ count < 65535
     let cls : ConvClass := if count < 500 then .short else if count < 65535 then .good else .opened
     ∃ t : Part, Becomes (.conversionEnd dt raw) s t ∧
       t.sense.channels =
         p.sense.channels.set ch
           (if c.fault = false then
             if good then
               { c with
                 ring := (if c.ring.length < 4 then c.ring else c.ring.tail) ++ [count]
                 badRun := 0
                 last := some cls }
             else if c.badRun + 1 < 3 then { c with badRun := c.badRun + 1, last := some cls }
             else
               { c with
                 badRun := 3
                 fault := true
                 goodRun := []
                 heldMean := if c.ring.length = 4 then some (c.ring.sum / 4) else none
                 last := some cls }
           else if good then
             if c.goodRun.length + 1 < 8 then { c with goodRun := c.goodRun ++ [count], last := some cls }
             else
               { c with
                 ring := (c.goodRun ++ [count]).drop 4
                 fault := false
                 badRun := 0
                 heldMean := none
                 goodRun := []
                 last := some cls }
           else { c with goodRun := [], last := some cls }) ∧
       (c.fault = false → ¬good → ¬(c.badRun + 1 < 3) → t.isPending .sensorFault = true)) ∧
  ((∀ (s : State) (dt : Nat) (raw : BitVec 16), s.part.resetting = none →
     let p := s.later dt
     let scan := p.sense.scan
     let count := min 65535 (max raw.toNat (p.clock.now - (scan.startedAt + 1000)))
     ∃ t : Part, Becomes (.conversionEnd dt raw) s t ∧
       t.clock.now = max p.clock.now (scan.startedAt + 1000 + count) ∧ t.sense.scan.startedAt = t.clock.now ∧
       (∀ (ch : ChannelNo) (rest : List ChannelNo), scan.rest = ch :: rest →
         t.sense.scan.current = ch ∧ t.sense.scan.rest = rest) ∧
       (scan.rest = [] → scan.fresh = none → t.sense.scan.current = 0 ∧ t.sense.scan.rest = [1, 2, 3, 4, 5]) ∧
       (∀ chs : List ChannelNo, scan.rest = [] → chs ≠ [] → scan.fresh = some { channels := chs, left := none } →
         t.sense.scan.current :: t.sense.scan.rest =
             ((List.finRange 6).filter fun ch => ch ∈ chs) ++ (List.finRange 6).filter (fun ch => ch ∉ chs) ∧
           t.sense.scan.fresh = some { channels := chs, left := some chs.length } ∧ t.link.reply = p.link.reply) ∧
       (∀ (chs : List ChannelNo) (k : Nat), scan.fresh = some { channels := chs, left := some (k + 2) } →
         t.sense.scan.fresh = some { channels := chs, left := some (k + 1) } ∧ t.link.reply = p.link.reply) ∧
       (∀ (chs : List ChannelNo) (f : Frame), scan.fresh = some { channels := chs, left := some 1 } →
         p.link.executing = some f →
         t.sense.scan.fresh = none ∧
           ∃ u : Part, u.sense = { t.sense with scan := u.sense.scan } ∧ u.clock = t.clock ∧
             u.supervision = t.supervision ∧
             t.link.reply =
               some (frameBytes (f.kind ||| 0x80) f.tag (0 :: byte (4 - p.link.inbox.length) :: u.sensorData chs)))) ∧
   (∀ (p : Part) (ch : ChannelNo), p.resetting = none →
     (p.sense.scan.current = ch → p.clock.now < p.sense.scan.startedAt + 1000 → p.thermistorDrive ch = .high) ∧
     (p.sense.scan.current = ch → p.sense.scan.startedAt + 1000 ≤ p.clock.now → p.thermistorDrive ch = .released) ∧
     (p.sense.scan.current ≠ ch → p.thermistorDrive ch = .low) ∧
     (p.sense.scan.startedAt + 1000 + 65535 ≤ p.clock.now → .conversionEnd 0 65535 ∈ p.dueEvents))) ∧
  (∀ (s : State) (dt : Nat) (raw : BitVec 16), s.part.resetting = none → s.part.sense.scan.fresh = none →
     let p := s.later dt
     let ps := p.supervision.params
     ∃ q : Part, Becomes (.conversionEnd dt raw) s q.settle ∧
       (p.sense.scan.current = 0 → ∀ c : Cycle, p.defrost.cycle = some c →
         let r := q.reading 0
         (∀ t : Int, (r.status = .ok ∨ r.status = .range) → r.temp = some t →
           let peak : Cycle := { c with peak := some (match c.peak with | none => t | some u => max u t) }
           (p.defrost.state = .heating → ps.terminateTemp ≤ t →
             q.defrost.state = .dwell ∧ q.ice.defrostCopy = .dwell ∧
               q.loads.heaters[(0 : HeaterNo)].ownerDemand = false ∧
               ∃ d : Cycle, q.defrost.cycle = some d ∧ d.endReason = some .terminated ∧ d.peak = peak.peak) ∧
           (p.defrost.state = .heating → t < ps.terminateTemp →
             q.defrost = { p.defrost with cycle := some peak } ∧ q.loads = p.loads) ∧
           (p.defrost.state = .dwell → q.defrost = { p.defrost with cycle := some peak } ∧ q.loads = p.loads) ∧
           (p.defrost.state = .recover → t ≤ ps.fanStartTemp →
             q.defrost.state = .accruing ∧ q.defrost.credit = 0 ∧ q.defrost.cycle = none ∧
               q.isPending .fanRelease = true) ∧
           (p.defrost.state = .recover → ps.fanStartTemp < t → q.defrost = p.defrost)) ∧
         (p.sense.channels[(0 : ChannelNo)].fault = false → r.status = .fault →
           (p.defrost.state = .recover → q.defrost = { p.defrost with cycle := some { c with sensor := true } }) ∧
           (∀ start : Nat, p.defrost.state = .heating → c.heatingFrom = some start →
             (∃ d : Cycle, q.defrost.cycle = some d ∧ d.sensor = true) ∧
               q.defrost.state =
                 if start + ps.defrostHeatLimit * 30 * 1000000 ≤ q.clock.now then .dwell else .heating))) ∧
       (p.sense.scan.current = 2 →
         let r := q.reading 2
         (∀ t : Int, (r.status = .ok ∨ r.status = .range) → r.temp = some t →
           (∀ start : Nat, p.ice.state = .freezing → p.ice.freezeStart = some start → t ≤ ps.harvestTemp →
             let cold := p.ice.coldRunStart.getD q.clock.now
             if cold + ps.freezeHold * 1000000 ≤ q.clock.now ∧ start + ps.minFreeze * 60 ≤ p.clock.partSeconds then
               q.ice.state = .harvestWait ∧ q.defrost.iceCopy = .harvestWait ∧ q.ice.notedSensor = false
             else q.ice = { p.ice with coldRunStart := some cold }) ∧
           (p.ice.state = .freezing → ps.harvestTemp < t → q.ice = { p.ice with coldRunStart := none }) ∧
           (p.ice.state = .harvestHeat → ps.releaseTemp ≤ t →
             q.ice.state = .eject ∧ q.defrost.iceCopy = .eject ∧ q.ice.heatLimitMark = false ∧
               q.ice.attempts = p.ice.attempts + 1 ∧ q.ice.ejector = true ∧ q.loads = p.loads) ∧
           (p.ice.state = .harvestHeat → t < ps.releaseTemp → q.ice = p.ice)) ∧
         (p.ice.state = .freezing → r.status = .notReady → q.ice = { p.ice with coldRunStart := none }) ∧
         (∀ start : Nat, p.ice.state = .freezing → r.status = .fault → p.ice.freezeStart = some start →
           if start + 2 * ps.minFreeze * 60 ≤ p.clock.partSeconds then
             q.ice.state = .harvestWait ∧ q.ice.notedSensor = true
           else q.ice = { p.ice with coldRunStart := none }) ∧
         (∀ (start : Nat) (n : TicketNo), p.ice.state = .harvestHeat → p.sense.channels[(2 : ChannelNo)].fault = false →
           r.status = .fault → p.ice.heatFrom = some start → p.pool.iceSlot = some n →
           (q.ticket n).progress.sensor = true ∧
             q.ice.state =
               if start + ps.moldHeatLimit / 2 * 1000000 ≤ q.clock.now then .eject else .harvestHeat)))

/-- The first reading of a switch that has none, once its level has stood for its debounce time since the end of the reset,
100 ms for the door, 30 ms for a paddle and 10 ms for the home and flap switches, sets its state, and acts on nothing
but what its chapter gives: the door and the paddles on nothing else, the ejector home switch on a homing that waits
for it, the flap switch on the flap position. A switch that has a reading already gets no first one (R42, R96, R131;
the last clause is the model's, log 24). How long a level counts as having stood, and that a change which the level
before has earned is taken before the level is told, is the model's reading (log 9). -/
def Obligations.FirstReadingsSetTheSwitches : Prop :=
  ∀ (s : State) (dt : Nat), s.part.resetting = none →
    let p := s.later dt
    let now := p.clock.now
    (∀ d : Door,
      (p.sense.door = none → p.sense.doorPin.stood now 100000 d →
        Becomes (.switchFirstReading dt (.door d)) s
          (Part.settle { p with sense.door := some d, sense.doorPin.level := some d })) ∧
      (p.sense.door.isSome = true → p.sense.doorPin.quiet now 100000 p.sense.door →
        Becomes (.switchFirstReading dt (.door d)) s
          (Part.settle { p with sense.doorPin := p.sense.doorPin.told now d }))) ∧
    (∀ st : PaddleState,
      (p.sense.waterPaddle = none → p.sense.waterPin.stood now 30000 st →
        Becomes (.switchFirstReading dt (.paddle .water st)) s
          (Part.settle { p with sense.waterPaddle := some st, sense.waterPin.level := some st })) ∧
      (p.sense.waterPaddle.isSome = true → p.sense.waterPin.quiet now 30000 p.sense.waterPaddle →
        Becomes (.switchFirstReading dt (.paddle .water st)) s
          (Part.settle { p with sense.waterPin := p.sense.waterPin.told now st })) ∧
      (p.sense.icePaddle = none → p.sense.icePin.stood now 30000 st →
        Becomes (.switchFirstReading dt (.paddle .ice st)) s
          (Part.settle { p with sense.icePaddle := some st, sense.icePin.level := some st })) ∧
      (p.sense.icePaddle.isSome = true → p.sense.icePin.quiet now 30000 p.sense.icePaddle →
        Becomes (.switchFirstReading dt (.paddle .ice st)) s
          (Part.settle { p with sense.icePin := p.sense.icePin.told now st }))) ∧
    (∀ c : Contact, ∃ q : Part, Becomes (.switchFirstReading dt (.home c)) s q.settle ∧
      (p.sense.home.isSome = true → p.sense.homePin.quiet now 10000 p.sense.home →
        q = { p with sense.homePin := p.sense.homePin.told now c }) ∧
      (p.sense.home = none → p.sense.homePin.stood now 10000 c →
        let read : Sense := { p.sense with home := some c, homePin.level := some c }
        q.sense = read ∧ (p.ice.state ≠ .homing → q = { p with sense := read }) ∧
        (p.ice.state = .homing → c = .made →
          q.ice.state = .freezing ∧ q.ice.moldLoaded = true ∧ q.ice.freezeStart = some p.clock.partSeconds) ∧
        (p.ice.state = .homing → c = .released →
          q.ice.state = .homing ∧ q.ice.ejector = true ∧
            q.ice.homingDeadline = some (now + p.supervision.params.ejectLimit * 1000000)))) ∧
    (∀ c : Contact, ∃ q : Part, Becomes (.switchFirstReading dt (.flap c)) s q.settle ∧
      (p.sense.flap.isSome = true → p.sense.flapPin.quiet now 10000 p.sense.flap →
        q = { p with sense.flapPin := p.sense.flapPin.told now c }) ∧
      (p.sense.flap = none → p.sense.flapPin.stood now 10000 c →
        q.sense = { p.sense with flap := some c, flapPin.level := some c } ∧
        (c = .released →
          q.outlet.flap = .closed ∧ q.outlet.flapOpenOut = false ∧ q.outlet.flapCloseOut = false) ∧
        (c = .made →
          q.outlet.flap = .closing ∧ q.outlet.flapCloseOut = true ∧ q.outlet.flapDeadline = some (now + 1500000) ∧
            q.loads.heaters[(4 : HeaterNo)].ownerDemand = true)))

/-- A level that has not stood for its debounce time changes nothing: the row only tells the level, and a level other than
the one before it starts the time again, so that a pulse or bounce shorter than the time has no effect. So it is with
the first readings, counted from the end of the reset, and with the beam, blocked for less than 5 s or clear for less
than 2 s (R41, R42, R43). It is so where no change that the level before has earned waits to be taken. A level that has
stood for its time and differs from the state is taken by the tick, with no row of its own (log 1, 9). A level that has
stood for its time is not lost when a row tells the next one: the row first makes of the part what the level's own row
would have made of it at that moment, and then tells its own level, whose time starts. So it is with the debounced
changes, 100 ms for the door, 30 ms for a paddle and 10 ms for the home and flap switches, with the first readings, and
with the beam, blocked for 5 s or clear for 2 s (R41, R42, R43). That the row takes the change at its own moment is the
model's reading (log 9). The beam blocked for 5 s is FULL, and clear for 2 s NOT FULL, counted from a change of its
level and from the end of a reset. A change to FULL sets the stock estimate to BIN_CAPACITY, but not in ice maker
SETTLE; a change to NOT FULL leaves it (R43, R110). The pulse counters: a flow period becomes none once 2 s have passed
since the last flow pulse, and not before; a tach pulse is counted with its time and restarts a jam window that runs
(R45, R46, R135). -/
def Obligations.InputsAreCountedAndFiltered : Prop :=
  ((∀ (s : State) (dt : Nat), s.part.resetting = none →
     let p := s.later dt
     let now := p.clock.now
     (∀ d : Door, p.sense.doorPin.quiet now 100000 p.sense.door → ¬p.sense.doorPin.stood now 100000 d →
       let told := Part.settle { p with sense.doorPin := p.sense.doorPin.told now d }
       Becomes (.switchFirstReading dt (.door d)) s told ∧ (d = .opened → Becomes (.doorOpening dt) s told) ∧
         (d = .closed → Becomes (.doorClosing dt) s told)) ∧
     (∀ st : PaddleState, p.sense.waterPin.quiet now 30000 p.sense.waterPaddle → ¬p.sense.waterPin.stood now 30000 st →
       let told := Part.settle { p with sense.waterPin := p.sense.waterPin.told now st }
       Becomes (.switchFirstReading dt (.paddle .water st)) s told ∧
         (st = .pressed → Becomes (.paddlePress dt .water) s told) ∧
         (st = .released → Becomes (.paddleRelease dt .water) s told)) ∧
     (∀ st : PaddleState, p.sense.icePin.quiet now 30000 p.sense.icePaddle → ¬p.sense.icePin.stood now 30000 st →
       let told := Part.settle { p with sense.icePin := p.sense.icePin.told now st }
       Becomes (.switchFirstReading dt (.paddle .ice st)) s told ∧
         (st = .pressed → Becomes (.paddlePress dt .ice) s told) ∧
         (st = .released → Becomes (.paddleRelease dt .ice) s told)) ∧
     (∀ c : Contact, p.sense.homePin.quiet now 10000 p.sense.home → ¬p.sense.homePin.stood now 10000 c →
       let told := Part.settle { p with sense.homePin := p.sense.homePin.told now c }
       Becomes (.switchFirstReading dt (.home c)) s told ∧ Becomes (.homeSwitchChange dt c) s told) ∧
     (∀ c : Contact, p.sense.flapPin.quiet now 10000 p.sense.flap → ¬p.sense.flapPin.stood now 10000 c →
       let told := Part.settle { p with sense.flapPin := p.sense.flapPin.told now c }
       Becomes (.switchFirstReading dt (.flap c)) s told ∧ Becomes (.flapSwitchChange dt c) s told) ∧
     (∀ l : BeamLevel,
       (∀ w ∈ p.sense.beamPin.level, p.sense.beam ≠ (if w = .blocked then .full else .notFull) →
         now < p.sense.beamPin.since + (if w = .blocked then 5000000 else 2000000)) →
       ¬p.sense.beamPin.stood now (if l = .blocked then 5000000 else 2000000) l →
       Becomes (.beamFilterChange dt l) s
         (Part.settle { p with sense.beamPin := p.sense.beamPin.told now l }))) ∧
   (∀ p : Part,
     (∀ d : Door, p.sense.doorPin.level = some d → p.sense.doorPin.since + 100000 ≤ p.clock.now →
       (p.sense.door = none → .switchFirstReading 0 (.door d) ∈ p.dueEvents) ∧
         (p.sense.door = some .closed → d = .opened → .doorOpening 0 ∈ p.dueEvents) ∧
         (p.sense.door = some .opened → d = .closed → .doorClosing 0 ∈ p.dueEvents)) ∧
     (∀ st : PaddleState, p.sense.waterPin.level = some st → p.sense.waterPin.since + 30000 ≤ p.clock.now →
       (p.sense.waterPaddle = none → .switchFirstReading 0 (.paddle .water st) ∈ p.dueEvents) ∧
         (p.sense.waterPaddle = some .released → st = .pressed → .paddlePress 0 .water ∈ p.dueEvents) ∧
         (p.sense.waterPaddle = some .pressed → st = .released → .paddleRelease 0 .water ∈ p.dueEvents)) ∧
     (∀ st : PaddleState, p.sense.icePin.level = some st → p.sense.icePin.since + 30000 ≤ p.clock.now →
       (p.sense.icePaddle = none → .switchFirstReading 0 (.paddle .ice st) ∈ p.dueEvents) ∧
         (p.sense.icePaddle = some .released → st = .pressed → .paddlePress 0 .ice ∈ p.dueEvents) ∧
         (p.sense.icePaddle = some .pressed → st = .released → .paddleRelease 0 .ice ∈ p.dueEvents)) ∧
     (∀ c : Contact, p.sense.homePin.level = some c → p.sense.homePin.since + 10000 ≤ p.clock.now →
       (p.sense.home = none → .switchFirstReading 0 (.home c) ∈ p.dueEvents) ∧
         (p.sense.home.isSome = true → p.sense.home ≠ some c → .homeSwitchChange 0 c ∈ p.dueEvents)) ∧
     (∀ c : Contact, p.sense.flapPin.level = some c → p.sense.flapPin.since + 10000 ≤ p.clock.now →
       (p.sense.flap = none → .switchFirstReading 0 (.flap c) ∈ p.dueEvents) ∧
         (p.sense.flap.isSome = true → p.sense.flap ≠ some c → .flapSwitchChange 0 c ∈ p.dueEvents)) ∧
     (∀ l : BeamLevel, p.sense.beamPin.level = some l →
       p.sense.beamPin.since + (if l = .blocked then 5000000 else 2000000) ≤ p.clock.now →
       p.sense.beam ≠ (if l = .blocked then .full else .notFull) → .beamFilterChange 0 l ∈ p.dueEvents))) ∧
  (∀ (s : State) (dt : Nat), s.part.resetting = none →
     let p := s.later dt
     let now := p.clock.now
     (∀ d : Door, p.sense.doorPin.earned now 100000 p.sense.door d →
       ∃ q : Part,
         Becomes (if p.sense.door = none then .switchFirstReading dt (.door d)
           else match d with | .opened => .doorOpening dt | .closed => .doorClosing dt) s q.settle ∧
         q.sense = { p.sense with door := some d } ∧
         (p.sense.door = none → q = { p with sense.door := some d }) ∧
         ∀ e : Door,
           let next := Part.settle { q with sense.doorPin := p.sense.doorPin.told now e }
           Becomes (.switchFirstReading dt (.door e)) s next ∧
             Becomes (match e with | .opened => .doorOpening dt | .closed => .doorClosing dt) s next) ∧
     (∀ st : PaddleState, p.sense.waterPin.earned now 30000 p.sense.waterPaddle st →
       ∃ q : Part,
         Becomes (if p.sense.waterPaddle = none then .switchFirstReading dt (.paddle .water st)
           else match st with | .pressed => .paddlePress dt .water | .released => .paddleRelease dt .water) s q.settle ∧
         q.sense = { p.sense with waterPaddle := some st } ∧
         (p.sense.waterPaddle = none → q = { p with sense.waterPaddle := some st }) ∧
         ∀ e : PaddleState,
           let next := Part.settle { q with sense.waterPin := p.sense.waterPin.told now e }
           Becomes (.switchFirstReading dt (.paddle .water e)) s next ∧
             Becomes (match e with | .pressed => .paddlePress dt .water | .released => .paddleRelease dt .water) s next) ∧
     (∀ st : PaddleState, p.sense.icePin.earned now 30000 p.sense.icePaddle st →
       ∃ q : Part,
         Becomes (if p.sense.icePaddle = none then .switchFirstReading dt (.paddle .ice st)
           else match st with | .pressed => .paddlePress dt .ice | .released => .paddleRelease dt .ice) s q.settle ∧
         q.sense = { p.sense with icePaddle := some st } ∧
         (p.sense.icePaddle = none → q = { p with sense.icePaddle := some st }) ∧
         ∀ e : PaddleState,
           let next := Part.settle { q with sense.icePin := p.sense.icePin.told now e }
           Becomes (.switchFirstReading dt (.paddle .ice e)) s next ∧
             Becomes (match e with | .pressed => .paddlePress dt .ice | .released => .paddleRelease dt .ice) s next) ∧
     (∀ c : Contact, p.sense.homePin.earned now 10000 p.sense.home c →
       ∃ q : Part,
         Becomes (if p.sense.home = none then .switchFirstReading dt (.home c) else .homeSwitchChange dt c) s q.settle ∧
         q.sense = { p.sense with home := some c } ∧
         ∀ e : Contact,
           let next := Part.settle { q with sense.homePin := p.sense.homePin.told now e }
           Becomes (.switchFirstReading dt (.home e)) s next ∧ Becomes (.homeSwitchChange dt e) s next) ∧
     (∀ c : Contact, p.sense.flapPin.earned now 10000 p.sense.flap c →
       ∃ q : Part,
         Becomes (if p.sense.flap = none then .switchFirstReading dt (.flap c) else .flapSwitchChange dt c) s q.settle ∧
         q.sense = { p.sense with flap := some c } ∧
         ∀ e : Contact,
           let next := Part.settle { q with sense.flapPin := p.sense.flapPin.told now e }
           Becomes (.switchFirstReading dt (.flap e)) s next ∧ Becomes (.flapSwitchChange dt e) s next) ∧
     (∀ l : BeamLevel,
       let new : BeamFilter := if l = .blocked then .full else .notFull
       p.sense.beamPin.level = some l → p.sense.beam ≠ new →
       p.sense.beamPin.since + (if l = .blocked then 5000000 else 2000000) ≤ now →
       ∃ q : Part, Becomes (.beamFilterChange dt l) s q.settle ∧ q.sense = { p.sense with beam := new } ∧
         q.ice.stock =
           (if l = .blocked ∧ p.ice.state ≠ .settle then p.supervision.params.binCapacity else p.ice.stock) ∧
         ∀ e : BeamLevel,
           Becomes (.beamFilterChange dt e) s (Part.settle { q with sense.beamPin := p.sense.beamPin.told now e }))) ∧
  (∀ (s : State) (dt : Nat) (level : BeamLevel), s.part.resetting = none →
     let p := s.later dt
     let new : BeamFilter := if level = .blocked then .full else .notFull
     p.sense.beamPin.stood p.clock.now (if level = .blocked then 5000000 else 2000000) level →
     ∃ q : Part, Becomes (.beamFilterChange dt level) s q.settle ∧
       (p.sense.beam = new → q = { p with sense.beamPin.level := some level }) ∧
       q.sense = { p.sense with beam := new, beamPin.level := some level } ∧
       q.ice.stock =
         (if p.sense.beam ≠ new ∧ new = .full ∧ p.ice.state ≠ .settle then p.supervision.params.binCapacity
          else p.ice.stock)) ∧
  (∀ (s : State) (dt : Nat), s.part.resetting = none →
     let p := s.later dt
     (∀ t : Nat, p.sense.lastFlow = some t →
       Becomes (.flowPeriodTimeout dt) s
         (if t + 2000000 ≤ p.clock.now then { p with sense.flowPeriod := none } else p)) ∧
     (p.sense.lastFlow = none → Becomes (.flowPeriodTimeout dt) s p) ∧
     (p.outlet.augerForward = false →
       Becomes (.tachPulse dt) s
         { p with sense.tachCount := p.sense.tachCount + 1, sense.lastTach := some p.clock.now }) ∧
     (p.outlet.augerForward = true →
       Becomes (.tachPulse dt) s
         { p with
           sense.tachCount := p.sense.tachCount + 1
           sense.lastTach := some p.clock.now
           outlet.run.jamDeadline := some (p.clock.now + 1000000) }))

/-! The Load Budget Unit. -/

/-- SET_LOAD is judged by the cases of R60 in order: an accepted one replaces the heater's accepted watts, P and D at once,
and a refused one changes nothing. SET_ROTATION with 16 entries, each H0 to H4 or NONE, replaces the whole table and
leaves the slot position; with any other entry it is refused RANGE, with another length BAD_LENGTH, and the table stays
(R59). -/
def Obligations.LoadsAreConfigured : Prop :=
  (∀ (s : State) (dt : Nat) (tag n hi lo period duty : Byte), s.linkIdle →
     let i : Instr := .setLoad dt tag [n, hi, lo, period, duty]
     let q := s.heard i
     let watts := hi.toNat * 256 + lo.toNat
     (4 < n.toNat → Answers i s .range [] q) ∧
     ∀ h : HeaterNo, n.toNat = h.val →
       if q.supervision.lock = true ∧ watts ≠ q.loads.heaters[h].accepted.watts then Answers i s .locked [] q
       else if 400 < watts ∨ watts % 5 ≠ 0 ∨ period.toNat < 1 ∨ 16 < period.toNat ∨ 16 < duty.toNat then
         Answers i s .range [] q
       else if q.supervision.params.heaterBudget < watts then Answers i s .range [] q
       else
         Answers i s .ok []
           { q with
             loads.heaters :=
               q.loads.heaters.set h
                 { q.loads.heaters[h] with accepted := ⟨watts, period.toNat, duty.toNat⟩ } }) ∧
  (∀ (s : State) (dt : Nat) (tag : Byte) (payload : List Byte), s.linkIdle → payload.length ≤ 64 →
     let i : Instr := .setRotation dt tag payload
     let q := s.heard i
     (payload.length ≠ 16 → Answers i s .badLength [] q) ∧
     (payload.length = 16 → (∃ b ∈ payload, 5 ≤ b.toNat ∧ b ≠ 0xFF) → Answers i s .range [] q) ∧
     (∀ t : Vector (Option HeaterNo) 16,
       payload = (t.toList.map fun e => match e with | none => 0xFF | some h => byte h.val) →
       Answers i s .ok [] { q with loads.rotation := t }))

/-- The advance of the part seconds count: the count rises by 1, accepted configuration and budget come into force, a
heater is granted only if it is demanded and on-slot, and then exactly when its watts and those of the ones granted
before it, the one that the rotation entry of the slot names and then in ascending number, fit the budget in force, the
granted watts never exceed it, the slot position advances, and a filter second is counted (R52, R54, R58, R89, R188).
The pattern of a heater that is demanded after step 2 goes on by the P and D that are then in force, from the
accumulator as it stood (R53), or, where P or D comes into force with a changed value, from the new P - 1, as though
its demand had just risen, with an on-slot at once if the new D is 1 or more; a change of watts alone leaves it (R61).
That the clock reaches the second's moment, where a row comes before it, is the model's own choice (log 27). What an
advance of the part seconds count counts. In ACCRUING, WANTED and DEFERRED a second of a RUNNING compressor and one of
an OPEN freezer door; each 60th adds 1 and DOOR_WEIGHT minutes to the frost credit, up to 65,535; elsewhere nothing
(R148). In ACCRUING a credit at the target enters WANTED at once, with DEFROST_WANTED pending and the want time from 0
(R151). A candidate that is not granted counts a denied slot; the results of H0 and H1 go to the cycle record, and a
denial of H0 to the DEFROST_CYCLE and of H2 or H3 to the ticket in the ice maker slot (R55). A heater test whose
seconds have run ends COMPLETE and drops its demand; until then each boundary counts, as measured if granted and as
denied if denied (R63). -/
def Obligations.SecondsBeginSlots : Prop :=
  (∀ (s : State) (dt : Nat), s.part.resetting = none →
     let p := s.later dt
     ∃ q : Part, Becomes (.partSecondsAdvance dt) s q.settle ∧
       (p.clock.partSeconds < 4294967295 → q.clock.partSeconds = p.clock.partSeconds + 1) ∧
       q.clock.now = max p.clock.now ((p.clock.partSeconds + 1) * 1000000) ∧
       q.loads.budgetInForce = p.supervision.params.heaterBudget ∧
       q.loads.slot = p.loads.slot + 1 ∧ q.loads.rotation = p.loads.rotation ∧
       (∀ n : HeaterNo, q.loads.heaters[n].inForce = p.loads.heaters[n].accepted ∧
         q.loads.heaters[n].accepted = p.loads.heaters[n].accepted ∧
         q.loads.heaters[n].ownerDemand = p.loads.heaters[n].ownerDemand) ∧
       (∀ n : HeaterNo, q.loads.heaters[n].demanded = true →
         let h := p.loads.heaters[n]
         let P := h.accepted.period
         let D := h.accepted.duty
         let changed := P ≠ h.inForce.period ∨ D ≠ h.inForce.duty
         let acc := if changed then P - 1 else h.acc
         (P ≤ D → q.loads.heaters[n].onSlot = true ∧ q.loads.heaters[n].acc = P - 1) ∧
         (D < P → D = 0 → q.loads.heaters[n].onSlot = false ∧ q.loads.heaters[n].acc = acc) ∧
         (D < P → D ≠ 0 → P ≤ acc + D → q.loads.heaters[n].onSlot = true ∧ q.loads.heaters[n].acc = acc + D - P) ∧
         (D < P → D ≠ 0 → acc + D < P → q.loads.heaters[n].onSlot = false ∧ q.loads.heaters[n].acc = acc + D) ∧
         (changed → 1 ≤ D → 1 ≤ P → q.loads.heaters[n].onSlot = true)) ∧
       (∀ n : HeaterNo, q.loads.heaters[n].grant = true →
         q.loads.heaters[n].demanded = true ∧ q.loads.heaters[n].onSlot = true) ∧
       (∀ n : HeaterNo, q.loads.heaters[n].demanded = true → q.loads.heaters[n].onSlot = true →
         (q.loads.heaters[n].grant = true ↔
           q.loads.heaters[n].inForce.watts +
               ((List.finRange 5).map fun m : HeaterNo =>
                 if q.loads.heaters[m].grant = true ∧ m ≠ n ∧ (p.loads.rotation[p.loads.slot] = some m ∨
                   p.loads.rotation[p.loads.slot] ≠ some n ∧ m < n)
                 then q.loads.heaters[m].inForce.watts else 0).sum ≤ q.loads.budgetInForce)) ∧
       q.loads.withinBudget ∧
       (((List.finRange 5).map fun n : HeaterNo =>
           if q.loads.heaters[n].demanded && q.loads.heaters[n].onSlot then q.loads.heaters[n].inForce.watts else 0).sum ≤
           q.loads.budgetInForce →
         ∀ n : HeaterNo, q.loads.heaters[n].demanded = true → q.loads.heaters[n].onSlot = true →
           q.loads.heaters[n].grant = true) ∧
       q.line.filterSeconds = min (p.line.filterSeconds + 1) 4294967295) ∧
  (∀ (s : State) (dt : Nat), s.part.resetting = none →
     let p := s.later dt
     let ps := p.supervision.params
     ∃ q : Part, Becomes (.partSecondsAdvance dt) s q.settle ∧
       (let accrues := p.defrost.state = .accruing ∨ p.defrost.state = .wanted ∨ p.defrost.state = .deferred
        let runs := accrues ∧ p.defrost.compressorRunning = true
        let stands := accrues ∧ p.sense.door = some .opened
        let minute := if runs ∧ 60 ≤ p.defrost.compressorSeconds + 1 then 1 else 0
        let weight := if stands ∧ 60 ≤ p.defrost.doorSeconds + 1 then ps.doorWeight else 0
        q.defrost.state = p.defrost.state ∧
          q.defrost.compressorSeconds =
            (if runs then if 60 ≤ p.defrost.compressorSeconds + 1 then 0 else p.defrost.compressorSeconds + 1
             else p.defrost.compressorSeconds) ∧
          q.defrost.doorSeconds =
            (if stands then if 60 ≤ p.defrost.doorSeconds + 1 then 0 else p.defrost.doorSeconds + 1
             else p.defrost.doorSeconds) ∧
          (p.defrost.credit ≤ 65535 → q.defrost.credit = min (p.defrost.credit + minute + weight) 65535)) ∧
       (p.defrost.state = .accruing → q.defrost.target ≤ q.defrost.credit →
         q.settle.defrost.state = .wanted ∧ q.settle.ice.defrostCopy = .wanted ∧
           q.settle.isPending .defrostWanted = true ∧
           q.settle.defrost.wantTime = { counted := 0, since := some q.clock.now } ∧
           q.settle.defrost.silentWant =
             if p.supervision.silent then { counted := 0, since := some q.clock.now } else {}) ∧
       (let denied (n : HeaterNo) : Bool :=
         q.loads.heaters[n].demanded && q.loads.heaters[n].onSlot && !q.loads.heaters[n].grant
        let owned (n : HeaterNo) : Bool := p.loads.heaters[n].ownerDemand
        let counted (d : Bool) (k : Nat) : Nat := if d then min (k + 1) 65535 else k
        (∀ n : HeaterNo, q.loads.heaters[n].denied = counted (denied n) p.loads.heaters[n].denied) ∧
          (∀ c : Cycle, p.defrost.cycle = some c →
            q.defrost.cycle =
              some { c with
                h0Slots := if owned 0 then c.h0Slots + 1 else c.h0Slots
                h0Denied := counted (owned 0 && denied 0) c.h0Denied
                h1Denied := counted (owned 1 && denied 1) c.h1Denied }) ∧
          (∀ n : TicketNo, p.pool.serviceSlot = none →
            (p.pool.defrostSlot = some n → p.pool.iceSlot ≠ some n →
              (q.ticket n).progress.denied = counted (owned 0 && denied 0) (p.ticket n).progress.denied) ∧
            (p.pool.iceSlot = some n → p.pool.defrostSlot ≠ some n → owned 3 = false →
              (q.ticket n).progress.denied = counted (owned 2 && denied 2) (p.ticket n).progress.denied) ∧
            (p.pool.iceSlot = some n → p.pool.defrostSlot ≠ some n → owned 2 = false →
              (q.ticket n).progress.denied = counted (owned 3 && denied 3) (p.ticket n).progress.denied)) ∧
          (∀ (n : TicketNo) (h : HeaterNo), p.pool.serviceSlot = some n → p.pool.iceSlot ≠ some n →
            p.pool.defrostSlot ≠ some n → (p.ticket n).origin = some .link → (p.ticket n).kind = some .loadTest →
            (p.ticket n).request.load = some (.heater h) →
            ((p.ticket n).request.seconds = some p.loads.testSlots →
              q.pool.serviceSlot = none ∧ (q.ticket n).state = .done ∧
                (q.ticket n).progress.outcome = some .complete ∧
                (q.ticket n).progress.endTime = some q.clock.partSeconds ∧
                (q.ticket n).progress.measured = (p.ticket n).progress.measured ∧
                q.loads.heaters[h].testDemand = false) ∧
            ((p.ticket n).request.seconds ≠ some p.loads.testSlots →
              q.pool.serviceSlot = some n ∧ q.loads.testSlots = p.loads.testSlots + 1 ∧
                q.loads.heaters[h].testDemand = p.loads.heaters[h].testDemand ∧
                (q.loads.heaters[h].demanded = true →
                  (q.ticket n).progress.measured =
                      counted q.loads.heaters[h].grant (p.ticket n).progress.measured ∧
                    (q.ticket n).progress.denied = counted (denied h) (p.ticket n).progress.denied)))))

/-- The trial order of a boundary: the candidate that the rotation entry of the slot names comes first, and then the others
in ascending number. A candidate is granted exactly when its watts and those of the candidates granted before it fit
the budget in force, so that the trial goes on past a denied one; nothing else is granted. So the candidate that the
entry names is granted whenever its watts are within the budget in force, and a candidate rated at 0 W always is (R54).
A demand that has just risen gives exactly D on-slots in each run of P boundaries, for D up to P, and the first of them
is an on-slot if D is 1 or more; with D of 0 there is none (R53). A raise of the one demand while the other is off sets
the accumulator to P − 1 and the denied count to 0, with no grant yet; a drop of the last demand clears grant and
on-slot flag at once; a drop while the other demand is on leaves them (R50, R56, R57). -/
def Obligations.PatternsDemandsAndTrials : Prop :=
  ((∀ (l : Loads) (n : HeaterNo),
     let before (m : HeaterNo) : Prop :=
       m ≠ n ∧ (l.rotation[l.slot] = some m ∨ l.rotation[l.slot] ≠ some n ∧ m < n)
     (n ∈ l.granted → l.heaters[n].demanded = true ∧ l.heaters[n].onSlot = true) ∧
       (l.heaters[n].demanded = true → l.heaters[n].onSlot = true →
         (n ∈ l.granted ↔
           l.heaters[n].inForce.watts +
               ((List.finRange 5).map fun m : HeaterNo =>
                 if m ∈ l.granted ∧ before m then l.heaters[m].inForce.watts else 0).sum ≤ l.budgetInForce))) ∧
   ∀ (l : Loads) (n : HeaterNo), l.heaters[n].candidate = true →
     (l.rotation[l.slot] = some n → l.heaters[n].inForce.watts ≤ l.budgetInForce → n ∈ l.granted) ∧
     (l.heaters[n].inForce.watts = 0 → n ∈ l.granted)) ∧
  (∀ h : Heater, h.demanded = true → 1 ≤ h.inForce.period → h.inForce.duty ≤ h.inForce.period →
     h.acc = h.inForce.period - 1 →
     let run (k : Nat) : Heater := Nat.iterate Heater.advance k h
     ((List.range h.inForce.period).countP fun k => (run (k + 1)).onSlot) = h.inForce.duty ∧
       (run h.inForce.period).acc = h.inForce.period - 1 ∧ (1 ≤ h.inForce.duty → (run 1).onSlot = true) ∧
       (h.inForce.duty = 0 → ∀ k, 1 ≤ k → (run k).onSlot = false)) ∧
  (∀ h : Heater,
     (h.ownerDemand = false → h.testDemand = false →
       h.raiseOwner = { h with ownerDemand := true, acc := h.inForce.period - 1, denied := 0 } ∧
       h.raiseTest = { h with testDemand := true, acc := h.inForce.period - 1, denied := 0 }) ∧
     (h.ownerDemand = true → h.testDemand = false →
       h.dropOwner = { h with ownerDemand := false, grant := false, onSlot := false } ∧
       h.raiseTest = { h with testDemand := true }) ∧
     (h.ownerDemand = false → h.testDemand = true →
       h.dropTest = { h with testDemand := false, grant := false, onSlot := false } ∧
       h.raiseOwner = { h with ownerDemand := true }) ∧
     (h.ownerDemand = true → h.testDemand = true →
       h.dropOwner = { h with ownerDemand := false } ∧ h.dropTest = { h with testDemand := false }))

/-! The Ticket Manager. -/

/-- A draw is granted exactly when the free count is at least the origin's threshold, 4 for LINK and ICE_MAKER, 2 for
PADDLE and 1 for DEFROST; it takes the head of the free list and writes the record, QUEUED with its progress cleared.
Where that leaves fewer than 4 free, the oldest records of the origins PADDLE, ICE_MAKER and DEFROST join the tail, as
many as there are up to 4 free (R14). A refused draw leaves the free list and adds 1 to its origin's starvation count,
up to 255 (R2, R7, R8, R9). Auto-retire takes the oldest records of the origins PADDLE, ICE_MAKER and DEFROST until the
free count is 4 or none is left: with no ticket twice in the completion queue (R13), exactly the first of them in queue
order leave it, as many as bring the free count to 4, and join the tail of the free list in that order, FREE and
emptied; COMPLETIONS_DROPPED is pending where one was taken; no other ticket, and nothing else of the pool but the
starvation count of a waiting ice maker, changes. It never takes a LINK record, and it keeps the order of those that
stay (R13, R14). The end of a ticket's work: it leaves its holder, takes its end time and outcome, becomes DONE at the
tail of the completion queue, and COMPLETION is pending; the others in the dispenser queue keep their order (R12).
Stated for a LINK ticket, which auto-retire never takes. -/
def Obligations.TicketsAreDrawnAndEnded : Prop :=
  (∀ (p : Part) (kind : TicketKind) (o : Origin) (tag : Option Byte) (r : Request),
     let threshold := match o with | .link => 4 | .iceMaker => 4 | .paddle => 2 | .defrost => 1
     let drawn := p.draw kind o tag r
     (∀ (n : TicketNo) (rest : List TicketNo), threshold ≤ p.pool.free.length → p.pool.free = n :: rest →
       drawn.1 = some n ∧ rest <+: drawn.2.pool.free ∧ (p.iceWants = none → drawn.2.pool.starvation = p.pool.starvation) ∧
       (n ∉ p.pool.completion → p.pool.completion.Nodup →
         drawn.2.pool.free =
           rest ++ (p.pool.completion.filter fun m => (p.ticket m).origin == some .paddle ||
             (p.ticket m).origin == some .iceMaker || (p.ticket m).origin == some .defrost).take (4 - rest.length)) ∧
       (n ∉ p.pool.completion →
         drawn.2.ticket n = { state := .queued, kind := some kind, origin := some o, tag := tag, request := r })) ∧
     (p.pool.free.length < threshold →
       drawn.1 = none ∧ drawn.2.pool.free = p.pool.free ∧ drawn.2.pool.tickets = p.pool.tickets ∧
       drawn.2.pool.starvation =
         (match o with
           | .link => { p.pool.starvation with link := min (p.pool.starvation.link + 1) 255 }
           | .paddle => { p.pool.starvation with paddle := min (p.pool.starvation.paddle + 1) 255 }
           | .iceMaker => { p.pool.starvation with iceMaker := min (p.pool.starvation.iceMaker + 1) 255 }
           | .defrost => { p.pool.starvation with defrost := min (p.pool.starvation.defrost + 1) 255 }))) ∧
  (∀ p : Part,
     let q := p.autoRetire
     let retired :=
       (p.pool.completion.filter fun n => (p.ticket n).origin == some .paddle || (p.ticket n).origin == some .iceMaker ||
         (p.ticket n).origin == some .defrost).take (4 - p.pool.free.length)
     (p.pool.completion.Nodup →
       q.pool.free = p.pool.free ++ retired ∧ q.pool.completion = (p.pool.completion.filter fun n => n ∉ retired) ∧
         (∀ n ∈ retired, q.ticket n = {}) ∧ (∀ n : TicketNo, n ∉ retired → q.ticket n = p.ticket n) ∧
         (∀ k : Notice, q.isPending k = true ↔ p.isPending k = true ∨ (k = .completionsDropped ∧ retired ≠ [])) ∧
         q.pool.queue = p.pool.queue ∧ q.pool.iceSlot = p.pool.iceSlot ∧ q.pool.defrostSlot = p.pool.defrostSlot ∧
         q.pool.serviceSlot = p.pool.serviceSlot) ∧
     (4 ≤ p.pool.free.length → q = p) ∧
     (p.pool.free.length < 4 →
       q.pool.free.length = 4 ∨ ∀ n ∈ q.pool.completion, (q.ticket n).origin ≠ some .paddle ∧
         (q.ticket n).origin ≠ some .iceMaker ∧ (q.ticket n).origin ≠ some .defrost) ∧
     q.pool.completion.Sublist p.pool.completion ∧ p.pool.free <+: q.pool.free ∧
     (∀ n ∈ p.pool.completion, (p.ticket n).origin = some .link → n ∈ q.pool.completion ∧ q.ticket n = p.ticket n)) ∧
  (∀ (p : Part) (n : TicketNo) (o : TicketOutcome), (p.ticket n).origin = some .link →
     let q := p.finish n o
     q.pool.queue = p.pool.queue.erase n ∧ q.pool.iceSlot ≠ some n ∧ q.pool.defrostSlot ≠ some n ∧
       q.pool.serviceSlot ≠ some n ∧ q.pool.completion = p.pool.completion ++ [n] ∧ (q.ticket n).state = .done ∧
       (q.ticket n).progress.endTime = some p.clock.partSeconds ∧ (q.ticket n).progress.outcome = some o ∧
       (q.ticket n).progress.startTime = (p.ticket n).progress.startTime ∧
       (∀ m : TicketNo, m ≠ n → q.ticket m = p.ticket m) ∧ q.pool.free = p.pool.free ∧ q.isPending .completion = true)

/-- SUBMIT: a payload of another length than 8 is BAD_LENGTH. Its fields are read as Table 9-7 lays them out, each optional
one only if its present bit is set, and judged as R18 gives: a kind that is not one of the six, a field that the kind
needs and that is absent, a field out of range, a field that the kind does not carry, and a reserved bit are refused
RANGE. Then STATE, QUEUE_FULL and NO_TICKET in that order; else the head of the free list becomes a LINK ticket with
the frame's tag and the request, at the tail of the dispenser queue, or in the service slot, ACTIVE, its heater's test
demand raised or the ejector driven (R17 to R20, R205). -/
def Obligations.SubmitPlacesALinkTicket : Prop :=
  (∀ (s : State) (dt : Nat) (tag : Byte) (payload : List Byte), s.linkIdle → payload.length ≤ 64 → payload.length ≠ 8 →
    Answers (.submit dt tag payload) s .badLength [] (s.heard (.submit dt tag payload))) ∧
  ∀ (s : State) (dt : Nat) (tag code present a1 a0 form flags load secs : Byte), s.linkIdle →
    let i : Instr := .submit dt tag [code, present, a1, a0, form, flags, load, secs]
    let q := s.heard i
    let k := code.toNat
    let has (j : Nat) : Bool := present.getLsbD j
    let amount := a1.toNat * 256 + a0.toNat
    let valid :=
      1 ≤ k ∧ k ≤ 6 ∧ present.toNat < 16 ∧ flags.toNat < 8 ∧ (has 0 = true ↔ k = 1 ∨ k = 3 ∨ k = 5) ∧
        ((k = 1 ∨ k = 5) → 10 ≤ amount ∧ amount ≤ 4000) ∧ (k = 3 → 1 ≤ amount ∧ amount ≤ 200) ∧
        (has 1 = true ↔ k = 3 ∨ k = 4) ∧ (has 1 = true → form.toNat ≤ 1) ∧ (has 2 = true ↔ k = 6) ∧
        (has 2 = true → load.toNat ≤ 7) ∧ (has 3 = true ↔ k = 6 ∧ load.toNat ≠ 5) ∧
        (has 3 = true → 1 ≤ secs.toNat ∧ secs.toNat ≤ 60) ∧ ((k = 3 ∨ k = 4) → flags.getLsbD 2 = false) ∧
        (k = 6 → flags.toNat = 0)
    let r : Request :=
      { amount := if has 0 then some amount else none
        form := if has 1 then some (if form = 0 then .cubed else .crushed) else none
        awaitPaddle := flags.getLsbD 0
        latch := flags.getLsbD 1
        coldOnly := flags.getLsbD 2
        load :=
          if has 2 then
            some (if h : load.toNat < 5 then .heater ⟨load.toNat, h⟩ else if load = 5 then .ejector
              else if load = 6 then .chute else .auger)
          else none
        seconds := if has 3 then some secs.toNat else none }
    (¬valid → Answers i s .range [] q) ∧
    ∀ kind : TicketKind, valid → kind.code = code →
      let water := k = 1 ∨ k = 2 ∨ k = 5
      let service := k = 6 ∧ load.toNat ≤ 5
      let ejector := k = 6 ∧ load.toNat = 5
      if (water ∧ q.line.leakLatch = true) ∨ (service ∧ q.pool.serviceSlot.isSome = true) ∨
          (ejector ∧ q.ice.state ≠ .parked) then Answers i s .state [] q
      else if ¬service ∧ 7 ≤ q.pool.queue.length then Answers i s .queueFull [] q
      else if q.pool.free.length < 4 then
        Answers i s .noTicket []
          { q with pool.starvation.link := min (q.pool.starvation.link + 1) 255 }
      else
        ∀ (n : TicketNo) (rest : List TicketNo), q.pool.free = n :: rest → n ∉ q.pool.completion →
          ∃ t : Part, Answers i s .ok [byte n.val] t.settle ∧
            (t.ticket n).kind = some kind ∧ (t.ticket n).origin = some .link ∧ (t.ticket n).tag = some tag ∧
            (t.ticket n).request = r ∧ rest <+: t.pool.free ∧
            (¬service → (t.ticket n).state = .queued ∧ t.pool.queue = q.pool.queue ++ [n] ∧
              t.pool.serviceSlot = q.pool.serviceSlot) ∧
            (service → (t.ticket n).state = .active ∧ (t.ticket n).progress.startTime = some q.clock.partSeconds ∧
              t.pool.serviceSlot = some n ∧ t.pool.queue = q.pool.queue) ∧
            (∀ h : HeaterNo, service → load.toNat = h.val → t.loads.heaters[h].testDemand = true) ∧
            (ejector → t.ice.ejector = true ∧ t.ice.state = .parked ∧
              t.ice.returnDeadline = some (q.clock.now + q.supervision.params.ejectLimit * 1000000))

/-- CANCEL by the cases of R21 in order. A number above 23 is RANGE; a FREE or DONE ticket NOT_FOUND; a ticket of the ice
maker or the defrost, or a STOPPING one, STATE. A ticket behind the head, or at the head of an IDLE outlet, is DONE
CANCELLED at once and the others keep their order. A head at work is stopped at its stage as R140 gives: in LINE_WAIT
the claim is withdrawn and the ticket DONE; in OPENING the outlet enters CLOSING; a water head in RUNNING or PAUSED
releases the line; an ice head or auger test enters STOPPING with the flap held; a chute test enters CLOSING. A test in
the service slot ends at once, a heater's demand or the ejector with it; an ejector test that leaves its switch
RELEASED sets the off-home flag, a change that is due counting (R118); a flag that is set already stays (log 29).
Stated for a LINK ticket, or one of a paddle while 4 tickets are free, so that it is not retired at once. An ejector
test in PARKED: its switch leaving home meets step 1, and coming back to MADE then is the success, which releases the
ejector, clears the off-home flag and ends the test COMPLETE with the whole seconds driven. A deadline that passes
first is the failure: the test ends STALL and the ice maker enters FAULT, with ICE_FAULT; there is no retry (R117).
Stock, mold and freeze start stay. How long a level counts as having stood is the model's reading (log 9). -/
def Obligations.CancelStopsATicket : Prop :=
  (∀ (s : State) (dt : Nat) (tag b : Byte), s.linkIdle →
     let i : Instr := .cancel dt tag [b]
     let q := s.heard i
     (23 < b.toNat → Answers i s .range [] q) ∧
     ∀ n : TicketNo, b.toNat = n.val →
       let t := q.ticket n
       if t.state = .free ∨ t.state = .done then Answers i s .notFound [] q
       else if t.origin = some .iceMaker ∨ t.origin = some .defrost then Answers i s .state [] q
       else if t.state = .stopping then Answers i s .state [] q
       else
         let kept := t.origin = some .link ∨ 4 ≤ q.pool.free.length
         let water := t.kind = some .waterPortion ∨ t.kind = some .waterHold ∨ t.kind = some .flush
         let chute := t.kind = some .loadTest ∧ t.request.load = some .chute
         let auger := t.kind = some .loadTest ∧ t.request.load = some .auger
         let ice := t.kind = some .icePortion ∨ t.kind = some .iceHold
         let runs := q.outlet.state = .running ∨ q.outlet.state = .paused
         let ended (u : Part) : Prop :=
           (u.ticket n).state = .done ∧ (u.ticket n).progress.outcome = some .cancelled ∧
             u.pool.completion = q.pool.completion ++ [n] ∧
             (u.ticket n).progress.startTime = t.progress.startTime
         let stops (u : Part) : Prop :=
           (u.ticket n).state = .stopping ∧ u.outlet.ending = some .cancelled ∧ u.outlet.pauseEnd = none ∧
             u.pool.queue = q.pool.queue ∧ u.pool.completion = q.pool.completion
         let closes (u : Part) : Prop :=
           u.outlet.state = .closing ∧ u.outlet.flap = .closing ∧ u.outlet.flapOpenOut = false ∧
             u.outlet.flapCloseOut = true ∧ u.outlet.flapDeadline = some (q.clock.now + 1500000)
         let stands : Option Contact :=
           if q.sense.homePin.level.isSome ∧ q.sense.homePin.since + 10000 ≤ q.clock.now then q.sense.homePin.level
           else q.sense.home
         ∃ u : Part, Answers i s .ok [] u.settle ∧
           (kept → n ∈ q.pool.queue → (q.pool.queue.head? ≠ some n ∨ q.outlet.state = .idle) →
             u.pool.queue = q.pool.queue.erase n ∧ ended u) ∧
           (q.pool.queue.head? = some n →
             (q.outlet.state = .lineWait → kept →
               ended u ∧ u.line = { q.line with dispenseClaim := none } ∧ u.outlet.state = .idle ∧
                 u.pool.queue = q.pool.queue.tail) ∧
             (q.outlet.state = .opening → stops u ∧ closes u) ∧
             (runs → water → (q.line.state = .opened ∨ q.line.state = .held) → q.line.owner = some .dispense →
               stops u ∧ u.outlet.state = .stopping ∧ u.line.state = .settle ∧
                 u.line.ending = some (.release .cancelled) ∧ u.line.inlet = false ∧ u.line.dispense = false ∧
                 u.line.settleEnd = some (q.clock.now + 500000)) ∧
             (runs → ice ∨ auger →
               let ms := q.outlet.run.forward.read q.clock.now / 1000
               let cubes := ms * q.supervision.params.augerRate / 10000
               stops u ∧ u.outlet.state = .stopping ∧ u.outlet.augerForward = false ∧ u.outlet.augerReverse = false ∧
                 u.outlet.crusher = false ∧
                 u.outlet.holdEnd = some (q.clock.now + q.supervision.params.chuteHold * 1000000) ∧
                 (u.ticket n).progress.measured = min (if auger then ms / 1000 else cubes) 65535 ∧
                 u.ice.stock = q.ice.stock - cubes) ∧
             (runs → chute →
               stops u ∧ closes u ∧
                 (u.ticket n).progress.measured = min (q.outlet.run.hold.read q.clock.now / 1000000) 65535)) ∧
           (t.origin = some .link → n ∉ q.pool.queue → q.pool.serviceSlot = some n →
             u.pool.serviceSlot = none ∧ (u.ticket n).state = .done ∧
               (u.ticket n).progress.outcome = some .cancelled ∧
               (∀ h : HeaterNo, t.kind = some .loadTest → t.request.load = some (.heater h) →
                 u.loads.heaters[h].testDemand = false) ∧
               (t.request.load = some .ejector →
                 u.ice.ejector = false ∧ u.ice.returnDeadline = none ∧ u.ice.state = q.ice.state ∧
                   u.ice.offHome = (if stands = some .released then true else q.ice.offHome) ∧
                   (∀ start : Nat, q.ice.testFrom = some start →
                     (u.ticket n).progress.measured = min ((q.clock.now - start) / 1000000) 65535)))) ∧
  (∀ (s : State) (dt start : Nat) (n : TicketNo), s.part.resetting = none → s.part.ice.state = .parked →
     let p := s.later dt
     let t := p.ticket n
     p.pool.serviceSlot = some n → t.request.load = some .ejector → t.origin = some .link →
     p.ice.testFrom = some start →
     let ended (o : TicketOutcome) (q : Part) : Prop :=
       q.pool.serviceSlot = none ∧ (q.ticket n).state = .done ∧ (q.ticket n).progress.outcome = some o ∧
         (q.ticket n).progress.measured = min ((p.clock.now - start) / 1000000) 65535 ∧ q.ice.ejector = false ∧
         q.ice.returnDeadline = none ∧ q.ice.leaveDeadline = none ∧ q.ice.stock = p.ice.stock ∧
         q.ice.moldLoaded = p.ice.moldLoaded ∧ q.ice.freezeStart = p.ice.freezeStart ∧ q.ice.attempts = 0
     (p.ice.returnDeadline.isSome = true → p.sense.home = some .made →
       p.sense.homePin.stood p.clock.now 10000 .released →
       ∃ q : Part, Becomes (.homeSwitchChange dt .released) s q.settle ∧ q.ice.leftHome = true ∧
         q.ice.leaveDeadline = none ∧ q.ice.state = .parked ∧ q.ice.ejector = p.ice.ejector ∧ q.pool = p.pool) ∧
     (p.ice.returnDeadline.isSome = true → p.ice.leftHome = true → p.ice.attempts = 0 → p.sense.home = some .released →
       p.sense.homePin.stood p.clock.now 10000 .made →
       ∃ q : Part, Becomes (.homeSwitchChange dt .made) s q.settle ∧ ended .complete q ∧ q.ice.offHome = false ∧
         q.ice.state = .parked) ∧
     (∀ (i : Instr) (e : Nat), e ≤ p.clock.now →
       ((i = .leaveHomeDeadline dt ∧ p.ice.leaveDeadline = some e) ∨
         (i = .ejectReturnDeadline dt ∧ p.ice.returnDeadline = some e)) →
       ∃ q : Part, Becomes i s q.settle ∧ ended .stall q ∧ q.ice.state = .fault ∧ q.defrost.iceCopy = .fault ∧
         q.isPending .iceFault = true))

/-- FETCH of 1 to 3: up to that many records leave the head of the completion queue, oldest first, their tickets join the
tail of the free list in that order and are emptied, and the reply carries their number and their 20-byte records.
Another count is refused RANGE (R23, R206). A record is laid out as Table 9-8: the ticket number, kind, origin, tag or
0, outcome, the five flags from bit 0 up, the requested amount (or the seconds of a LOAD_TEST, or 0), the measured
amount, the start and end times, an absent one FFFFFFFFH, and the Extra field by kind: the overshoot of a
WATER_PORTION, FLUSH or MOLD_FILL, the tank temperature of a WATER_HOLD, an absent one 8000H, the denied slots of a
HARVEST, a DEFROST_CYCLE or a LOAD_TEST on a heater, 0 for the others; each field with its most significant byte first,
the codes those of Table 9-6 (R15, R204). -/
def Obligations.FetchTakesTheOldest : Prop :=
  (∀ (s : State) (dt : Nat) (tag c : Byte), s.linkIdle →
    let i : Instr := .fetch dt tag [c]
    let q := s.heard i
    let two (k : Nat) : List Byte := [byte (k / 256), byte k]
    let time (k : Option Nat) : List Byte :=
      match k with
      | none => [0xFF, 0xFF, 0xFF, 0xFF]
      | some u => [byte (u / 16777216), byte (u / 65536), byte (u / 256), byte u]
    let extra (r : Request) (g : Progress) (k : TicketKind) : List Byte :=
      match k, r.load with
      | .waterPortion, _ | .flush, _ | .moldFill, _ => two g.overshoot
      | .waterHold, _ =>
        (match g.tankTemp with
          | none => [0x80, 0x00]
          | some u => [(BitVec.ofInt 16 u).extractLsb' 8 8, (BitVec.ofInt 16 u).extractLsb' 0 8])
      | .harvest, _ | .defrostCycle, _ | .loadTest, some (.heater _) => two g.denied
      | _, _ => [0, 0]
    let record (n : TicketNo) : List Byte :=
      let r := (q.ticket n).request
      let g := (q.ticket n).progress
      [byte n.val, ((q.ticket n).kind.map (·.code)).getD 0xFF, ((q.ticket n).origin.map (·.code)).getD 0xFF,
        (q.ticket n).tag.getD 0, (g.outcome.map (·.code)).getD 0xFF,
        flagsByte [(q.ticket n).tag.isSome, g.paddleStarted, g.starved, g.sensor, g.ungranted]] ++
        two ((r.amount.or r.seconds).getD 0) ++ two g.measured ++ time g.startTime ++ time g.endTime ++
        (((q.ticket n).kind.map (extra r g)).getD [0, 0])
    ((c.toNat < 1 ∨ 3 < c.toNat) → Answers i s .range [] q) ∧
    (1 ≤ c.toNat → c.toNat ≤ 3 → q.pool.completion.Nodup →
      let taken := q.pool.completion.take c.toNat
      ∃ t : Part,
        Answers i s .ok (byte taken.length :: taken.flatMap record) t.settle ∧
        t.pool.completion = q.pool.completion.drop c.toNat ∧ t.pool.free = q.pool.free ++ taken ∧
        (∀ n ∈ taken, t.ticket n = {}) ∧ (∀ n : TicketNo, n ∉ taken → t.ticket n = q.ticket n)) ∧
    (∀ n : TicketNo, (record n).length = 20)) ∧
  (∀ a b c d e : Bool, (flagsByte [a, b, c, d, e]).toNat =
    a.toNat + 2 * b.toNat + 4 * c.toNat + 8 * d.toNat + 16 * e.toNat) ∧
  ([.waterPortion, .waterHold, .icePortion, .iceHold, .flush, .loadTest, .moldFill, .harvest, .defrostCycle].map
    TicketKind.code = [1, 2, 3, 4, 5, 6, 7, 8, 9]) ∧
  ([.link, .paddle, .iceMaker, .defrost].map Origin.code = [0, 1, 2, 3]) ∧
  ([.complete, .released, .cancelled, .doorOpen, .noWater, .timeout, .leak, .jam, .chuteFault, .warm, .linkLost, .sensor,
    .stall, .heatLimit, .aborted, .parked].map TicketOutcome.code = (List.range 16).map byte)

/-- TICKET_INFO of a number above 23 is refused RANGE and of a FREE ticket NOT_FOUND; of any other it answers the record as
it stands and changes nothing in the pool (R24): number, kind, origin, tag or 0, and state; the place, code 0 for the
dispenser queue with the position from 1 at the head, 1 to 3 for the ice maker, defrost and service slots, 4 for the
completion queue with the position from 1 at the oldest; the request fields as bytes 1 to 7 of Table 9-7; the progress
fields in the order of Table 1-3; and whether the suspended-fill record names it (R15, R204, R205, R208). That a slot
gives FFH as the position, and that the bytes of an absent amount are a free value, is the model's choice (log 15).
POOL_STATUS answers the counts as they stand, an empty slot as FFH, and with its clear flag sets the four starvation
counts to 0 and changes nothing else (R25, R208). -/
def Obligations.PoolIsShown : Prop :=
  ((∀ (s : State) (dt : Nat) (tag b : Byte), s.linkIdle →
     let i : Instr := .ticketInfo dt tag [b]
     let q := s.heard i
     let two (k : Nat) : List Byte := [byte (k / 256), byte k]
     let time (k : Option Nat) : List Byte :=
       match k with
       | none => [0xFF, 0xFF, 0xFF, 0xFF]
       | some u => [byte (u / 16777216), byte (u / 65536), byte (u / 256), byte u]
     let temp (k : Option Int) : List Byte :=
       match k with
       | none => [0x80, 0x00]
       | some u => [(BitVec.ofInt 16 u).extractLsb' 8 8, (BitVec.ofInt 16 u).extractLsb' 0 8]
     let bit (c : Bool) : Byte := if c then 1 else 0
     (23 < b.toNat → Answers i s .range [] q) ∧
     ∀ n : TicketNo, b.toNat = n.val →
       let t := q.ticket n
       let r := t.request
       let g := t.progress
       (t.state = .free → Answers i s .notFound [] q) ∧
       (t.state ≠ .free →
         ∃ (place amount : List Byte),
           Answers i s .ok
             ([byte n.val, (t.kind.map (·.code)).getD 0xFF, (t.origin.map (·.code)).getD 0xFF, t.tag.getD 0,
                 t.state.code] ++
               place ++ [flagsByte [r.amount.isSome, r.form.isSome, r.load.isSome, r.seconds.isSome]] ++ amount ++
               [(r.form.map fun f => if f = .cubed then 0 else 1).getD 0xFF,
                 flagsByte [r.awaitPaddle, r.latch, r.coldOnly], (r.load.map (·.code)).getD 0xFF,
                 (r.seconds.map byte).getD 0xFF] ++
               ([bit g.paddleStarted] ++ two g.measured ++ time g.startTime ++ time g.endTime ++
                 [(g.outcome.map (·.code)).getD 0xFF] ++ two g.denied ++ two g.overshoot ++ temp g.tankTemp ++
                 [bit g.starved, bit g.sensor, bit g.ungranted]) ++
               [bit (q.line.suspended.any fun w => w.ticket == n)])
             { q with freeCount := q.freeCount + 1 } ∧
           amount.length = 2 ∧ (∀ a : Nat, r.amount = some a → amount = two a) ∧
           (n ∈ q.pool.queue → place = [0, byte (q.pool.queue.idxOf n + 1)]) ∧
           (n ∉ q.pool.queue →
             (q.pool.iceSlot = some n → place = [1, 0xFF]) ∧
             (q.pool.iceSlot ≠ some n →
               (q.pool.defrostSlot = some n → place = [2, 0xFF]) ∧
               (q.pool.defrostSlot ≠ some n →
                 (q.pool.serviceSlot = some n → place = [3, 0xFF]) ∧
                 (q.pool.serviceSlot ≠ some n → n ∈ q.pool.completion →
                   place = [4, byte (q.pool.completion.idxOf n + 1)])))))) ∧
   ([.free, .queued, .active, .stopping, .done].map TicketState.code = [0, 1, 2, 3, 4]) ∧
   ([.heater 0, .heater 1, .heater 2, .heater 3, .heater 4, .ejector, .chute, .auger].map Load.code =
     [0, 1, 2, 3, 4, 5, 6, 7])) ∧
  (∀ (s : State) (dt : Nat) (tag c : Byte), s.linkIdle →
     let i : Instr := .poolStatus dt tag [c]
     let q := s.heard i
     let data : List Byte :=
       [byte q.pool.free.length, byte q.pool.queue.length, byte q.pool.completion.length,
         byte (q.pool.completion.countP fun n => (q.ticket n).origin == some .link), optTicket q.pool.iceSlot,
         optTicket q.pool.defrostSlot, optTicket q.pool.serviceSlot, byte q.pool.starvation.link,
         byte q.pool.starvation.paddle, byte q.pool.starvation.iceMaker, byte q.pool.starvation.defrost]
     (c.getLsbD 0 = false → Answers i s .ok data q) ∧
     (c.getLsbD 0 = true →
       Answers i s .ok data { q with pool.starvation := { link := 0, paddle := 0, iceMaker := 0, defrost := 0 } }))

/-- The waiting ice maker draws when the pool can grant it: in FILL_WAIT a MOLD_FILL, which enters its slot QUEUED and
makes a fill claim; in HARVEST_WAIT, with the beam NOT FULL, room in the stock estimate and the defrost out of PREP,
HEATING and DWELL, a HARVEST, which is ACTIVE at once with H2 demanded in HARVEST_HEAT (R10, R98, R102, R104). -/
def Obligations.IceMakerDrawsWhenItCan : Prop :=
  ∀ (s : State) (dt : Nat) (n : TicketNo) (rest : List TicketNo), s.part.resetting = none →
    let p := s.later dt
    p.pool.free = n :: rest → 4 ≤ p.pool.free.length → n ∉ p.pool.completion → p.pool.iceSlot = none →
    (p.ice.state = .fillWait →
      ∃ q : Part, Becomes (.internalRedraw dt) s q.settle ∧ q.pool.iceSlot = some n ∧ q.line.fillClaim = some n ∧
        (q.ticket n).kind = some .moldFill ∧ (q.ticket n).origin = some .iceMaker ∧ (q.ticket n).state = .queued ∧
        q.ice = p.ice ∧ q.loads = p.loads) ∧
    (p.ice.state = .harvestWait → p.sense.beam = .notFull → p.ice.stock < p.supervision.params.binCapacity →
      p.ice.defrostCopy ≠ .prep → p.ice.defrostCopy ≠ .heating → p.ice.defrostCopy ≠ .dwell →
      ∃ q : Part, Becomes (.harvestStart dt) s q.settle ∧ q.ice.state = .harvestHeat ∧ q.defrost.iceCopy = .harvestHeat ∧
        q.pool.iceSlot = some n ∧ (q.ticket n).kind = some .harvest ∧ (q.ticket n).state = .active ∧
        (q.ticket n).progress.startTime = some p.clock.partSeconds ∧
        (q.ticket n).progress.sensor = p.ice.notedSensor ∧ q.ice.notedSensor = false ∧ q.ice.attempts = 0 ∧
        q.ice.heatStart = some p.clock.partSeconds ∧ q.loads.heaters[(2 : HeaterNo)].ownerDemand = true ∧
        q.line = p.line)

/-! The Water Line Controller. -/

/-- CLEAR_LEAK clears the leak latch, the leak time and the leak list, and gives an IDLE line with supply OK to the waiting
fill before the reply (R87). The end of DRY_RETRY, and not before, makes the supply OK and gives an IDLE line with the
leak latch clear to the waiting fill claim (R69, R84). -/
def Obligations.LineFreesTheWaitingFill : Prop :=
  (∀ (s : State) (dt : Nat) (tag : Byte), s.linkIdle →
     let i : Instr := .clearLeak dt tag []
     let q := s.heard i
     ∃ t : Part, Answers i s .ok [] t.settle ∧ t.line.leakLatch = false ∧ t.line.leakTime = none ∧ t.line.leakList = [] ∧
       (∀ n : TicketNo, q.line.fillClaim = some n → q.line.suspended = none → q.line.state = .idle →
         q.line.supply = .ok →
         t.line.owner = some .fill ∧ t.line.state = .opened ∧ t.line.inlet = true ∧ t.line.moldFill = true ∧
           (t.ticket n).state = .active ∧ t.ice.state = .filling) ∧
       (∀ w : Work, q.line.suspended = some w → q.line.state = .idle → q.line.supply = .ok →
         w.target.any (· ≤ w.pulses) = false →
         t.line.owner = some .fill ∧ t.line.state = .opened ∧ t.line.suspended = none) ∧
       (q.line.fillClaim = none → q.line.suspended = none →
         t = { q with line := { q.line with leakLatch := false, leakTime := none, leakList := [] } })) ∧
  (∀ (s : State) (dt e : Nat), s.part.resetting = none →
     let p := s.later dt
     p.line.dryRetry = some e →
     (p.clock.now < e → Becomes (.dryRetryEnd dt) s p) ∧
     (e ≤ p.clock.now →
       ∃ q : Part, Becomes (.dryRetryEnd dt) s q.settle ∧ q.line.supply = .ok ∧ q.line.dryRetry = none ∧
         (∀ n : TicketNo, p.line.state = .idle → p.line.leakLatch = false → p.line.suspended = none →
           p.line.fillClaim = some n → q.line.owner = some .fill ∧ q.line.state = .opened ∧ q.ice.state = .filling) ∧
         (p.line.state ≠ .idle → q = { p with line.supply := .ok, line.dryRetry := none })))

/-- FILTER_RESET sets the filter volume, its remainder and the filter seconds to 0 and the status to GOOD; a pending
FILTER_DUE stays, and nothing else changes. RESTORE_TOTALS replaces the filter volume, the filter seconds and the frost
credit by the values carried and clears the remainder, in every line state; the status is judged anew, and a change to
DUE sets FILTER_DUE (R89, R91). -/
def Obligations.FilterTotalsAreReset : Prop :=
  (∀ (s : State) (dt : Nat) (tag : Byte), s.linkIdle →
     Answers (.filterReset dt tag []) s .ok []
       { s.heard (.filterReset dt tag []) with
         line.filterMl := 0
         line.filterRem := 0
         line.filterSeconds := 0
         line.filterStatus := .good }) ∧
  (∀ (s : State) (dt : Nat) (tag v3 v2 v1 v0 s3 s2 s1 s0 c1 c0 : Byte), s.linkIdle →
     let i : Instr := .restoreTotals dt tag [v3, v2, v1, v0, s3, s2, s1, s0, c1, c0]
     let q := s.heard i
     let ps := q.supervision.params
     ∃ t : Part, Answers i s .ok [] t.settle ∧
       t.line.filterMl = (v3 ++ v2 ++ v1 ++ v0 : BitVec 32).toNat ∧
       t.line.filterSeconds = (s3 ++ s2 ++ s1 ++ s0 : BitVec 32).toNat ∧ t.line.filterRem = 0 ∧
       t.defrost.credit = (c1 ++ c0 : BitVec 16).toNat ∧ t.defrost.compressorSeconds = 0 ∧ t.defrost.doorSeconds = 0 ∧
       t.line.filterStatus =
         (if ps.filterLimitL * 1000 ≤ t.line.filterMl ∨ ps.filterLimitDays * 86400 ≤ t.line.filterSeconds then .due
          else if ps.filterLimitL * 900 ≤ t.line.filterMl ∨ ps.filterLimitDays * 77760 ≤ t.line.filterSeconds then .soon
          else .good) ∧
       (q.line.filterStatus ≠ .due → t.line.filterStatus = .due → t.isPending .filterDue = true) ∧
       (q.defrost.state = .accruing → q.defrost.target ≤ t.defrost.credit → t.defrost.state = .wanted))

/-- Every flow pulse is counted and adds 1000 to the filter remainder; it is credited by the line state: in OPEN to the
work, which restarts the no-flow time and makes the supply OK; in HELD to the work, the line staying HELD with its
owner below the target; in SETTLE to the closing work or the suspended fill, with no target check; in IDLE it is a leak
pulse, and the LEAK_PULSES-th within LEAK_WINDOW sets the latch with its time and LEAK. A target reached in OPEN or
HELD closes the valves (R44, R68, R77, R85, R86, R88). The flow period becomes the time since the pulse before, if that
is at most 2,000,000 µs, and none after a longer time or at the first pulse since the reset (R45). -/
def Obligations.FlowPulsesAreCredited : Prop :=
  ∀ (s : State) (dt : Nat), s.part.resetting = none →
    let p := s.later dt
    let recent := (p.line.leakList.filter fun t => p.clock.now ≤ t + p.supervision.params.leakWindow * 1000000) ++
      [p.clock.now]
    ∃ q : Part, Becomes (.flowPulse dt) s q.settle ∧
      q.sense.flowCount = p.sense.flowCount + 1 ∧ q.sense.lastFlow = some p.clock.now ∧
      q.sense.flowPeriod =
        (match p.sense.lastFlow with
          | none => none
          | some before => if p.clock.now - before ≤ 2000000 then some (p.clock.now - before) else none) ∧
      (p.line.filterMl < 4000000000 → p.supervision.params.flowK ≤ 5000 → 1 ≤ p.supervision.params.flowK →
        p.line.filterRem < p.supervision.params.flowK →
        q.line.filterMl * p.supervision.params.flowK + q.line.filterRem =
          p.line.filterMl * p.supervision.params.flowK + p.line.filterRem + 1000 ∧
        q.line.filterRem < p.supervision.params.flowK) ∧
      (∀ w : Work, p.line.work = some w → p.line.state = .opened →
        q.line.supply = .ok ∧ q.line.dryRetry = none ∧
        (∃ w', q.line.work = some w' ∧ w'.pulses = w.pulses + 1 ∧ w'.ticket = w.ticket ∧ w'.target = w.target ∧
          w'.noFlowFrom = p.clock.now) ∧
        (w.target.any (· ≤ w.pulses + 1) = false → q.line.state = .opened ∧ q.line.owner = p.line.owner)) ∧
      (∀ w : Work, p.line.work = some w → p.line.state = .held →
        q.line.supply = p.line.supply ∧
        (∃ w', q.line.work = some w' ∧ w'.pulses = w.pulses + 1 ∧ w'.ticket = w.ticket ∧ w'.target = w.target ∧
          w'.noFlowFrom = w.noFlowFrom) ∧
        (w.target.any (· ≤ w.pulses + 1) = false →
          q.line.state = .held ∧ q.line.owner = p.line.owner ∧ q.line.work = some { w with pulses := w.pulses + 1 } ∧
            q.line.inlet = p.line.inlet ∧ q.line.dispense = p.line.dispense ∧ q.pool = p.pool)) ∧
      (∀ (w : Work) (u : LineUser), p.line.work = some w → p.line.owner = some u →
        (p.line.state = .opened ∨ p.line.state = .held) → w.target.any (· ≤ w.pulses + 1) = true →
        q.line.state = .settle ∧ q.line.inlet = false ∧ q.line.moldFill = false ∧ q.line.dispense = false ∧
          q.line.ending = some .target ∧ q.line.closingOwner = some u ∧
          q.line.settleEnd = some (p.clock.now + 500000)) ∧
      (∀ w : Work, p.line.work = some w → p.line.state = .settle →
        q.line.work = some { w with pulses := w.pulses + 1 } ∧ q.line.state = .settle ∧
          q.line.ending = p.line.ending ∧ q.line.settleEnd = p.line.settleEnd) ∧
      (∀ w : Work, p.line.work = none → p.line.closingOwner = some .fill → p.line.suspended = some w →
        p.line.state = .settle → q.line.suspended = some { w with pulses := w.pulses + 1 }) ∧
      (p.line.state = .idle → p.line.leakLatch = false →
        if p.supervision.params.leakPulses ≤ recent.length then
          q.line.leakLatch = true ∧ q.line.leakTime = some p.clock.partSeconds ∧ q.line.leakList = [] ∧
            q.isPending .leak = true
        else q.line.leakLatch = false ∧ q.line.leakList = recent) ∧
      (p.line.state = .idle → p.line.leakLatch = true → q.line.leakList = p.line.leakList)

/-- A line that is IDLE is granted: to a waiting dispense claim whatever the supply; else, with supply OK and the leak
latch clear, to the waiting fill claim. The grant opens the user's valve and the inlet, writes a new work record and
empties the leak list; with the freezer door OPEN a dispense is paused at once; a fill makes its ticket ACTIVE, the ice
maker FILLING and H3 demanded (R69, R70, R71, R98). A suspended fill on an IDLE line with supply OK and the leak latch
clear: it resumes with its ticket, pulses and target and its no-flow time from 0; if its pulses already reach its
target it goes to a new SETTLE of 500 ms that ends it by TARGET, with the valves closed (R74). -/
def Obligations.GrantsOpenTheLine : Prop :=
  (∀ (s : State) (dt : Nat) (n : TicketNo), s.part.resetting = none → (s.later dt).line.state = .idle →
     let p := s.later dt
     let opened (u : LineUser) (target : Option Nat) (q : Part) : Prop :=
       q.line.owner = some u ∧ q.line.inlet = true ∧ q.line.state = .opened ∧ q.line.leakList = [] ∧
         q.line.work =
           some { ticket := n, pulses := 0, target := target, openTime := { counted := 0, since := some p.clock.now },
                  noFlowFrom := p.clock.now } ∧
         (q.ticket n).state = .active ∧ (q.ticket n).progress.startTime = some p.clock.partSeconds
     (p.line.dispenseClaim = some n → p.sense.door = some .closed →
       ∃ q : Part, Becomes (.lineGrant dt) s q.settle ∧ q.line.dispense = true ∧ q.line.moldFill = false ∧
         q.line.dispenseClaim = none ∧ q.outlet.state = .running ∧
         opened .dispense
           ((p.ticket n).request.amount.map fun ml => (2 * (ml * p.supervision.params.flowK) + 1000) / 2000) q) ∧
     (p.line.dispenseClaim = some n → p.sense.door = some .opened →
       ∃ q : Part, Becomes (.lineGrant dt) s q.settle ∧ q.line.state = .held ∧ q.line.owner = some .dispense ∧
         q.line.inlet = false ∧ q.line.dispense = false ∧ q.line.dispenseClaim = none ∧ q.outlet.state = .paused ∧
         (q.ticket n).state = .active) ∧
     (p.line.dispenseClaim = none → p.line.suspended = none → p.line.fillClaim = some n → p.line.supply = .ok →
       p.line.leakLatch = false →
       ∃ q : Part, Becomes (.lineGrant dt) s q.settle ∧ q.line.moldFill = true ∧ q.line.dispense = false ∧
         q.line.fillClaim = none ∧ q.ice.state = .filling ∧ q.loads.heaters[(3 : HeaterNo)].ownerDemand = true ∧
         opened .fill
           (some ((2 * (p.supervision.params.fillVolume * p.supervision.params.flowK) + 1000) / 2000)) q)) ∧
  (∀ (s : State) (dt : Nat) (w : Work), s.part.resetting = none →
     let p := s.later dt
     p.line.suspended = some w → p.line.state = .idle → p.line.supply = .ok → p.line.leakLatch = false →
     ∃ q : Part, Becomes (.fillResume dt) s q.settle ∧ q.line.suspended = none ∧
       (w.target.any (· ≤ w.pulses) = false →
         q.line.state = .opened ∧ q.line.owner = some .fill ∧ q.line.inlet = true ∧ q.line.moldFill = true ∧
           q.line.dispense = false ∧
           ∃ w', q.line.work = some w' ∧ w'.ticket = w.ticket ∧ w'.pulses = w.pulses ∧ w'.target = w.target ∧
             w'.openTime.read p.clock.now = w.openTime.read p.clock.now ∧ w'.noFlowFrom = p.clock.now) ∧
       (w.target.any (· ≤ w.pulses) = true →
         q.line.state = .settle ∧ q.line.closingOwner = some .fill ∧ q.line.ending = some .target ∧
           q.line.inlet = false ∧ q.line.moldFill = false ∧ q.line.work = some w ∧
           q.line.settleEnd = some (p.clock.now + 500000)))

/-- The open time at its limit and a no-flow time at NO_FLOW_WINDOW close the valves in OPEN and begin a SETTLE of 500 ms
with their ending reasons; no flow also makes the supply DRY, starts DRY_RETRY and sets LINE_DRY. Before the limit, or
outside OPEN, nothing but time passes (R82, R83). -/
def Obligations.LineLimitsCloseTheValves : Prop :=
  ∀ (s : State) (dt : Nat) (u : LineUser) (w : Work), s.part.resetting = none →
    let p := s.later dt
    let ps := p.supervision.params
    let closed (reason : EndingReason) (q : Part) : Prop :=
      q.line.inlet = false ∧ q.line.moldFill = false ∧ q.line.dispense = false ∧ q.line.state = .settle ∧
        q.line.owner = none ∧ q.line.closingOwner = some u ∧ q.line.ending = some reason ∧
        q.line.settleEnd = some (p.clock.now + 500000) ∧
        ∃ w', q.line.work = some w' ∧ w'.ticket = w.ticket ∧ w'.pulses = w.pulses ∧ w'.target = w.target
    let limit := match u with | .fill => ps.fillOpenLimit | .dispense => ps.dispenseOpenLimit
    p.line.owner = some u → p.line.work = some w →
    (p.line.state = .opened → limit * 1000000 ≤ w.openTime.read p.clock.now →
      ∃ q : Part, Becomes (.openTimeLimit dt) s q.settle ∧ closed .timeout q ∧ q.line.supply = p.line.supply ∧
        (u = .fill → ∀ n : TicketNo, p.pool.iceSlot = some n → (q.ticket n).state = .stopping) ∧
        (u = .dispense → q.outlet.state = .stopping ∧
          ∀ n : TicketNo, p.pool.queue.head? = some n → (q.ticket n).state = .stopping)) ∧
    (p.line.state = .opened → w.openTime.read p.clock.now < limit * 1000000 → Becomes (.openTimeLimit dt) s p) ∧
    (p.line.state ≠ .opened → Becomes (.openTimeLimit dt) s p) ∧
    (p.line.state = .opened → w.noFlowFrom + ps.noFlowWindow * 1000000 ≤ p.clock.now →
      ∃ q : Part, Becomes (.noFlowExpiry dt) s q.settle ∧ closed .noWater q ∧ q.line.supply = .dry ∧
        q.line.dryRetry = some (p.clock.now + ps.dryRetry * 1000000) ∧ q.isPending .lineDry = true) ∧
    (p.line.state = .opened → p.clock.now < w.noFlowFrom + ps.noFlowWindow * 1000000 → Becomes (.noFlowExpiry dt) s p) ∧
    (p.line.state ≠ .opened → Becomes (.noFlowExpiry dt) s p)

/-- The end of a line SETTLE of 500 ms, and not before: the closing work's ticket takes its measured amount and overshoot
and is DONE with the outcome of the ending reason (R79, R80). The end of a fill drops H3, marks the mold loaded with
the freeze start if its pulses are at least half the target, credits FILL_WEIGHT in ACCRUING, WANTED and DEFERRED for
COMPLETE, and takes the ice maker to PARKED, FREEZING or FILL_WAIT by Table 5-2 (R99, R114, R149). The line is then
given to a waiting dispense claim, else, with supply OK and the leak latch clear, to a suspended fill or to a waiting
fill claim, else to nobody, and becomes IDLE (R72). Stated for the last ticket of the queue, a LINK one, and for a fill
with 4 tickets free, whose ticket is not retired at once; for a fill and for a SETTLE without a work also where, with
the outlet IDLE, no head of the dispenser queue can start at that moment (R123). -/
def Obligations.LineSettleEndsTheWork : Prop :=
  ∀ (s : State) (dt e : Nat), s.part.resetting = none →
    let p := s.later dt
    let ps := p.supervision.params
    let k := ps.flowK
    let reported (w : Work) (r : EndingReason) (q : Part) : Prop :=
      (q.ticket w.ticket).state = .done ∧
        (q.ticket w.ticket).progress.measured = min (w.pulses * 1000 / k) 65535 ∧
        (q.ticket w.ticket).progress.overshoot =
          min (match w.target with | none => 0 | some t => (w.pulses - t) * 1000 / k) 65535 ∧
        (q.ticket w.ticket).progress.outcome =
          some (match r with
            | .target => .complete
            | .timeout => .timeout
            | .noWater => .noWater
            | .withdrawn => .parked
            | .release o => o)
    let idle (q : Part) : Prop :=
      q.line.state = .idle ∧ q.line.owner = none ∧ q.line.closingOwner = none ∧ q.line.work = none ∧
        q.line.inlet = false ∧ q.line.moldFill = false ∧ q.line.dispense = false ∧
        q.line.suspended = p.line.suspended ∧ q.line.fillClaim = p.line.fillClaim
    let fresh (n : TicketNo) (target : Option Nat) : Work :=
      { ticket := n, pulses := 0, target := target, openTime := { counted := 0, since := some p.clock.now },
        noFlowFrom := p.clock.now }
    -- What is given on where no dispense claim waits.
    let givenToTheFill (q : Part) : Prop :=
      let free := p.line.supply = .ok ∧ p.line.leakLatch = false
      (¬free ∨ (p.line.suspended = none ∧ p.line.fillClaim = none) → idle q) ∧
        (∀ v : Work, free → p.line.suspended = some v →
          q.line.suspended = none ∧
            (v.target.any (· ≤ v.pulses) = false →
              q.line.state = .opened ∧ q.line.owner = some .fill ∧ q.line.moldFill = true ∧ q.line.inlet = true ∧
                ∃ v', q.line.work = some v' ∧ v'.ticket = v.ticket ∧ v'.pulses = v.pulses ∧ v'.target = v.target ∧
                  v'.noFlowFrom = p.clock.now) ∧
            (v.target.any (· ≤ v.pulses) = true →
              q.line.state = .settle ∧ q.line.closingOwner = some .fill ∧ q.line.ending = some .target ∧
                q.line.work = some v ∧ q.line.settleEnd = some (p.clock.now + 500000))) ∧
        (∀ m : TicketNo, free → p.line.suspended = none → p.line.fillClaim = some m →
          q.line.state = .opened ∧ q.line.owner = some .fill ∧ q.line.moldFill = true ∧ q.line.fillClaim = none ∧
            q.line.work = some (fresh m (some ((2 * (ps.fillVolume * k) + 1000) / 2000))) ∧ q.ice.state = .filling ∧
            q.loads.heaters[(3 : HeaterNo)].ownerDemand = true ∧ (q.ticket m).state = .active)
    -- What is given to a waiting dispense claim.
    let givenToTheOutlet (n : TicketNo) (q : Part) : Prop :=
      q.line.state = .opened ∧ q.line.owner = some .dispense ∧ q.line.closingOwner = none ∧ q.line.dispense = true ∧
        q.line.inlet = true ∧ q.line.moldFill = false ∧ q.line.dispenseClaim = none ∧
        q.line.suspended = p.line.suspended ∧ q.outlet.state = .running ∧ (q.ticket n).state = .active ∧
        q.line.work = some (fresh n ((p.ticket n).request.amount.map fun ml => (2 * (ml * k) + 1000) / 2000))
    p.line.state = .settle → p.line.settleEnd = some e →
    (p.clock.now < e → Becomes (.lineSettleEnd dt) s p) ∧
    (∀ (w : Work) (r : EndingReason), e ≤ p.clock.now → p.line.closingOwner = some .dispense → p.line.work = some w →
      p.line.ending = some r → p.pool.queue = [w.ticket] → (p.ticket w.ticket).origin = some .link →
      p.line.dispenseClaim = none → p.line.fillClaim ≠ some w.ticket →
      (∀ v : Work, p.line.suspended = some v → p.pool.iceSlot ≠ some w.ticket) →
      ∃ q : Part, Becomes (.lineSettleEnd dt) s q.settle ∧ q.outlet.state = .idle ∧ q.pool.queue = [] ∧
        reported w r q ∧ givenToTheFill q) ∧
    (∀ (w : Work) (r : EndingReason), e ≤ p.clock.now → p.line.closingOwner = some .fill → p.line.work = some w →
      p.line.ending = some r → p.pool.iceSlot = some w.ticket → (p.ticket w.ticket).origin = some .iceMaker →
      4 ≤ p.pool.free.length → p.line.fillClaim = none → p.line.suspended = none →
      (p.outlet.state ≠ .idle ∨ p.headReady none = false ∧ w.ticket ∉ p.pool.queue) →
      ∃ q : Part, Becomes (.lineSettleEnd dt) s q.settle ∧
        (p.line.dispenseClaim = none →
          idle q ∧ reported w r q) ∧
        (∀ n : TicketNo, p.line.dispenseClaim = some n → n ≠ w.ticket → p.sense.door = some .closed →
          givenToTheOutlet n q ∧ reported w r q) ∧
        q.pool.iceSlot = none ∧ q.loads.heaters[(3 : HeaterNo)].ownerDemand = false ∧
        (let parked := p.ice.parkPending = true ∨ r = .withdrawn ∨ r = .release .parked
         let complete := r = .target ∨ r = .release .complete
         let loaded := w.target.any (· ≤ 2 * w.pulses) = true
         q.ice.moldLoaded = (if loaded then true else p.ice.moldLoaded) ∧
           q.ice.freezeStart = (if loaded then some p.clock.partSeconds else p.ice.freezeStart) ∧
           q.ice.state = (if parked then .parked else if complete ∨ loaded then .freezing else .fillWait) ∧
           q.defrost.iceCopy = q.ice.state ∧ (parked → q.ice.parkPending = false) ∧
           (p.defrost.credit ≤ 65535 →
             q.defrost.credit =
               if complete ∧ (p.defrost.state = .accruing ∨ p.defrost.state = .wanted ∨ p.defrost.state = .deferred)
               then min (p.defrost.credit + ps.fillWeight) 65535 else p.defrost.credit))) ∧
    (e ≤ p.clock.now → p.line.work = none → (p.outlet.state ≠ .idle ∨ p.headReady none = false) →
      ∃ q : Part, Becomes (.lineSettleEnd dt) s q.settle ∧ (p.line.dispenseClaim = none → givenToTheFill q) ∧
        (∀ n : TicketNo, p.line.dispenseClaim = some n → p.sense.door = some .closed → givenToTheOutlet n q))

/-! The Ice Maker Controller. -/

/-- ICE_CONTROL, request by request and state by state: a request that its rule does not accept is answered STATE and
changes nothing, an accepted one OK, and the reply carries the ice maker as it stands after it (R113 to R116). That RUN
stays in FREEZING with MOLD already in FAULT and 2 × MIN_FREEZE already past, until the next tick or reading, is the
model's choice (log 33). -/
def Obligations.IceControlJudgesByState : Prop :=
  ∀ (s : State) (dt : Nat) (tag : Byte), s.linkIdle →
    let data (t : Part) : List Byte :=
      [t.ice.state.code, flag t.ice.parkPending, flag t.ice.moldLoaded, flag t.ice.offHome, byte t.ice.attempts] ++
        nat16 t.ice.stock ++ [optTicket t.pool.iceSlot]
    let park : Instr := .iceControlPark dt tag
    let run : Instr := .iceControlRun dt tag
    let resume : Instr := .iceControlResume dt tag
    let now : Instr := .iceControlHarvestNow dt tag
    let st := s.part.ice.state
    -- PARK
    (let q := s.heard park
     ((st = .homing ∨ st = .fault) → q.ice.parkPending = false → Answers park s .state (data q) q) ∧
     ((st = .parked ∨ q.ice.parkPending = true) → Answers park s .ok (data q.settle) q.settle) ∧
     ((st = .freezing ∨ st = .harvestWait) → q.ice.parkPending = false →
       ∃ t : Part, Answers park s .ok (data t.settle) t.settle ∧ t.ice.state = .parked ∧ t.defrost.iceCopy = .parked ∧
         t.ice.parkPending = false ∧ t.ice.moldLoaded = q.ice.moldLoaded ∧ t.ice.freezeStart = q.ice.freezeStart ∧
         t.pool = q.pool ∧ t.line = q.line) ∧
     ((st = .harvestHeat ∨ st = .eject ∨ st = .settle) → q.ice.parkPending = false →
       Answers park s .ok (data (Part.settle { q with ice.parkPending := true }))
         (Part.settle { q with ice.parkPending := true })) ∧
     (∀ n : TicketNo, st = .fillWait → q.ice.parkPending = false → q.pool.iceSlot = some n →
       (q.ticket n).origin = some .iceMaker → 4 ≤ q.pool.free.length →
       ∃ t : Part, Answers park s .ok (data t.settle) t.settle ∧ t.ice.state = .parked ∧ t.line.fillClaim = none ∧
         t.pool.iceSlot = none ∧ (t.ticket n).state = .done ∧ (t.ticket n).progress.outcome = some .parked) ∧
     (st = .filling → q.ice.parkPending = false → q.line.owner = some .fill → q.line.state = .opened →
       q.line.suspended = none →
       ∃ t : Part, Answers park s .ok (data t.settle) t.settle ∧ t.ice.state = .filling ∧ t.ice.parkPending = true ∧
         t.line.state = .settle ∧ t.line.ending = some (.release .parked) ∧ t.line.moldFill = false) ∧
     (∀ w : Work, st = .filling → q.ice.parkPending = false → q.line.suspended = some w →
       q.pool.iceSlot = some w.ticket → (q.ticket w.ticket).origin = some .iceMaker → 4 ≤ q.pool.free.length →
       let k := q.supervision.params.flowK
       let loaded := w.target.any (· ≤ 2 * w.pulses) = true
       ∃ t : Part, Answers park s .ok (data t.settle) t.settle ∧ t.ice.state = .parked ∧ t.defrost.iceCopy = .parked ∧
         t.ice.parkPending = false ∧ t.line = { q.line with suspended := none } ∧ t.pool.iceSlot = none ∧
         (t.ticket w.ticket).state = .done ∧ (t.ticket w.ticket).progress.outcome = some .parked ∧
         (t.ticket w.ticket).progress.measured = min (w.pulses * 1000 / k) 65535 ∧
         t.loads.heaters[(3 : HeaterNo)].ownerDemand = false ∧
         t.ice.moldLoaded = (if loaded then true else q.ice.moldLoaded) ∧
         t.ice.freezeStart = (if loaded then some q.clock.partSeconds else q.ice.freezeStart) ∧
         t.defrost.credit = q.defrost.credit) ∧
     (st = .filling → q.ice.parkPending = false → q.line.suspended = none → q.line.owner ≠ some .fill →
       Answers park s .ok (data (Part.settle { q with ice.parkPending := true }))
         (Part.settle { q with ice.parkPending := true }))) ∧
    -- RUN
    (let q := s.heard run
     ((st ≠ .parked ∨ q.ejectorTest.isSome = true) → Answers run s .state (data q) q) ∧
     (st = .parked → q.ejectorTest = none →
       ∃ t : Part, Answers run s .ok (data t.settle) t.settle ∧
         (q.ice.offHome = true → q.sense.home = some .released →
           t.ice.state = .homing ∧ t.ice.offHome = false ∧ t.ice.ejector = true) ∧
         (q.ice.offHome = false → q.ice.moldLoaded = true →
           t.ice.state = .freezing ∧ t.ice.freezeStart = q.ice.freezeStart ∧ t.ice.coldRunStart = none ∧
             t.ice.notedSensor = false) ∧
         (q.ice.offHome = false → q.ice.moldLoaded = false → t.ice.state = .fillWait))) ∧
    -- RESUME
    (let q := s.heard resume
     (st ≠ .fault → Answers resume s .state (data q) q) ∧
     (st = .fault →
       ∃ t : Part, Answers resume s .ok (data t.settle) t.settle ∧
         (q.sense.home = some .made → t.ice.state = .freezing ∧ t.ice.moldLoaded = true) ∧
         (q.sense.home = some .released → t.ice.state = .homing ∧ t.ice.ejector = true) ∧
         (q.sense.home = none → t.ice.state = .homing ∧
           t.ice.homingDeadline = some (q.clock.now + q.supervision.params.ejectLimit * 1000000)))) ∧
    -- HARVEST_NOW
    (let q := s.heard now
     (st ≠ .freezing → Answers now s .state (data q) q) ∧
     (st = .freezing →
       ∃ t : Part, Answers now s .ok (data t.settle) t.settle ∧ t.ice.state = .harvestWait ∧ t.ice.notedSensor = false))

/-- Homing: the home switch MADE for its debounce time brings the arm home, into FREEZING with the mold taken as loaded and
the freeze start now; EJECT_LIMIT passing before that, and not sooner, is the failure, into FAULT with ICE_FAULT (R96,
R108). How long a level counts as having stood is the model's reading (log 9). The freeze ends, into HARVEST_WAIT, when
the moment of MIN_FREEZE is reached with FREEZE_HOLD of cold behind it and MOLD not in FAULT, and at 2 × MIN_FREEZE
with MOLD in FAULT, noting SENSOR; before those moments nothing but time passes. The moments are counted in part
seconds, the model's reading (log 23) (R100, R101). That the cold-run start is cleared on leaving FREEZING is the
model's choice (log 26), and so is that 2 × MIN_FREEZE is due at once where RUN enters FREEZING after it with MOLD
already in FAULT (log 33). -/
def Obligations.HomingAndFreezeEnd : Prop :=
  (∀ (s : State) (dt e : Nat), s.part.resetting = none → s.part.ice.state = .homing →
     let p := s.later dt
     p.ice.homingDeadline = some e →
     (p.sense.home = some .released → p.sense.homePin.stood p.clock.now 10000 .made →
       ∃ q : Part, Becomes (.homeSwitchChange dt .made) s q.settle ∧ q.ice.state = .freezing ∧ q.ice.ejector = false ∧
         q.ice.moldLoaded = true ∧ q.ice.freezeStart = some p.clock.partSeconds ∧ q.ice.offHome = false ∧
         q.ice.homingDeadline = none ∧ q.sense = { p.sense with home := some .made, homePin.level := some .made }) ∧
     (p.clock.now < e → Becomes (.homingDeadline dt) s p) ∧
     (e ≤ p.clock.now →
       ∃ q : Part, Becomes (.homingDeadline dt) s q.settle ∧ q.ice.state = .fault ∧ q.ice.ejector = false ∧
         q.isPending .iceFault = true ∧ q.loads.heaters[(2 : HeaterNo)].ownerDemand = false ∧
         q.loads.heaters[(3 : HeaterNo)].ownerDemand = false ∧ q.pool = p.pool ∧ q.ice.moldLoaded = p.ice.moldLoaded ∧
         q.ice.stock = p.ice.stock)) ∧
  (∀ (s : State) (dt start : Nat), s.part.resetting = none → s.part.ice.state = .freezing →
     let p := s.later dt
     let ps := p.supervision.params
     p.ice.freezeStart = some start →
     (∀ cold : Nat, p.sense.channels[mold].fault = false → p.ice.coldRunStart = some cold →
       cold + ps.freezeHold * 1000000 ≤ p.clock.now → start + ps.minFreeze * 60 ≤ p.clock.partSeconds →
       ∃ q : Part, Becomes (.minFreezeReached dt) s q.settle ∧ q.ice.state = .harvestWait ∧
         q.defrost.iceCopy = .harvestWait ∧ q.ice.notedSensor = false ∧ q.ice.coldRunStart = none) ∧
     (p.clock.partSeconds < start + ps.minFreeze * 60 → Becomes (.minFreezeReached dt) s p) ∧
     (start + ps.minFreeze * 60 ≤ p.clock.partSeconds → p.ice.coldRunStart = none →
       Becomes (.minFreezeReached dt) s p.settle) ∧
     (p.sense.channels[mold].fault = true → start + 2 * ps.minFreeze * 60 ≤ p.clock.partSeconds →
       ∃ q : Part, Becomes (.faultFreezeTime dt) s q.settle ∧ q.ice.state = .harvestWait ∧
         q.defrost.iceCopy = .harvestWait ∧ q.ice.notedSensor = true) ∧
     ((p.sense.channels[mold].fault = false ∨ p.clock.partSeconds < start + 2 * ps.minFreeze * 60) →
       Becomes (.faultFreezeTime dt) s p))

/-- MOLD_HEAT_LIMIT since the entry into HARVEST_HEAT, or half of it with MOLD in FAULT, ends the heat into EJECT with the
HEAT_LIMIT mark, without it in FAULT; the first attempt begins: the ejector is driven, and the deadlines of 2 s and
EJECT_LIMIT start. H2 stays demanded (R104, R105). An eject attempt: the switch leaving home meets step 1; coming back
to MADE then is the success, which adds the cubes, ends the HARVEST COMPLETE or HEAT_LIMIT, drops H2 and enters SETTLE
for 10 s. Either deadline passing is a failure: the first one stops the ejector and starts 60 s of heat, after which
the second attempt begins; the second ends the HARVEST STALL and enters FAULT with ICE_FAULT (R105 to R108). How long a
level counts as having stood is the model's reading (log 9). Ice maker SETTLE ends after its 10 s and not before: a
FULL beam sets the stock estimate to BIN_CAPACITY; then PARKED if a PARK is pending, which is cleared, else FILL_WAIT
(R109). -/
def Obligations.HarvestHeatsEjectsAndSettles : Prop :=
  (∀ (s : State) (dt start : Nat), s.part.resetting = none → s.part.ice.state = .harvestHeat →
     let p := s.later dt
     let ps := p.supervision.params
     let limit := if p.sense.channels[mold].fault = true then ps.moldHeatLimit / 2 else ps.moldHeatLimit
     p.ice.heatFrom = some start →
     (p.clock.now < start + limit * 1000000 → Becomes (.moldHeatLimitExpiry dt) s p) ∧
     (start + limit * 1000000 ≤ p.clock.now →
       ∃ q : Part, Becomes (.moldHeatLimitExpiry dt) s q.settle ∧ q.ice.state = .eject ∧ q.defrost.iceCopy = .eject ∧
         q.ice.heatLimitMark = !p.sense.channels[mold].fault ∧ q.ice.attempts = p.ice.attempts + 1 ∧
         q.ice.ejector = true ∧ q.ice.returnDeadline = some (p.clock.now + ps.ejectLimit * 1000000) ∧
         (p.sense.home = some .made → q.ice.leftHome = false ∧ q.ice.leaveDeadline = some (p.clock.now + 2000000)) ∧
         (p.sense.home = some .released → q.ice.leftHome = true ∧ q.ice.leaveDeadline = none) ∧
         q.loads = p.loads ∧ q.pool = p.pool)) ∧
  (∀ (s : State) (dt : Nat), s.part.resetting = none → s.part.ice.state = .eject →
     let p := s.later dt
     let ps := p.supervision.params
     (∀ e : Nat, p.sense.home = some .made → p.ice.returnDeadline = some e →
       p.sense.homePin.stood p.clock.now 10000 .released →
       ∃ q : Part, Becomes (.homeSwitchChange dt .released) s q.settle ∧ q.ice.leftHome = true ∧
         q.ice.leaveDeadline = none ∧ q.ice.state = .eject ∧ q.ice.ejector = p.ice.ejector) ∧
     (∀ (e : Nat) (n : TicketNo), p.sense.home = some .released → p.ice.returnDeadline = some e →
       p.sense.homePin.stood p.clock.now 10000 .made →
       p.ice.leftHome = true → p.pool.iceSlot = some n → 4 ≤ p.pool.free.length →
       ∃ q : Part, Becomes (.homeSwitchChange dt .made) s q.settle ∧ q.ice.state = .settle ∧ q.ice.ejector = false ∧
         q.ice.stock = p.ice.stock + min ps.cubesPerHarvest (ps.binCapacity - p.ice.stock) ∧
         q.pool.iceSlot = none ∧ (q.ticket n).state = .done ∧
         (q.ticket n).progress.outcome = some (if p.ice.heatLimitMark then .heatLimit else .complete) ∧
         (q.ticket n).progress.measured = min ps.cubesPerHarvest (ps.binCapacity - p.ice.stock) ∧
         q.ice.moldLoaded = false ∧ q.ice.freezeStart = none ∧ q.ice.attempts = 0 ∧
         q.loads.heaters[(2 : HeaterNo)].ownerDemand = false ∧ q.ice.settleEnd = some (p.clock.now + 10000000)) ∧
     (∀ (i : Instr) (e : Nat), e ≤ p.clock.now →
       ((i = .leaveHomeDeadline dt ∧ p.ice.leaveDeadline = some e) ∨
         (i = .ejectReturnDeadline dt ∧ p.ice.returnDeadline = some e)) →
       (p.ice.attempts < 2 →
         ∃ q : Part, Becomes i s q.settle ∧ q.ice.state = .eject ∧ q.ice.ejector = false ∧
           q.ice.leaveDeadline = none ∧ q.ice.returnDeadline = none ∧
           q.ice.retryEnd = some (p.clock.now + 60000000) ∧ q.loads = p.loads ∧ q.pool = p.pool) ∧
       (∀ n : TicketNo, 2 ≤ p.ice.attempts → p.pool.iceSlot = some n → 4 ≤ p.pool.free.length →
         ∃ q : Part, Becomes i s q.settle ∧ q.ice.state = .fault ∧ q.ice.ejector = false ∧ q.pool.iceSlot = none ∧
           (q.ticket n).state = .done ∧ (q.ticket n).progress.outcome = some .stall ∧
           q.isPending .iceFault = true ∧ q.ice.attempts = 0 ∧ q.ice.parkPending = false ∧
           q.loads.heaters[(2 : HeaterNo)].ownerDemand = false ∧ q.ice.moldLoaded = p.ice.moldLoaded ∧
           q.ice.stock = p.ice.stock)) ∧
     (∀ e : Nat, p.ice.retryEnd = some e →
       (p.clock.now < e → Becomes (.ejectRetryTimer dt) s p) ∧
       (e ≤ p.clock.now →
         ∃ q : Part, Becomes (.ejectRetryTimer dt) s q.settle ∧ q.ice.attempts = p.ice.attempts + 1 ∧
           q.ice.ejector = true ∧ q.ice.retryEnd = none ∧ q.ice.state = .eject ∧
           q.ice.returnDeadline = some (p.clock.now + ps.ejectLimit * 1000000)))) ∧
  (∀ (s : State) (dt e : Nat), s.part.resetting = none → s.part.ice.state = .settle →
     let p := s.later dt
     p.ice.settleEnd = some e →
     (p.clock.now < e → Becomes (.iceSettleEnd dt) s p) ∧
     (e ≤ p.clock.now →
       ∃ q : Part, Becomes (.iceSettleEnd dt) s q.settle ∧
         q.ice.stock = (if p.sense.beam = .full then p.supervision.params.binCapacity else p.ice.stock) ∧
         q.ice.state = (if p.ice.parkPending then .parked else .fillWait) ∧ q.defrost.iceCopy = q.ice.state ∧
         q.ice.parkPending = false ∧ q.loads = p.loads ∧ q.line = p.line))

/-! The Dispenser Controller. -/

/-- The start of a QUEUED head without AWAIT_PADDLE on an IDLE outlet with the freezer door CLOSED: a water ticket without
COLD_ONLY is granted an IDLE line, suspends a fill that owns an OPEN line, waits for the end of a SETTLE, or is DONE
LEAK; an ice ticket opens the CLOSED flap, ACTIVE, with H4 demanded, or is DONE CHUTE_FAULT with the chute-fault flag
set. A COLD_ONLY ticket waits while TANK is NOT_READY, is DONE SENSOR with TANK in FAULT and WARM above
WATER_COLD_LIMIT, with its start time absent, and else claims the line. With the door not CLOSED, or with AWAIT_PADDLE
and no press, no head starts (R70, R73, R123, R124, R128, R130, R133). -/
def Obligations.HeadsStart : Prop :=
  ∀ (s : State) (dt : Nat) (n : TicketNo) (rest : List TicketNo), s.part.resetting = none →
    let p := s.later dt
    let t := p.ticket n
    p.pool.queue = n :: rest → p.outlet.state = .idle → t.state = .queued →
    (t.request.awaitPaddle = true → Becomes (.headStart dt) s p.settle) ∧
    (t.request.awaitPaddle = false →
     (p.sense.door ≠ some .closed → Becomes (.headStart dt) s p.settle) ∧
     (p.sense.door = some .closed → (t.kind = some .waterPortion ∨ t.kind = some .waterHold ∨ t.kind = some .flush) →
       t.request.coldOnly = false →
       ∃ q : Part, Becomes (.headStart dt) s q.settle ∧
         (p.line.leakLatch = false → p.line.state = .idle →
           q.outlet.state = .running ∧ q.line.state = .opened ∧ q.line.owner = some .dispense ∧ q.line.inlet = true ∧
             q.line.dispense = true ∧ (q.ticket n).state = .active ∧
             (q.ticket n).progress.tankTemp = (p.reading tank).temp) ∧
         (p.line.leakLatch = false → p.line.state = .opened → p.line.owner = some .fill →
           q.outlet.state = .lineWait ∧ q.line.state = .settle ∧ q.line.closingOwner = some .fill ∧
             q.line.moldFill = false ∧ q.line.inlet = false ∧ q.line.dispenseClaim = some n ∧
             (∀ w : Work, p.line.work = some w →
               ∃ w', q.line.suspended = some w' ∧ w'.ticket = w.ticket ∧ w'.pulses = w.pulses ∧ w'.target = w.target) ∧
             q.ice = p.ice ∧ q.loads = p.loads) ∧
         (p.line.leakLatch = false → p.line.state = .settle →
           q.outlet.state = .lineWait ∧ q.line = { p.line with dispenseClaim := some n } ∧
             (q.ticket n).state = .queued) ∧
         (p.line.leakLatch = true → t.origin = some .link →
           q.outlet.state = .idle ∧ q.pool.queue = rest ∧ (q.ticket n).state = .done ∧
             (q.ticket n).progress.outcome = some .leak ∧ q.line = p.line)) ∧
     (p.sense.door = some .closed → (t.kind = some .icePortion ∨ t.kind = some .iceHold) → p.sense.flap.isSome = true →
       ∃ q : Part, Becomes (.headStart dt) s q.settle ∧
         (p.outlet.chuteFault = false → p.outlet.flap = .closed →
           q.outlet.state = .opening ∧ q.outlet.flap = .opening ∧ q.outlet.flapOpenOut = true ∧
             q.outlet.flapDeadline = some (p.clock.now + 1500000) ∧ (q.ticket n).state = .active ∧
             (q.ticket n).progress.startTime = some p.clock.partSeconds ∧
             q.loads.heaters[(4 : HeaterNo)].ownerDemand = true ∧ q.line = p.line) ∧
         (p.outlet.chuteFault = true → t.origin = some .link →
           q.outlet.state = .idle ∧ q.pool.queue = rest ∧ (q.ticket n).state = .done ∧
             (q.ticket n).progress.outcome = some .chuteFault ∧ q.loads = p.loads))) ∧
    (t.request.awaitPaddle = false → p.sense.door = some .closed →
      (t.kind = some .waterPortion ∨ t.kind = some .waterHold ∨ t.kind = some .flush) → t.request.coldOnly = true →
      let r := p.reading 3
      let ends (o : TicketOutcome) : Prop :=
        (t.origin = some .link ∨ 4 ≤ p.pool.free.length) →
        ∃ q : Part, Becomes (.headStart dt) s q.settle ∧ q.outlet.state = .idle ∧ q.pool.queue = rest ∧
          (q.ticket n).state = .done ∧ (q.ticket n).progress.outcome = some o ∧
          (q.ticket n).progress.startTime = t.progress.startTime ∧ (q.ticket n).progress.tankTemp = r.temp ∧
          q.line = p.line
      (r.status = .notReady → Becomes (.headStart dt) s p.settle) ∧ (r.status = .fault → ends .sensor) ∧
        ∀ x : Int, (r.status = .ok ∨ r.status = .range) → r.temp = some x →
          (p.supervision.params.waterColdLimit < x → ends .warm) ∧
          (x ≤ p.supervision.params.waterColdLimit → p.line.leakLatch = false → p.line.state = .idle →
            ∃ q : Part, Becomes (.headStart dt) s q.settle ∧ q.outlet.state = .running ∧ q.line.state = .opened ∧
              q.line.owner = some .dispense ∧ (q.ticket n).state = .active ∧
              (q.ticket n).progress.tankTemp = some x))

/-- A paddle PRESSED for 30 ms: the press is ignored while the outlet is not IDLE or the door not CLOSED; with an empty
queue and two free tickets it draws a WATER_HOLD, which is granted an IDLE line, or an ICE_HOLD of the form ICE_FORM,
which opens the CLOSED flap, either of origin PADDLE, without a tag, and paddle-started; with fewer it counts a PADDLE
starvation. A head with AWAIT_PADDLE and of the paddle's medium starts, noted as paddle-started; with 8 tickets in the
queue, or with a paddle ticket waiting at its head, the press is ignored; else the ticket drawn is placed ahead of the
others (R11, R41, R123, R125, R126). How long a level counts as having stood is the model's reading (log 9). -/
def Obligations.PaddlePressesAreJudged : Prop :=
  ∀ (s : State) (dt : Nat) (pad : Paddle), s.part.resetting = none →
    let p := s.later dt
    let pressed : Sense :=
      match pad with
      | .water => { p.sense with waterPaddle := some .pressed, waterPin.level := some .pressed }
      | .ice => { p.sense with icePaddle := some .pressed, icePin.level := some .pressed }
    (match pad with | .water => p.sense.waterPaddle | .ice => p.sense.icePaddle) = some .released →
    (match pad with | .water => p.sense.waterPin | .ice => p.sense.icePin : Pin PaddleState).stood p.clock.now 30000
      .pressed →
    ((p.outlet.state ≠ .idle ∨ p.sense.door ≠ some .closed) →
      Becomes (.paddlePress dt pad) s (Part.settle { p with sense := pressed })) ∧
    (p.outlet.state = .idle → p.sense.door = some .closed → p.pool.queue = [] →
      (p.pool.free.length < 2 →
        Becomes (.paddlePress dt pad) s
          (Part.settle
            { p with
              sense := pressed
              pool.starvation.paddle := min (p.pool.starvation.paddle + 1) 255 })) ∧
      ∀ (n : TicketNo) (rest : List TicketNo), p.pool.free = n :: rest → 1 ≤ rest.length → n ∉ p.pool.completion →
        (pad = .water → p.line.leakLatch = false → p.line.state = .idle →
          ∃ q : Part, Becomes (.paddlePress dt pad) s q.settle ∧ q.outlet.state = .running ∧ q.pool.queue = [n] ∧
            (q.ticket n).kind = some .waterHold ∧ (q.ticket n).origin = some .paddle ∧ (q.ticket n).tag = none ∧
            (q.ticket n).state = .active ∧ (q.ticket n).progress.paddleStarted = true ∧
            q.line.owner = some .dispense ∧ q.line.dispense = true ∧ q.sense = pressed) ∧
        (pad = .ice → p.outlet.chuteFault = false → p.outlet.flap = .closed → p.sense.flap.isSome = true →
          ∃ q : Part, Becomes (.paddlePress dt pad) s q.settle ∧ q.outlet.state = .opening ∧ q.pool.queue = [n] ∧
            (q.ticket n).kind = some .iceHold ∧ (q.ticket n).origin = some .paddle ∧ (q.ticket n).tag = none ∧
            (q.ticket n).request = { form := some p.supervision.params.iceForm } ∧ (q.ticket n).state = .active ∧
            (q.ticket n).progress.paddleStarted = true ∧ q.outlet.flapOpenOut = true ∧ q.sense = pressed)) ∧
    ∀ (m : TicketNo) (others : List TicketNo), p.outlet.state = .idle → p.sense.door = some .closed →
      p.pool.queue = m :: others →
      let t := p.ticket m
      let started (q : Part) : Prop :=
        q.pool.queue = p.pool.queue ∧ q.pool.free = p.pool.free ∧ (q.ticket m).state = .active ∧
          (q.ticket m).progress.paddleStarted = true ∧ q.sense = pressed
      (t.state = .queued → t.request.awaitPaddle = true →
        (pad = .water → (t.kind = some .waterPortion ∨ t.kind = some .waterHold ∨ t.kind = some .flush) →
          t.request.coldOnly = false → p.line.leakLatch = false → p.line.state = .idle →
          ∃ q : Part, Becomes (.paddlePress dt pad) s q.settle ∧ started q ∧ q.outlet.state = .running ∧
            q.line.owner = some .dispense ∧ q.line.dispense = true) ∧
        (pad = .ice → (t.kind = some .icePortion ∨ t.kind = some .iceHold) → p.outlet.chuteFault = false →
          p.outlet.flap = .closed → p.sense.flap.isSome = true →
          ∃ q : Part, Becomes (.paddlePress dt pad) s q.settle ∧ started q ∧ q.outlet.state = .opening ∧
            q.outlet.flapOpenOut = true)) ∧
      (t.request.awaitPaddle = false →
        ((8 ≤ p.pool.queue.length ∨ (t.state = .queued ∧ t.origin = some .paddle)) →
          Becomes (.paddlePress dt pad) s (Part.settle { p with sense := pressed })) ∧
        (p.pool.queue.length < 8 → t.origin ≠ some .paddle →
          (p.pool.free.length < 2 →
            Becomes (.paddlePress dt pad) s
              (Part.settle
                { p with
                  sense := pressed
                  pool.starvation.paddle := min (p.pool.starvation.paddle + 1) 255 })) ∧
          ∀ (n : TicketNo) (rest : List TicketNo), p.pool.free = n :: rest → 1 ≤ rest.length → n ∉ p.pool.completion →
            pad = .water → p.line.leakLatch = false → p.line.state = .idle →
            ∃ q : Part, Becomes (.paddlePress dt pad) s q.settle ∧ q.outlet.state = .running ∧
              q.pool.queue = n :: p.pool.queue ∧ (q.ticket n).kind = some .waterHold ∧
              (q.ticket n).origin = some .paddle ∧ (q.ticket n).state = .active ∧
              (q.ticket n).progress.paddleStarted = true ∧ q.line.owner = some .dispense))

/-- A paddle RELEASED for 30 ms is a release, which ends a head that a press of that paddle started and that carries no
LATCH, by its stage: COMPLETE for the HOLD kinds and RELEASED for the portions. In LINE_WAIT the claim is withdrawn and
the ticket DONE; in OPENING the outlet enters CLOSING; a running water head releases the line; a running ice head
enters STOPPING. Any other release changes nothing but the paddle's state (R127). How long a level counts as having
stood is the model's reading (log 9). -/
def Obligations.PaddleReleasesEndTheHead : Prop :=
  ∀ (s : State) (dt : Nat) (pad : Paddle) (n : TicketNo) (rest : List TicketNo), s.part.resetting = none →
    let p := s.later dt
    let t := p.ticket n
    let released : Sense :=
      match pad with
      | .water => { p.sense with waterPaddle := some .released, waterPin.level := some .released }
      | .ice => { p.sense with icePaddle := some .released, icePin.level := some .released }
    let water := t.kind = some .waterPortion ∨ t.kind = some .waterHold ∨ t.kind = some .flush
    let ice := t.kind = some .icePortion ∨ t.kind = some .iceHold
    let held := p.outlet.paddleStarted = true ∧ t.request.latch = false ∧ (pad = .water ∧ water ∨ pad = .ice ∧ ice)
    let o : TicketOutcome := if t.kind = some .waterHold ∨ t.kind = some .iceHold then .complete else .released
    (match pad with | .water => p.sense.waterPaddle | .ice => p.sense.icePaddle) = some .pressed →
    (match pad with | .water => p.sense.waterPin | .ice => p.sense.icePin : Pin PaddleState).stood p.clock.now 30000
      .released →
    p.pool.queue = n :: rest →
    (¬held → Becomes (.paddleRelease dt pad) s (Part.settle { p with sense := released })) ∧
    (held →
      ∃ q : Part, Becomes (.paddleRelease dt pad) s q.settle ∧ q.sense = released ∧
        (p.outlet.state = .lineWait → t.origin = some .link →
          q.line.dispenseClaim = none ∧ q.outlet.state = .idle ∧ q.pool.queue = rest ∧ (q.ticket n).state = .done ∧
            (q.ticket n).progress.outcome = some o ∧ (q.ticket n).progress.measured = t.progress.measured) ∧
        (p.outlet.state = .opening →
          q.outlet.state = .closing ∧ q.outlet.flapOpenOut = false ∧ q.outlet.flapCloseOut = true ∧
            q.outlet.ending = some o ∧ (q.ticket n).state = .stopping) ∧
        ((p.outlet.state = .running ∨ p.outlet.state = .paused) → water → p.line.owner = some .dispense →
          (p.line.state = .opened ∨ p.line.state = .held) →
          q.line.state = .settle ∧ q.line.ending = some (.release o) ∧ q.line.inlet = false ∧
            q.line.dispense = false ∧ q.outlet.state = .stopping ∧ (q.ticket n).state = .stopping) ∧
        ((p.outlet.state = .running ∨ p.outlet.state = .paused) → ice →
          q.outlet.state = .stopping ∧ q.outlet.ending = some o ∧ q.outlet.augerForward = false ∧
            q.outlet.augerReverse = false ∧ q.outlet.crusher = false ∧ (q.ticket n).state = .stopping ∧
            q.outlet.holdEnd = some (p.clock.now + p.supervision.params.chuteHold * 1000000)) ∧
        ((p.outlet.state = .stopping ∨ p.outlet.state = .closing) → q = { p with sense := released }))

/-- The freezer door, open or closed for 100 ms: an opening pauses a running head, closing the valves of a water head and
stopping the auger, and starts the pause timer, in LINE_WAIT and OPENING the timer alone; a closing in PAUSED stops the
timer and resumes a head that was not paddle-started; the timer ending with the door OPEN ends the head DOOR_OPEN (R81,
R138, R139). How long a level counts as having stood is the model's reading (log 9). -/
def Obligations.DoorPausesTheHead : Prop :=
  ∀ (s : State) (dt : Nat) (n : TicketNo) (rest : List TicketNo), s.part.resetting = none →
    let p := s.later dt
    let t := p.ticket n
    let water := t.kind = some .waterPortion ∨ t.kind = some .waterHold ∨ t.kind = some .flush
    let ice := t.kind = some .icePortion ∨ t.kind = some .iceHold
    let pause := some (p.clock.now + p.supervision.params.doorPauseLimit * 1000000)
    p.pool.queue = n :: rest →
    (p.sense.door = some .closed → p.sense.doorPin.stood p.clock.now 100000 .opened →
      ∃ q : Part, Becomes (.doorOpening dt) s q.settle ∧
        q.sense = { p.sense with door := some .opened, doorPin.level := some .opened } ∧
        (p.outlet.state = .running → water → p.line.state = .opened → p.line.owner = some .dispense →
          q.outlet.state = .paused ∧ q.outlet.pauseEnd = pause ∧ q.line.state = .held ∧ q.line.inlet = false ∧
            q.line.dispense = false ∧ q.line.owner = some .dispense) ∧
        (p.outlet.state = .running → ice →
          q.outlet.state = .paused ∧ q.outlet.pauseEnd = pause ∧ q.outlet.augerForward = false ∧
            q.outlet.augerReverse = false ∧ q.outlet.crusher = false ∧ q.outlet.flap = p.outlet.flap) ∧
        ((p.outlet.state = .lineWait ∨ p.outlet.state = .opening) →
          q = { p with sense := q.sense, outlet.pauseEnd := pause }) ∧
        (p.outlet.state ≠ .running → p.outlet.state ≠ .lineWait → p.outlet.state ≠ .opening →
          q = { p with sense := q.sense })) ∧
    (p.sense.door = some .opened → p.sense.doorPin.stood p.clock.now 100000 .closed →
      ∃ q : Part, Becomes (.doorClosing dt) s q.settle ∧
        q.sense = { p.sense with door := some .closed, doorPin.level := some .closed } ∧
        (p.outlet.state = .paused → p.outlet.paddleStarted = false → water → p.line.state = .held →
          q.outlet.state = .running ∧ q.outlet.pauseEnd = none ∧ q.line.state = .opened ∧ q.line.inlet = true ∧
            q.line.dispense = true) ∧
        (p.outlet.state = .paused → p.outlet.paddleStarted = false → ice → p.sense.flap = some .made →
          q.outlet.state = .running ∧ q.outlet.pauseEnd = none ∧ q.outlet.augerForward = true ∧
            q.outlet.run.jamDeadline = some (p.clock.now + 1000000)) ∧
        ((p.outlet.state = .lineWait ∨ p.outlet.state = .opening) →
          q = { p with sense := q.sense, outlet.pauseEnd := none })) ∧
    (∀ e : Nat, p.outlet.state = .paused → p.sense.door = some .opened → p.outlet.pauseEnd = some e →
      (p.clock.now < e → Becomes (.pauseTimerEnd dt) s p) ∧
      (e ≤ p.clock.now →
        ∃ q : Part, Becomes (.pauseTimerEnd dt) s q.settle ∧
          (water → p.line.state = .held → p.line.owner = some .dispense →
            q.line.state = .settle ∧ q.line.ending = some (.release .doorOpen) ∧ q.outlet.state = .stopping ∧
              q.outlet.ending = some .doorOpen ∧ (q.ticket n).state = .stopping) ∧
          (ice → q.outlet.state = .stopping ∧ q.outlet.ending = some .doorOpen ∧ (q.ticket n).state = .stopping ∧
            q.outlet.holdEnd = some (p.clock.now + p.supervision.params.chuteHold * 1000000))))

/-- The flap: an opening that meets its switch before the deadline is OPEN, and an ice head runs, the auger forward and the
crusher for CRUSHED, its target set; one that does not ends CHUTE_FAULT through a closing. A closing of 1.5 s is judged
by the switch: RELEASED, the head is DONE with its ending outcome and the flap CLOSED; MADE, the chute-fault flag and
notice are set, and COMPLETE becomes CHUTE_FAULT (R130 to R134, R137). The opening and its failure are stated for every
origin, the end of a closing for a LINK ticket, or any other while 4 tickets are free, so that it is not retired at
once. How long a level counts as having stood is the model's reading (log 9). The flap without a motion of the head's
own. RELEASED for 10 ms while it is OPEN for the head: in RUNNING and PAUSED an ice head or an auger or chute test is
DONE CHUTE_FAULT, its motors stopped and its run reported; in the flap hold it is DONE with the outcome it holds; the
position is CLOSED, the outlet IDLE, and the duct timer starts (R132). With the chute-fault flag set the change clears
it instead, and the position is CLOSED (R131). MADE for 10 ms while it is CLOSED drives a closing of the controller's
own, with H4 demanded; at its end RELEASED gives CLOSED, and MADE sets the chute-fault flag and notice, and neither
ends a ticket (R130, R131). That an ice ticket's cubes are written as its measured amount at a fall, where R132 says
only that its run time is reported, is the model's reading (log 26). Stated for a LINK ticket, or one of a paddle while
4 tickets are free. -/
def Obligations.FlapMotionsAreJudged : Prop :=
  (∀ (s : State) (dt e : Nat) (n : TicketNo) (rest : List TicketNo), s.part.resetting = none →
     let p := s.later dt
     let t := p.ticket n
     let ps := p.supervision.params
     p.pool.queue = n :: rest → p.outlet.flapDeadline = some e →
     (p.outlet.flap = .opening → p.sense.flap = some .released → p.sense.door = some .closed →
       p.sense.flapPin.stood p.clock.now 10000 .made →
       (t.kind = some .icePortion ∨ t.kind = some .iceHold) → p.outlet.run.entered = false →
       ∃ q : Part, Becomes (.flapSwitchChange dt .made) s q.settle ∧
         q.sense = { p.sense with flap := some .made, flapPin.level := some .made } ∧
         q.outlet.flap = .opened ∧ q.outlet.flapOpenOut = false ∧ q.outlet.state = .running ∧
         q.outlet.augerForward = true ∧ q.outlet.augerReverse = false ∧
         q.outlet.crusher = (t.request.form == some .crushed) ∧ q.outlet.run.entered = true ∧
         (∀ a : Nat, t.kind = some .icePortion → t.request.amount = some a →
           q.outlet.run.target = some ((a * 10000 + ps.augerRate - 1) / ps.augerRate)) ∧
         (t.kind = some .iceHold → q.outlet.run.target = none) ∧
         q.outlet.run.jamDeadline = some (p.clock.now + 1000000)) ∧
     (p.outlet.flap = .opening →
       (p.clock.now < e → Becomes (.flapOpenDeadline dt) s p) ∧
       (e ≤ p.clock.now →
         ∃ q : Part, Becomes (.flapOpenDeadline dt) s q.settle ∧ q.outlet.state = .closing ∧
           q.outlet.flap = .closing ∧ q.outlet.flapOpenOut = false ∧ q.outlet.flapCloseOut = true ∧
           q.outlet.flapDeadline = some (p.clock.now + 1500000) ∧ q.outlet.ending = some .chuteFault ∧
           (q.ticket n).state = .stopping ∧ q.ice.stock = p.ice.stock)) ∧
     (∀ o : TicketOutcome, p.outlet.flap = .closing → p.outlet.state = .closing → p.outlet.ending = some o →
       (p.clock.now < e → Becomes (.flapCloseEnd dt) s p) ∧
       (e ≤ p.clock.now → (t.origin = some .link ∨ 4 ≤ p.pool.free.length) →
         ∃ q : Part, Becomes (.flapCloseEnd dt) s q.settle ∧ q.outlet.flapCloseOut = false ∧
           q.outlet.state = .idle ∧ q.pool.queue = rest ∧ (q.ticket n).state = .done ∧
           (p.sense.flap = some .released →
             q.outlet.flap = .closed ∧ q.outlet.chuteFault = p.outlet.chuteFault ∧
               (q.ticket n).progress.outcome = some o ∧
               (1 ≤ ps.ductAfter → q.outlet.ductEnd = some (p.clock.now + ps.ductAfter * 1000000))) ∧
           (p.sense.flap = some .made →
             q.outlet.flap = .opened ∧ q.outlet.chuteFault = true ∧ q.isPending .chuteFault = true ∧
               (q.ticket n).progress.outcome = some (if o = .complete then .chuteFault else o))))) ∧
  (∀ (s : State) (dt : Nat), s.part.resetting = none →
     let p := s.later dt
     let ps := p.supervision.params
     let closed (q : Part) : Prop :=
       q.outlet.flap = .closed ∧ q.outlet.flapOpenOut = false ∧ q.outlet.flapCloseOut = false ∧
         q.outlet.flapDeadline = none ∧
         (1 ≤ ps.ductAfter → q.outlet.ductEnd = some (p.clock.now + ps.ductAfter * 1000000)) ∧
         (ps.ductAfter = 0 → q.loads.heaters[(4 : HeaterNo)].ownerDemand = false)
     (p.sense.flap = some .made → p.sense.flapPin.stood p.clock.now 10000 .released → p.outlet.flap = .opened →
       (p.outlet.chuteFault = true →
         ∃ q : Part, Becomes (.flapSwitchChange dt .released) s q.settle ∧ q.outlet.chuteFault = false ∧ closed q ∧
           q.outlet.state = p.outlet.state ∧ q.pool = p.pool) ∧
       (∀ (n : TicketNo) (rest : List TicketNo), p.outlet.chuteFault = false → p.pool.queue = n :: rest →
         let t := p.ticket n
         let ice := t.kind = some .icePortion ∨ t.kind = some .iceHold
         let chute := t.kind = some .loadTest ∧ t.request.load = some .chute
         let auger := t.kind = some .loadTest ∧ t.request.load = some .auger
         (t.origin = some .link ∨ 4 ≤ p.pool.free.length) → ice ∨ chute ∨ auger →
         let ended (o : TicketOutcome) (q : Part) : Prop :=
           closed q ∧ q.outlet.state = .idle ∧ q.pool.queue = rest ∧ (q.ticket n).state = .done ∧
             (q.ticket n).progress.outcome = some o
         let cubes := p.outlet.run.forward.read p.clock.now / 1000 * ps.augerRate / 10000
         ((p.outlet.state = .running ∨ p.outlet.state = .paused) →
           ∃ q : Part, Becomes (.flapSwitchChange dt .released) s q.settle ∧ ended .chuteFault q ∧
             q.outlet.augerForward = false ∧ q.outlet.augerReverse = false ∧ q.outlet.crusher = false ∧
             q.outlet.holdEnd = none ∧
             (ice ∨ auger → q.ice.stock = p.ice.stock - cubes) ∧ (chute → q.ice.stock = p.ice.stock) ∧
             (ice → (q.ticket n).progress.measured = min cubes 65535)) ∧
         (∀ o : TicketOutcome, p.outlet.state = .stopping → p.outlet.ending = some o →
           ∃ q : Part, Becomes (.flapSwitchChange dt .released) s q.settle ∧ ended o q ∧ q.outlet.holdEnd = none))) ∧
     (p.sense.flap = some .released → p.sense.flapPin.stood p.clock.now 10000 .made → p.outlet.flap = .closed →
       p.outlet.chuteFault = false →
       ∃ q : Part, Becomes (.flapSwitchChange dt .made) s q.settle ∧ q.outlet.flap = .closing ∧
         q.outlet.flapCloseOut = true ∧ q.outlet.flapOpenOut = false ∧
         q.outlet.flapDeadline = some (p.clock.now + 1500000) ∧ q.loads.heaters[(4 : HeaterNo)].ownerDemand = true ∧
         q.outlet.state = p.outlet.state ∧ q.pool = p.pool) ∧
     (∀ e : Nat, p.outlet.flap = .closing → p.outlet.state ≠ .closing → p.outlet.flapDeadline = some e →
       e ≤ p.clock.now →
       (p.sense.flap = some .released →
         ∃ q : Part, Becomes (.flapCloseEnd dt) s q.settle ∧ closed q ∧ q.outlet.state = p.outlet.state ∧
           q.outlet.chuteFault = p.outlet.chuteFault ∧ q.pool = p.pool) ∧
       (p.sense.flap = some .made →
         ∃ q : Part, Becomes (.flapCloseEnd dt) s q.settle ∧ q.outlet.flap = .opened ∧ q.outlet.chuteFault = true ∧
           q.isPending .chuteFault = true ∧ q.outlet.flapCloseOut = false ∧ q.outlet.state = p.outlet.state ∧
           q.pool = p.pool)))

/-- A running ice ticket: its run target ends it COMPLETE, DISPENSE_OPEN_LIMIT TIMEOUT, and a second jam JAM, each into
STOPPING with the auger stopped, the cubes of the forward run as the measured amount and taken from the stock estimate,
and the flap held for CHUTE_HOLD. A first jam reverses the auger for 0.5 s, after which the forward drive resumes.
Before its moment each of these events does nothing (R111, R134, R135, R136). An auger test: after its opening it runs
with the auger forward and without the crusher to a target of its seconds; the target ends it COMPLETE, and a second
jam JAM, into STOPPING with the flap held, its whole seconds as the measured amount and its cubes taken from the stock
estimate; a first jam reverses the auger. DISPENSE_OPEN_LIMIT does not bound it (R144). How long a level counts as
having stood is the model's reading (log 9). -/
def Obligations.IceRunsEnd : Prop :=
  (∀ (s : State) (dt : Nat) (n : TicketNo) (rest : List TicketNo), s.part.resetting = none →
     let p := s.later dt
     let t := p.ticket n
     let ps := p.supervision.params
     let forward := p.outlet.run.forward.read p.clock.now
     let cubes := forward / 1000 * ps.augerRate / 10000
     let stops (o : TicketOutcome) (q : Part) : Prop :=
       q.outlet.state = .stopping ∧ q.outlet.ending = some o ∧ q.outlet.augerForward = false ∧
         q.outlet.augerReverse = false ∧ q.outlet.crusher = false ∧
         q.outlet.holdEnd = some (p.clock.now + ps.chuteHold * 1000000) ∧ (q.ticket n).state = .stopping ∧
         (q.ticket n).progress.measured = min cubes 65535 ∧ q.ice.stock = p.ice.stock - cubes
     p.pool.queue = n :: rest → p.outlet.state = .running →
     (t.kind = some .icePortion ∨ t.kind = some .iceHold) →
     (∀ target : Nat, p.outlet.run.target = some target → p.outlet.augerForward = true →
       (forward < target * 1000 → Becomes (.runTargetReached dt) s p) ∧
       (target * 1000 ≤ forward → ∃ q : Part, Becomes (.runTargetReached dt) s q.settle ∧ stops .complete q)) ∧
     (p.outlet.run.running.read p.clock.now < ps.dispenseOpenLimit * 1000000 → Becomes (.runningTimeLimit dt) s p) ∧
     (ps.dispenseOpenLimit * 1000000 ≤ p.outlet.run.running.read p.clock.now →
       ∃ q : Part, Becomes (.runningTimeLimit dt) s q.settle ∧ stops .timeout q) ∧
     (∀ e : Nat, p.outlet.augerForward = true → p.outlet.run.jamDeadline = some e →
       (p.clock.now < e → Becomes (.jamWindowExpiry dt) s p) ∧
       (e ≤ p.clock.now → p.outlet.run.jams = 0 →
         ∃ q : Part, Becomes (.jamWindowExpiry dt) s q.settle ∧ q.outlet.state = .running ∧
           q.outlet.augerForward = false ∧ q.outlet.crusher = false ∧ q.outlet.augerReverse = true ∧
           q.outlet.run.jams = 1 ∧ q.outlet.run.reverseEnd = some (p.clock.now + 500000) ∧ q.pool = p.pool ∧
           q.ice = p.ice) ∧
       (e ≤ p.clock.now → p.outlet.run.jams = 1 →
         ∃ q : Part, Becomes (.jamWindowExpiry dt) s q.settle ∧ stops .jam q)) ∧
     (∀ e : Nat, p.outlet.augerReverse = true → p.outlet.run.reverseEnd = some e →
       (p.clock.now < e → Becomes (.reverseEnd dt) s p) ∧
       (∀ target : Nat, e ≤ p.clock.now → p.outlet.run.target = some target → target * 1000 ≤ forward →
         ∃ q : Part, Becomes (.reverseEnd dt) s q.settle ∧ stops .complete q) ∧
       (e ≤ p.clock.now → (∀ target : Nat, p.outlet.run.target = some target → forward < target * 1000) →
         ∃ q : Part, Becomes (.reverseEnd dt) s q.settle ∧ q.outlet.state = .running ∧ q.outlet.augerForward = true ∧
           q.outlet.augerReverse = false ∧ q.outlet.crusher = (t.request.form == some .crushed) ∧
           q.outlet.run.jams = p.outlet.run.jams ∧ q.outlet.run.jamDeadline = some (p.clock.now + 1000000)))) ∧
  (∀ (s : State) (dt secs : Nat) (n : TicketNo) (rest : List TicketNo), s.part.resetting = none →
     let p := s.later dt
     let t := p.ticket n
     let ps := p.supervision.params
     p.pool.queue = n :: rest → t.kind = some .loadTest → t.request.load = some .auger → t.request.seconds = some secs →
     (p.outlet.flap = .opening → p.sense.flap = some .released → p.sense.door = some .closed →
       p.sense.flapPin.stood p.clock.now 10000 .made → p.outlet.run.entered = false →
       ∃ q : Part, Becomes (.flapSwitchChange dt .made) s q.settle ∧ q.outlet.state = .running ∧
         q.outlet.flap = .opened ∧ q.outlet.augerForward = true ∧ q.outlet.crusher = false ∧
         q.outlet.run.target = some (secs * 1000) ∧ q.outlet.run.jamDeadline = some (p.clock.now + 1000000)) ∧
     (p.outlet.state = .running →
       let forward := p.outlet.run.forward.read p.clock.now
       let stops (o : TicketOutcome) (q : Part) : Prop :=
         q.outlet.state = .stopping ∧ q.outlet.ending = some o ∧ q.outlet.augerForward = false ∧
           q.outlet.augerReverse = false ∧ q.outlet.holdEnd = some (p.clock.now + ps.chuteHold * 1000000) ∧
           (q.ticket n).state = .stopping ∧ (q.ticket n).progress.measured = min (forward / 1000 / 1000) 65535 ∧
           q.ice.stock = p.ice.stock - forward / 1000 * ps.augerRate / 10000
       Becomes (.runningTimeLimit dt) s p ∧
       (∀ target : Nat, p.outlet.run.target = some target → p.outlet.augerForward = true →
         (forward < target * 1000 → Becomes (.runTargetReached dt) s p) ∧
         (target * 1000 ≤ forward → ∃ q : Part, Becomes (.runTargetReached dt) s q.settle ∧ stops .complete q)) ∧
       (∀ e : Nat, p.outlet.augerForward = true → p.outlet.run.jamDeadline = some e → e ≤ p.clock.now →
         (p.outlet.run.jams = 0 →
           ∃ q : Part, Becomes (.jamWindowExpiry dt) s q.settle ∧ q.outlet.state = .running ∧
             q.outlet.augerForward = false ∧ q.outlet.augerReverse = true ∧ q.outlet.run.jams = 1 ∧
             q.outlet.run.reverseEnd = some (p.clock.now + 500000)) ∧
         (p.outlet.run.jams = 1 →
           ∃ q : Part, Becomes (.jamWindowExpiry dt) s q.settle ∧ stops .jam q))))

/-- The flap hold ends into CLOSING, the flap driven closed for 1.5 s; the hold time of a chute test at the ticket's
seconds ends it COMPLETE through CLOSING without a flap hold; the duct timer drops the H4 demand. Before its moment
each does nothing (R136, R142, R143). -/
def Obligations.OutletTimersEnd : Prop :=
  ∀ (s : State) (dt : Nat), s.part.resetting = none →
    let p := s.later dt
    let closes (q : Part) : Prop :=
      q.outlet.state = .closing ∧ q.outlet.flap = .closing ∧ q.outlet.flapCloseOut = true ∧
        q.outlet.flapOpenOut = false ∧ q.outlet.flapDeadline = some (p.clock.now + 1500000) ∧
        q.loads.heaters[(4 : HeaterNo)].ownerDemand = true
    (∀ e : Nat, p.outlet.state = .stopping → p.outlet.holdEnd = some e →
      (p.clock.now < e → Becomes (.flapHoldEnd dt) s p) ∧
      (e ≤ p.clock.now →
        ∃ q : Part, Becomes (.flapHoldEnd dt) s q.settle ∧ closes q ∧ q.outlet.ending = p.outlet.ending ∧
          q.pool = p.pool)) ∧
    (∀ (n : TicketNo) (rest : List TicketNo) (secs : Nat), p.outlet.state = .running → p.pool.queue = n :: rest →
      (p.ticket n).kind = some .loadTest → (p.ticket n).request.load = some .chute →
      (p.ticket n).request.seconds = some secs →
      (p.outlet.run.hold.read p.clock.now < secs * 1000000 → Becomes (.chuteTestHoldEnd dt) s p) ∧
      (secs * 1000000 ≤ p.outlet.run.hold.read p.clock.now →
        ∃ q : Part, Becomes (.chuteTestHoldEnd dt) s q.settle ∧ closes q ∧ q.outlet.ending = some .complete ∧
          (q.ticket n).state = .stopping ∧
          (q.ticket n).progress.measured = min (p.outlet.run.hold.read p.clock.now / 1000000) 65535 ∧
          q.ice = p.ice)) ∧
    (∀ e : Nat, p.outlet.ductEnd = some e →
      (p.clock.now < e → Becomes (.ductTimerEnd dt) s p) ∧
      (e ≤ p.clock.now →
        ∃ q : Part, Becomes (.ductTimerEnd dt) s q.settle ∧ q.outlet.ductEnd = none ∧
          q.loads.heaters[(4 : HeaterNo)].ownerDemand = false ∧ q.pool = p.pool ∧ q.line = p.line))

/-! The Defrost Controller. -/

/-- COMPRESSOR sets the compressor state in every defrost state and answers the defrost reply data; RUNNING taken in
HEATING also sets COMPRESSOR_ON in the cycle record, and nothing else changes. Any other value is refused RANGE, and a
payload of another length BAD_LENGTH (R152, R195, R208). That these two refusals carry the defrost reply data, which
R147 gives to the replies of the defrost commands and R152 names with OK alone, is the model's reading (log 14). -/
def Obligations.CompressorIsReported : Prop :=
  (∀ (s : State) (dt : Nat) (tag : Byte) (payload : List Byte), s.linkIdle → payload.length ≤ 64 →
    payload.length ≠ 1 →
    let i : Instr := .compressor dt tag payload
    let q := s.heard i
    Answers i s .badLength
      (q.defrost.state.code :: (nat16 q.defrost.credit ++ nat16 q.defrost.target) ++ [optTicket q.pool.defrostSlot])
      q) ∧
  ∀ (s : State) (dt : Nat) (tag c : Byte), s.linkIdle →
    let i : Instr := .compressor dt tag [c]
    let q := s.heard i
    let data (t : Part) : List Byte :=
      t.defrost.state.code :: (nat16 t.defrost.credit ++ nat16 t.defrost.target) ++ [optTicket t.pool.defrostSlot]
    (c = 0 → Answers i s .ok (data q) { q with defrost.compressorRunning := false }) ∧
    (c = 1 → q.defrost.state ≠ .heating → Answers i s .ok (data q) { q with defrost.compressorRunning := true }) ∧
    (c = 1 → q.defrost.state = .heating →
      Answers i s .ok (data q)
        { q with
          defrost.compressorRunning := true
          defrost.cycle := q.defrost.cycle.map fun r => { r with compressorOn := true } }) ∧
    (c ≠ 0 → c ≠ 1 → Answers i s .range (data q) q)

/-- GO in WANTED or DEFERRED, and DEFROST_FORCE in ACCRUING, WANTED or DEFERRED, enter PREP: a DEFROST_CYCLE in the defrost
slot, a new cycle record with the credit at start, FORCED as noted, and no time running; HEATING follows at once unless
the ice maker is in HARVEST_HEAT or EJECT. In any other state they are answered STATE (R153, R155, R158, R159, R161).
In PREP with the ice maker, as last handed, out of HARVEST_HEAT and EJECT, HEATING begins: the DEFROST_CYCLE is ACTIVE,
and H0 and H1 are demanded; while it is in one of them the wait goes on (R159, R161). -/
def Obligations.CyclesEnterPrepAndHeat : Prop :=
  (∀ (s : State) (dt : Nat) (tag m : Byte), s.linkIdle →
     let data (t : Part) : List Byte :=
       t.defrost.state.code :: (nat16 t.defrost.credit ++ nat16 t.defrost.target) ++ [optTicket t.pool.defrostSlot]
     ∀ (i : Instr) (forced : Bool),
       (i = .defrostReplyGo dt tag m ∧ forced = false ∨ i = .defrostForce dt tag [] ∧ forced = true) →
       let q := s.heard i
       let st := s.part.defrost.state
       ((st = .prep ∨ st = .heating ∨ st = .dwell ∨ st = .recover ∨ (st = .accruing ∧ forced = false)) →
         Answers i s .state (data q) q) ∧
       ∀ (n : TicketNo) (rest : List TicketNo), q.pool.free = n :: rest → n ∉ q.pool.completion →
         (st = .wanted ∨ st = .deferred ∨ (st = .accruing ∧ forced = true)) →
         ∃ (t : Part) (c : Cycle), Answers i s .ok (data t.settle) t.settle ∧ t.pool.defrostSlot = some n ∧
           (t.ticket n).kind = some .defrostCycle ∧ (t.ticket n).origin = some .defrost ∧ (t.ticket n).tag = none ∧
           t.defrost.cycle = some c ∧ c.startTime = q.clock.partSeconds ∧ c.creditAtStart = q.defrost.credit ∧
           c.forced = forced ∧ c.ungranted = false ∧ c.heatSeconds = 0 ∧ c.h0Slots = 0 ∧ c.peak = none ∧
           t.defrost.deferEnd = none ∧ t.defrost.wantTime.since = none ∧ t.defrost.silentWant.since = none ∧
           t.defrost.credit = q.defrost.credit ∧ t.ice.defrostCopy = t.defrost.state ∧
           ((q.defrost.iceCopy = .harvestHeat ∨ q.defrost.iceCopy = .eject) →
             t.defrost.state = .prep ∧ (t.ticket n).state = .queued ∧ t.loads = q.loads) ∧
           (q.defrost.iceCopy ≠ .harvestHeat → q.defrost.iceCopy ≠ .eject →
             t.defrost.state = .heating ∧ (t.ticket n).state = .active ∧
               (t.ticket n).progress.startTime = some q.clock.partSeconds ∧
               c.heatingStart = some q.clock.partSeconds ∧
               t.loads.heaters[(0 : HeaterNo)].ownerDemand = true ∧
               t.loads.heaters[(1 : HeaterNo)].ownerDemand = true ∧
               (q.defrost.compressorRunning = true → c.compressorOn = true) ∧
               (q.sense.channels[evap].fault = true → c.sensor = true ∧ (t.ticket n).progress.sensor = true))) ∧
  (∀ (s : State) (dt : Nat) (n : TicketNo) (c : Cycle), s.part.resetting = none → s.part.defrost.state = .prep →
     let p := s.later dt
     p.pool.defrostSlot = some n → p.defrost.cycle = some c →
     ((p.defrost.iceCopy = .harvestHeat ∨ p.defrost.iceCopy = .eject) →
       Becomes (.defrostHeatingStart dt) s p.settle) ∧
     (p.defrost.iceCopy ≠ .harvestHeat → p.defrost.iceCopy ≠ .eject →
       ∃ (q : Part) (d : Cycle), Becomes (.defrostHeatingStart dt) s q.settle ∧ q.defrost.state = .heating ∧
         q.ice.defrostCopy = .heating ∧ (q.ticket n).state = .active ∧
         (q.ticket n).progress.startTime = some p.clock.partSeconds ∧
         (q.ticket n).progress.ungranted = c.ungranted ∧ q.defrost.cycle = some d ∧
         d.heatingStart = some p.clock.partSeconds ∧ d.heatingFrom = some p.clock.now ∧
         q.loads.heaters[(0 : HeaterNo)].ownerDemand = true ∧ q.loads.heaters[(1 : HeaterNo)].ownerDemand = true))

/-- DEFER of 1 to 120 minutes in WANTED enters DEFERRED with the defer timer running and the want time going on; outside 1
to 120 it is refused RANGE, with the defrost reply data, which R147 gives and R153 names for OK and STATE alone (log
14), and in another state STATE. The timer's end, and not before, returns to WANTED with DEFROST_WANTED set again
(R153, R154). The want time at WANT_LIMIT, in WANTED or DEFERRED, and 60 minutes of silence in WANTED enter PREP
UNGRANTED; a WANT_LIMIT of 0 and any earlier moment do nothing (R156, R157, R158). -/
def Obligations.WantedWaitsAndForces : Prop :=
  (∀ (s : State) (dt : Nat),
     (∀ tag m : Byte, s.linkIdle →
       let i : Instr := .defrostReplyDefer dt tag m
       let q := s.heard i
       let data (t : Part) : List Byte :=
         t.defrost.state.code :: (nat16 t.defrost.credit ++ nat16 t.defrost.target) ++ [optTicket t.pool.defrostSlot]
       ((m.toNat < 1 ∨ 120 < m.toNat) → Answers i s .range (data q) q) ∧
       (1 ≤ m.toNat → m.toNat ≤ 120 → q.defrost.state ≠ .wanted → Answers i s .state (data q) q) ∧
       (1 ≤ m.toNat → m.toNat ≤ 120 → q.defrost.state = .wanted →
         ∃ t : Part, Answers i s .ok (data t.settle) t.settle ∧ t.defrost.state = .deferred ∧
           t.ice.defrostCopy = .deferred ∧ t.defrost.deferEnd = some (q.clock.now + m.toNat * 60000000) ∧
           t.defrost.wantTime = q.defrost.wantTime ∧ t.defrost.credit = q.defrost.credit ∧ t.loads = q.loads)) ∧
     (∀ e : Nat, s.part.resetting = none → s.part.defrost.state = .deferred →
       let p := s.later dt
       p.defrost.deferEnd = some e →
       (p.clock.now < e → Becomes (.deferTimerEnd dt) s p) ∧
       (e ≤ p.clock.now →
         ∃ q : Part, Becomes (.deferTimerEnd dt) s q.settle ∧ q.defrost.state = .wanted ∧ q.defrost.deferEnd = none ∧
           q.ice.defrostCopy = .wanted ∧ q.isPending .defrostWanted = true ∧ q.defrost.wantTime = p.defrost.wantTime ∧
           q.defrost.silentWant =
             (if p.supervision.silent then { counted := 0, since := some p.clock.now } else {})))) ∧
  (∀ (s : State) (dt : Nat), s.part.resetting = none →
     let p := s.later dt
     let limit := p.supervision.params.wantLimit
     let ungranted (q : Part) : Prop :=
       (q.defrost.state = .prep ∨ q.defrost.state = .heating) ∧ q.defrost.deferEnd = none ∧
         q.defrost.wantTime.since = none ∧ q.pool.defrostSlot = p.pool.free.head? ∧
         ∃ c : Cycle, q.defrost.cycle = some c ∧ c.ungranted = true ∧ c.forced = false ∧
           c.creditAtStart = p.defrost.credit ∧ c.startTime = p.clock.partSeconds
     ((p.defrost.state = .wanted ∨ p.defrost.state = .deferred) → limit ≠ 0 →
       limit * 60000000 ≤ p.defrost.wantTime.read p.clock.now →
       ∃ q : Part, Becomes (.wantLimitReached dt) s q.settle ∧ ungranted q) ∧
     ((limit = 0 ∨ p.defrost.wantTime.read p.clock.now < limit * 60000000 ∨
         (p.defrost.state ≠ .wanted ∧ p.defrost.state ≠ .deferred)) → Becomes (.wantLimitReached dt) s p) ∧
     (p.defrost.state = .wanted → p.supervision.silent = true →
       3600000000 ≤ p.defrost.silentWant.read p.clock.now →
       ∃ q : Part, Becomes (.silentWantLimit dt) s q.settle ∧ ungranted q) ∧
     ((p.defrost.state ≠ .wanted ∨ p.supervision.silent = false ∨
         p.defrost.silentWant.read p.clock.now < 3600000000) → Becomes (.silentWantLimit dt) s p))

/-- The end of heating, by DEFROST_HEAT_LIMIT, by half of it with EVAP in FAULT, or by DEFROST_ABORT: DWELL begins for
DRIP_TIME, H0 is dropped at once and H1 stays demanded, the heat seconds become the ticket's measured amount, and
STARVED is judged; before the limit nothing but time passes (R162 to R165). DEFROST_ABORT in PREP ends the cycle DONE
ABORTED with a log record and the target unchanged, back into ACCRUING, or at once into WANTED with the credit at the
target; in ACCRUING, WANTED, DEFERRED, DWELL and RECOVER it is answered STATE (R160, R169). -/
def Obligations.HeatingAndPrepEnd : Prop :=
  (∀ (s : State) (dt from_ start : Nat) (n : TicketNo) (c : Cycle), s.part.defrost.state = .heating →
     s.part.defrost.cycle = some c → c.heatingFrom = some from_ → c.heatingStart = some start →
     s.part.pool.defrostSlot = some n →
     let ps := s.part.supervision.params
     let ended (p q : Part) (r : EndReason) : Prop :=
       q.defrost.state = .dwell ∧ q.ice.defrostCopy = .dwell ∧
         q.defrost.dwellEnd = some (p.clock.now + ps.dripTime * 60000000) ∧
         q.loads.heaters[(0 : HeaterNo)].ownerDemand = false ∧
         (p.loads.heaters[(0 : HeaterNo)].ownerDemand = true → p.loads.heaters[(0 : HeaterNo)].testDemand = false →
           q.loads.heaters[(0 : HeaterNo)].grant = false) ∧
         q.loads.heaters[(1 : HeaterNo)] = p.loads.heaters[(1 : HeaterNo)] ∧
         (q.ticket n).progress.measured = min (p.clock.partSeconds - start) 65535 ∧
         (q.ticket n).progress.starved = decide (c.h0Slots < 4 * c.h0Denied) ∧
         ∃ d : Cycle, q.defrost.cycle = some d ∧ d.endReason = some r ∧ d.heatSeconds = p.clock.partSeconds - start ∧
           d.starved = decide (c.h0Slots < 4 * c.h0Denied)
     (s.part.resetting = none →
       let p := s.later dt
       let limit := ps.defrostHeatLimit * (if p.sense.channels[evap].fault then 30 else 60)
       (p.clock.now < from_ + limit * 1000000 → Becomes (.defrostHeatLimitExpiry dt) s p) ∧
       (from_ + limit * 1000000 ≤ p.clock.now →
         ∃ q : Part, Becomes (.defrostHeatLimitExpiry dt) s q.settle ∧
           ended p q (if p.sense.channels[evap].fault then .sensor else .heatLimit))) ∧
     (∀ tag : Byte, s.linkIdle →
       ∃ t : Part, Answers (.defrostAbort dt tag []) s .ok
           (t.settle.defrost.state.code :: (nat16 t.settle.defrost.credit ++ nat16 t.settle.defrost.target) ++
             [optTicket t.settle.pool.defrostSlot]) t.settle ∧
         ended (s.heard (.defrostAbort dt tag [])) t .aborted)) ∧
  (∀ (s : State) (dt : Nat) (tag : Byte), s.linkIdle →
     let i : Instr := .defrostAbort dt tag []
     let q := s.heard i
     let data (t : Part) : List Byte :=
       t.defrost.state.code :: (nat16 t.defrost.credit ++ nat16 t.defrost.target) ++ [optTicket t.pool.defrostSlot]
     (q.defrost.state ≠ .prep → q.defrost.state ≠ .heating → Answers i s .state (data q) q) ∧
     (∀ (n : TicketNo) (c : Cycle), q.defrost.state = .prep → q.pool.defrostSlot = some n →
       q.defrost.cycle = some c → 4 ≤ q.pool.free.length →
       ∃ (t : Part) (r : LogRecord), Answers i s .ok (data t.settle) t.settle ∧ t.pool.defrostSlot = none ∧
         (t.ticket n).state = .done ∧ (t.ticket n).progress.outcome = some .aborted ∧ t.defrost.cycle = none ∧
         t.defrost.log = (if q.defrost.log.length < 8 then q.defrost.log else q.defrost.log.tail) ++ [r] ∧
         r.endReason = .aborted ∧ r.targetAfter = q.defrost.target ∧ r.startTime = c.startTime ∧
         t.defrost.target = q.defrost.target ∧ t.defrost.credit = q.defrost.credit ∧ t.loads = q.loads ∧
         t.defrost.state = (if q.defrost.target ≤ q.defrost.credit then .wanted else .accruing)))

/-- DRIP_TIME, and not before, ends DWELL: H1 is dropped, DEFROST_DONE is pending, and RECOVER begins for RECOVER_LIMIT
(R165). RECOVER_LIMIT, and not before, ends RECOVER: the target is adapted by Table 7-3, a log record is written, the
ticket is DONE with the outcome of the end reason, credit and part-minute counts are 0, FAN_RELEASE is pending, and the
controller is in ACCRUING (R164, R166, R168, R169). -/
def Obligations.CycleEndsInAccruing : Prop :=
  ∀ (s : State) (dt e : Nat) (n : TicketNo) (c : Cycle), s.part.resetting = none →
    let p := s.later dt
    let ps := p.supervision.params
    p.defrost.cycle = some c → p.pool.defrostSlot = some n →
    (p.defrost.state = .dwell → p.defrost.dwellEnd = some e →
      (p.clock.now < e → Becomes (.dwellEnd dt) s p) ∧
      (e ≤ p.clock.now →
        ∃ q : Part, Becomes (.dwellEnd dt) s q.settle ∧ q.defrost.state = .recover ∧ q.ice.defrostCopy = .recover ∧
          q.loads.heaters[(1 : HeaterNo)].ownerDemand = false ∧ q.isPending .defrostDone = true ∧
          q.defrost.recoverEnd = some (p.clock.now + ps.recoverLimit * 60000000) ∧ q.defrost.credit = p.defrost.credit)) ∧
    (∀ r : EndReason, p.defrost.state = .recover → p.defrost.recoverEnd = some e → c.endReason = some r →
      4 ≤ p.pool.free.length →
      let target :=
        if c.starved ∨ c.sensor ∨ c.ungranted ∨ r = .aborted then p.defrost.target
        else if r = .heatLimit then ps.defrostMinH * 60
        else if c.heatSeconds < ps.shortHeat * 60 then min (p.defrost.target + ps.adaptStep * 60) (ps.defrostMaxH * 60)
        else if ps.longHeat * 60 < c.heatSeconds then max (p.defrost.target - ps.adaptStep * 60) (ps.defrostMinH * 60)
        else p.defrost.target
      (p.clock.now < e → Becomes (.recoverLimitExpiry dt) s p) ∧
      (e ≤ p.clock.now →
        ∃ (q : Part) (l : LogRecord), Becomes (.recoverLimitExpiry dt) s q.settle ∧ q.defrost.state = .accruing ∧
          q.ice.defrostCopy = .accruing ∧ q.defrost.target = target ∧ q.defrost.credit = 0 ∧
          q.defrost.compressorSeconds = 0 ∧ q.defrost.doorSeconds = 0 ∧ q.defrost.cycle = none ∧
          q.isPending .fanRelease = true ∧ q.pool.defrostSlot = none ∧ (q.ticket n).state = .done ∧
          (q.ticket n).progress.outcome =
            some (match r with
              | .terminated => .complete
              | .heatLimit => .heatLimit
              | .sensor => .sensor
              | .aborted => .aborted
              | .reset => .aborted) ∧
          q.defrost.log = (if p.defrost.log.length < 8 then p.defrost.log else p.defrost.log.tail) ++ [l] ∧
          l = { startTime := c.startTime, creditAtStart := c.creditAtStart, heatSeconds := c.heatSeconds,
                h0Denied := c.h0Denied, h1Denied := c.h1Denied, peak := c.peak, endReason := r, forced := c.forced,
                ungranted := c.ungranted, starved := c.starved, sensor := c.sensor, compressorOn := c.compressorOn,
                targetAfter := target }))

/-! Frames and invariants. -/

/-- What follows at once from a command leaves the Sense Unit, Supervision, the clock and all of the link but the pending
set as they were; and it does nothing where nothing waits. After it nothing that could follow waits any more: no head
of the queue is ready to start, no credit has reached its target in ACCRUING, no PREP waits for an ice maker out of its
harvest, no draw of the ice maker that the pool would grant is left, no suspended fill and no fill claim stands before
a line that is free for it, and no dispense claim before an IDLE line; where tickets, slots and copies agree as the
invariants of this file say. The model's own reading of what comes together (log 7). -/
def Obligations.WhatFollowsAtOnceIsBounded : Prop :=
  ∀ p : Part,
    (p.settle.clock = p.clock ∧ p.settle.resetting = p.resetting ∧ p.settle.sense = p.sense ∧
      p.settle.supervision = p.supervision ∧ { p.settle.link with pendingSet := 0 } = { p.link with pendingSet := 0 } ∧
      p.settle.loads.budgetInForce = p.loads.budgetInForce ∧ p.settle.loads.rotation = p.loads.rotation ∧
      p.settle.loads.slot = p.loads.slot ∧ p.settle.freeCount = p.freeCount) ∧
    ((p.pool.queue = [] ∨ p.outlet.state ≠ .idle ∨ p.sense.door ≠ some .closed) →
      (p.defrost.state ≠ .accruing ∨ p.defrost.credit < p.defrost.target) → p.defrost.state ≠ .prep →
      p.ice.state ≠ .fillWait → p.ice.state ≠ .harvestWait → p.line.fillClaim = none → p.line.suspended = none →
      p.settle = p) ∧
    (p.ticketsSound → p.copiesAgree →
      let q := p.settle
      q.headReady none = false ∧ ¬(q.defrost.state = .accruing ∧ q.defrost.target ≤ q.defrost.credit) ∧
        (q.defrost.state = .prep → q.ice.state = .harvestHeat ∨ q.ice.state = .eject) ∧
        (4 ≤ q.pool.free.length → q.iceWants = none) ∧
        (q.line.state = .idle → q.line.dispenseClaim = none) ∧
        (q.line.state = .idle → q.line.supply = .ok → q.line.leakLatch = false →
          q.line.suspended = none ∧ q.line.fillClaim = none))

/-- An event, that is a row that is neither a host command, nor bytes received, nor a reply sent, nor a reset, leaves the
parameters, the lock, the curves, the rotation table, every accepted and in-force configuration outside a boundary, the
mask, the inbox, the command in execution and the reported compressor state; the filter totals outside a flow pulse and
an advance of the part seconds; the part seconds count outside an advance; and the queue of commands. -/
def Obligations.EventsLeaveTheSettings : Prop :=
  ∀ (i : Instr) (s t : State), hostRow i = none →
    (∀ dt bytes, i ≠ .frameReceived dt bytes) → (∀ dt, i ≠ .replySent dt) → (∀ dt, i ≠ .powerOn dt) →
    (∀ dt, i ≠ .lineReset dt) → (∀ dt, i ≠ .resetEnd dt) → exec i s = .next t →
    t.pending = s.pending ∧ t.part.resetting = s.part.resetting ∧
      t.part.supervision.params = s.part.supervision.params ∧ t.part.supervision.lock = s.part.supervision.lock ∧
      t.part.sense.curveA = s.part.sense.curveA ∧ t.part.sense.curveB = s.part.sense.curveB ∧
      t.part.loads.rotation = s.part.loads.rotation ∧ t.part.link.mask = s.part.link.mask ∧
      t.part.link.inbox = s.part.link.inbox ∧ t.part.link.executing = s.part.link.executing ∧
      t.part.defrost.compressorRunning = s.part.defrost.compressorRunning ∧
      (∀ n : HeaterNo, t.part.loads.heaters[n].accepted = s.part.loads.heaters[n].accepted) ∧
      ((∀ dt, i ≠ .partSecondsAdvance dt) →
        t.part.clock.partSeconds = s.part.clock.partSeconds ∧ t.part.loads.slot = s.part.loads.slot ∧
        t.part.loads.budgetInForce = s.part.loads.budgetInForce ∧
        (∀ n : HeaterNo, t.part.loads.heaters[n].inForce = s.part.loads.heaters[n].inForce) ∧
        t.part.line.filterSeconds = s.part.line.filterSeconds ∧
        ((∀ dt, i ≠ .flowPulse dt) →
          t.part.line.filterMl = s.part.line.filterMl ∧ t.part.line.filterRem = s.part.line.filterRem ∧
            t.part.line.filterStatus = s.part.line.filterStatus ∧ t.part.line.leakLatch = s.part.line.leakLatch ∧
            t.part.sense.flowCount = s.part.sense.flowCount))

/-- A host command on an idle link changes a setting only if it is the command for it: the parameters SET_PARAM, the lock
LOCK_LIMITS, the curves LOAD_CURVE, the rotation table SET_ROTATION, the accepted configuration SET_LOAD, the mask
SET_NOTICE_MASK, the compressor state COMPRESSOR, the filter volume and seconds FILTER_RESET and RESTORE_TOTALS, the
leak latch CLEAR_LEAK, and the defrost log RESTART, DEFROST_ABORT or, where they end a recovery, SET_PARAM and
LOAD_CURVE. None touches the rest of the Sense Unit, switches, pins, beam and pulse counters, nor the part seconds
count, the budget and the configuration in force or the slot position. -/
def Obligations.HostCommandsChangeTheirOwn : Prop :=
  ∀ (i : Instr) (s t : State) (dt : Nat) (f : Frame), hostRow i = some (dt, f) → i.wellFormed = true → s.linkIdle →
    exec i s = .next t →
    t.pending = s.pending ∧ t.part.clock = (s.later dt).clock ∧ t.part.resetting = none ∧ t.part.link.inbox = [] ∧
      (f.kind ≠ 0x05 → f.kind ≠ 0x10 → f.kind ≠ 0x12 → f.kind ≠ 0x53 → t.part.defrost.log = s.part.defrost.log) ∧
      (f.kind ≠ 0x10 → t.part.supervision.params = s.part.supervision.params) ∧
      (f.kind ≠ 0x17 → t.part.supervision.lock = s.part.supervision.lock) ∧
      (f.kind ≠ 0x12 → t.part.sense.curveA = s.part.sense.curveA ∧ t.part.sense.curveB = s.part.sense.curveB) ∧
      (f.kind ≠ 0x16 → t.part.loads.rotation = s.part.loads.rotation) ∧
      (f.kind ≠ 0x14 → ∀ n : HeaterNo, t.part.loads.heaters[n].accepted = s.part.loads.heaters[n].accepted) ∧
      (f.kind ≠ 0x04 → t.part.link.mask = s.part.link.mask) ∧
      (f.kind ≠ 0x50 → t.part.defrost.compressorRunning = s.part.defrost.compressorRunning) ∧
      (f.kind ≠ 0x39 → f.kind ≠ 0x3B →
        t.part.line.filterMl = s.part.line.filterMl ∧ t.part.line.filterSeconds = s.part.line.filterSeconds) ∧
      (f.kind ≠ 0x38 → t.part.line.leakLatch = s.part.line.leakLatch ∧ t.part.line.leakTime = s.part.line.leakTime) ∧
      (f.kind ≠ 0x30 → t.part.sense.scan = s.part.sense.scan) ∧ t.part.sense.channels = s.part.sense.channels ∧
      { s.part.sense with
          scan := t.part.sense.scan, curveA := t.part.sense.curveA, curveB := t.part.sense.curveB } = t.part.sense ∧
      t.part.loads.budgetInForce = s.part.loads.budgetInForce ∧ t.part.loads.slot = s.part.loads.slot ∧
      (∀ n : HeaterNo, t.part.loads.heaters[n].inForce = s.part.loads.heaters[n].inForce)

/-- R66 holds after every step from a state in which it holds: at most one user valve is open, each only while the line
owner is its user, and the inlet exactly with one of them. -/
def Obligations.ValvesStaySafe : Prop :=
  ∀ s t : State, s.part.line.valvesSafe → step s = .next t → t.part.line.valvesSafe

/-- R51, R54 and R58 hold after every step from a state in which they hold: a heater holds a grant only while it is
demanded, and the watts in force of the granted heaters are within the budget in force. R51 holds after every step from
a state in which it holds with the tickets, the slots and the line in agreement: an owner demand stands only in the
states that its owner's chapter gives, H0 in HEATING, H1 in HEATING and DWELL, H2 in HARVEST_HEAT and EJECT, H3 in
FILLING, and H4 while the flap position is not CLOSED or the duct timer runs. -/
def Obligations.GrantsStayWithinTheBudget : Prop :=
  (∀ s t : State, s.part.loads.withinBudget → s.part.loads.grantsDemanded → step s = .next t →
     t.part.loads.withinBudget ∧ t.part.loads.grantsDemanded) ∧
  (∀ s t : State, s.part.ticketsSound → s.part.demandsStand → step s = .next t → t.part.demandsStand)

/-- R103 holds after every step from a state in which it holds with each controller's copy of the other's state right: the
ice maker is never in HARVEST_HEAT or EJECT while the Defrost Controller is in HEATING. -/
def Obligations.HarvestAndHeatingStayApart : Prop :=
  ∀ s t : State, s.part.copiesAgree → s.part.interlocked → step s = .next t →
    t.part.copiesAgree ∧ t.part.interlocked

/-- Every step keeps every parameter in the range of Table 8-1 and the pair conditions of R176. Every step keeps the inbox
within 4 frames, the defrost log within 8 records, every ring within 4 values, every run of good values within 7 and
every starvation count within 255 (R9, R31, R34, R170, R194). -/
def Obligations.SettingsAndListsStayBounded : Prop :=
  (∀ s t : State, s.part.supervision.params.legal → step s = .next t → t.part.supervision.params.legal) ∧
  (∀ s t : State, s.part.listsBounded → step s = .next t → t.part.listsBounded)

/-- Every step keeps the motors safe: the auger is never driven both ways, the crusher only with the auger forward, and the
flap is never driven both ways, each flap output only in its own motion (R130, R134). -/
def Obligations.MotorsStaySafe : Prop :=
  ∀ s t : State, s.part.outlet.motorsSafe → step s = .next t → t.part.outlet.motorsSafe

/-- R1 and R122 hold after every step from a state in which they hold, with the outlet, the line and the slots in
agreement: each of the 24 tickets is in exactly one of free list, dispenser queue, completion queue and the three
slots, in a state that Table 1-1 gives for it, and the dispenser queue holds at most 8 tickets, of which only the head
may be ACTIVE or STOPPING. -/
def Obligations.TicketsStayInOnePlace : Prop :=
  ∀ s t : State, s.part.ticketsSound → step s = .next t → t.part.ticketsSound

/-- The invariants hold right after reset. -/
def Obligations.InvariantsHoldAtReset : Prop :=
  State.reset.part.line.valvesSafe ∧ State.reset.part.loads.withinBudget ∧ State.reset.part.loads.grantsDemanded ∧
    State.reset.part.copiesAgree ∧ State.reset.part.interlocked ∧ State.reset.part.supervision.params.legal ∧
    State.reset.part.listsBounded ∧ State.reset.part.outlet.motorsSafe ∧ State.reset.part.ticketsSound ∧
    State.reset.part.demandsStand
end

