-- ==== Sys2Proof/Laws/State.lean ====
section
/-! SUPPORT. The updates of the state, field by field, true by rfl: later proofs rewrite with these and unfold no record. -/

namespace Sys2Proof.Machine

@[simp] theorem notify_clock (p : Part) (n : Notice) : (p.notify n).clock = p.clock := rfl
@[simp] theorem notify_resetting (p : Part) (n : Notice) : (p.notify n).resetting = p.resetting := rfl
@[simp] theorem notify_link (p : Part) (n : Notice) : (p.notify n).link = { p.link with pendingSet := p.link.pendingSet ||| n.bit } := rfl
@[simp] theorem notify_pool (p : Part) (n : Notice) : (p.notify n).pool = p.pool := rfl
@[simp] theorem notify_sense (p : Part) (n : Notice) : (p.notify n).sense = p.sense := rfl
@[simp] theorem notify_loads (p : Part) (n : Notice) : (p.notify n).loads = p.loads := rfl
@[simp] theorem notify_line (p : Part) (n : Notice) : (p.notify n).line = p.line := rfl
@[simp] theorem notify_ice (p : Part) (n : Notice) : (p.notify n).ice = p.ice := rfl
@[simp] theorem notify_outlet (p : Part) (n : Notice) : (p.notify n).outlet = p.outlet := rfl
@[simp] theorem notify_defrost (p : Part) (n : Notice) : (p.notify n).defrost = p.defrost := rfl
@[simp] theorem notify_supervision (p : Part) (n : Notice) : (p.notify n).supervision = p.supervision := rfl
@[simp] theorem notify_freeCount (p : Part) (n : Notice) : (p.notify n).freeCount = p.freeCount := rfl

@[simp] theorem elapse_clock (p : Part) (dt : Nat) : (p.elapse dt).clock = ⟨p.clock.now + dt, p.clock.partSeconds⟩ := rfl
@[simp] theorem elapse_resetting (p : Part) (dt : Nat) : (p.elapse dt).resetting = p.resetting := rfl
@[simp] theorem elapse_link (p : Part) (dt : Nat) : (p.elapse dt).link = p.link := rfl
@[simp] theorem elapse_pool (p : Part) (dt : Nat) : (p.elapse dt).pool = p.pool := rfl
@[simp] theorem elapse_sense (p : Part) (dt : Nat) : (p.elapse dt).sense = p.sense := rfl
@[simp] theorem elapse_loads (p : Part) (dt : Nat) : (p.elapse dt).loads = p.loads := rfl
@[simp] theorem elapse_line (p : Part) (dt : Nat) : (p.elapse dt).line = p.line := rfl
@[simp] theorem elapse_ice (p : Part) (dt : Nat) : (p.elapse dt).ice = p.ice := rfl
@[simp] theorem elapse_outlet (p : Part) (dt : Nat) : (p.elapse dt).outlet = p.outlet := rfl
@[simp] theorem elapse_defrost (p : Part) (dt : Nat) : (p.elapse dt).defrost = p.defrost := rfl
@[simp] theorem elapse_supervision (p : Part) (dt : Nat) : (p.elapse dt).supervision = p.supervision := rfl
@[simp] theorem elapse_freeCount (p : Part) (dt : Nat) : (p.elapse dt).freeCount = p.freeCount := rfl

@[simp] theorem reach_clock (p : Part) (t : Nat) : (p.reach t).clock = ⟨max p.clock.now t, p.clock.partSeconds⟩ := rfl
@[simp] theorem reach_resetting (p : Part) (t : Nat) : (p.reach t).resetting = p.resetting := rfl
@[simp] theorem reach_link (p : Part) (t : Nat) : (p.reach t).link = p.link := rfl
@[simp] theorem reach_pool (p : Part) (t : Nat) : (p.reach t).pool = p.pool := rfl
@[simp] theorem reach_sense (p : Part) (t : Nat) : (p.reach t).sense = p.sense := rfl
@[simp] theorem reach_loads (p : Part) (t : Nat) : (p.reach t).loads = p.loads := rfl
@[simp] theorem reach_line (p : Part) (t : Nat) : (p.reach t).line = p.line := rfl
@[simp] theorem reach_ice (p : Part) (t : Nat) : (p.reach t).ice = p.ice := rfl
@[simp] theorem reach_outlet (p : Part) (t : Nat) : (p.reach t).outlet = p.outlet := rfl
@[simp] theorem reach_defrost (p : Part) (t : Nat) : (p.reach t).defrost = p.defrost := rfl
@[simp] theorem reach_supervision (p : Part) (t : Nat) : (p.reach t).supervision = p.supervision := rfl
@[simp] theorem reach_freeCount (p : Part) (t : Nat) : (p.reach t).freeCount = p.freeCount := rfl

@[simp] theorem updateTicket_clock (p : Part) (n : TicketNo) (f : Ticket → Ticket) : (p.updateTicket n f).clock = p.clock := rfl
@[simp] theorem updateTicket_resetting (p : Part) (n : TicketNo) (f : Ticket → Ticket) : (p.updateTicket n f).resetting = p.resetting := rfl
@[simp] theorem updateTicket_link (p : Part) (n : TicketNo) (f : Ticket → Ticket) : (p.updateTicket n f).link = p.link := rfl
@[simp] theorem updateTicket_pool (p : Part) (n : TicketNo) (f : Ticket → Ticket) : (p.updateTicket n f).pool = { p.pool with tickets := p.pool.tickets.set n (f p.pool.tickets[n]) } := rfl
@[simp] theorem updateTicket_sense (p : Part) (n : TicketNo) (f : Ticket → Ticket) : (p.updateTicket n f).sense = p.sense := rfl
@[simp] theorem updateTicket_loads (p : Part) (n : TicketNo) (f : Ticket → Ticket) : (p.updateTicket n f).loads = p.loads := rfl
@[simp] theorem updateTicket_line (p : Part) (n : TicketNo) (f : Ticket → Ticket) : (p.updateTicket n f).line = p.line := rfl
@[simp] theorem updateTicket_ice (p : Part) (n : TicketNo) (f : Ticket → Ticket) : (p.updateTicket n f).ice = p.ice := rfl
@[simp] theorem updateTicket_outlet (p : Part) (n : TicketNo) (f : Ticket → Ticket) : (p.updateTicket n f).outlet = p.outlet := rfl
@[simp] theorem updateTicket_defrost (p : Part) (n : TicketNo) (f : Ticket → Ticket) : (p.updateTicket n f).defrost = p.defrost := rfl
@[simp] theorem updateTicket_supervision (p : Part) (n : TicketNo) (f : Ticket → Ticket) : (p.updateTicket n f).supervision = p.supervision := rfl
@[simp] theorem updateTicket_freeCount (p : Part) (n : TicketNo) (f : Ticket → Ticket) : (p.updateTicket n f).freeCount = p.freeCount := rfl

@[simp] theorem starve_clock (p : Part) (o : Origin) : (p.starve o).clock = p.clock := rfl
@[simp] theorem starve_resetting (p : Part) (o : Origin) : (p.starve o).resetting = p.resetting := rfl
@[simp] theorem starve_link (p : Part) (o : Origin) : (p.starve o).link = p.link := rfl
@[simp] theorem starve_pool (p : Part) (o : Origin) : (p.starve o).pool = { p.pool with starvation := p.pool.starvation.bump o } := rfl
@[simp] theorem starve_sense (p : Part) (o : Origin) : (p.starve o).sense = p.sense := rfl
@[simp] theorem starve_loads (p : Part) (o : Origin) : (p.starve o).loads = p.loads := rfl
@[simp] theorem starve_line (p : Part) (o : Origin) : (p.starve o).line = p.line := rfl
@[simp] theorem starve_ice (p : Part) (o : Origin) : (p.starve o).ice = p.ice := rfl
@[simp] theorem starve_outlet (p : Part) (o : Origin) : (p.starve o).outlet = p.outlet := rfl
@[simp] theorem starve_defrost (p : Part) (o : Origin) : (p.starve o).defrost = p.defrost := rfl
@[simp] theorem starve_supervision (p : Part) (o : Origin) : (p.starve o).supervision = p.supervision := rfl
@[simp] theorem starve_freeCount (p : Part) (o : Origin) : (p.starve o).freeCount = p.freeCount := rfl

@[simp] theorem spendFree_clock (p : Part) : (p.spendFree).clock = p.clock := rfl
@[simp] theorem spendFree_resetting (p : Part) : (p.spendFree).resetting = p.resetting := rfl
@[simp] theorem spendFree_link (p : Part) : (p.spendFree).link = p.link := rfl
@[simp] theorem spendFree_pool (p : Part) : (p.spendFree).pool = p.pool := rfl
@[simp] theorem spendFree_sense (p : Part) : (p.spendFree).sense = p.sense := rfl
@[simp] theorem spendFree_loads (p : Part) : (p.spendFree).loads = p.loads := rfl
@[simp] theorem spendFree_line (p : Part) : (p.spendFree).line = p.line := rfl
@[simp] theorem spendFree_ice (p : Part) : (p.spendFree).ice = p.ice := rfl
@[simp] theorem spendFree_outlet (p : Part) : (p.spendFree).outlet = p.outlet := rfl
@[simp] theorem spendFree_defrost (p : Part) : (p.spendFree).defrost = p.defrost := rfl
@[simp] theorem spendFree_supervision (p : Part) : (p.spendFree).supervision = p.supervision := rfl
@[simp] theorem spendFree_freeCount (p : Part) : (p.spendFree).freeCount = p.freeCount + 1 := rfl

@[simp] theorem raiseOwner_clock (p : Part) (h : HeaterNo) : (p.raiseOwner h).clock = p.clock := rfl
@[simp] theorem raiseOwner_resetting (p : Part) (h : HeaterNo) : (p.raiseOwner h).resetting = p.resetting := rfl
@[simp] theorem raiseOwner_link (p : Part) (h : HeaterNo) : (p.raiseOwner h).link = p.link := rfl
@[simp] theorem raiseOwner_pool (p : Part) (h : HeaterNo) : (p.raiseOwner h).pool = p.pool := rfl
@[simp] theorem raiseOwner_sense (p : Part) (h : HeaterNo) : (p.raiseOwner h).sense = p.sense := rfl
@[simp] theorem raiseOwner_loads (p : Part) (h : HeaterNo) : (p.raiseOwner h).loads = p.loads.update h Heater.raiseOwner := rfl
@[simp] theorem raiseOwner_line (p : Part) (h : HeaterNo) : (p.raiseOwner h).line = p.line := rfl
@[simp] theorem raiseOwner_ice (p : Part) (h : HeaterNo) : (p.raiseOwner h).ice = p.ice := rfl
@[simp] theorem raiseOwner_outlet (p : Part) (h : HeaterNo) : (p.raiseOwner h).outlet = p.outlet := rfl
@[simp] theorem raiseOwner_defrost (p : Part) (h : HeaterNo) : (p.raiseOwner h).defrost = p.defrost := rfl
@[simp] theorem raiseOwner_supervision (p : Part) (h : HeaterNo) : (p.raiseOwner h).supervision = p.supervision := rfl
@[simp] theorem raiseOwner_freeCount (p : Part) (h : HeaterNo) : (p.raiseOwner h).freeCount = p.freeCount := rfl

@[simp] theorem dropOwner_clock (p : Part) (h : HeaterNo) : (p.dropOwner h).clock = p.clock := rfl
@[simp] theorem dropOwner_resetting (p : Part) (h : HeaterNo) : (p.dropOwner h).resetting = p.resetting := rfl
@[simp] theorem dropOwner_link (p : Part) (h : HeaterNo) : (p.dropOwner h).link = p.link := rfl
@[simp] theorem dropOwner_pool (p : Part) (h : HeaterNo) : (p.dropOwner h).pool = p.pool := rfl
@[simp] theorem dropOwner_sense (p : Part) (h : HeaterNo) : (p.dropOwner h).sense = p.sense := rfl
@[simp] theorem dropOwner_loads (p : Part) (h : HeaterNo) : (p.dropOwner h).loads = p.loads.update h Heater.dropOwner := rfl
@[simp] theorem dropOwner_line (p : Part) (h : HeaterNo) : (p.dropOwner h).line = p.line := rfl
@[simp] theorem dropOwner_ice (p : Part) (h : HeaterNo) : (p.dropOwner h).ice = p.ice := rfl
@[simp] theorem dropOwner_outlet (p : Part) (h : HeaterNo) : (p.dropOwner h).outlet = p.outlet := rfl
@[simp] theorem dropOwner_defrost (p : Part) (h : HeaterNo) : (p.dropOwner h).defrost = p.defrost := rfl
@[simp] theorem dropOwner_supervision (p : Part) (h : HeaterNo) : (p.dropOwner h).supervision = p.supervision := rfl
@[simp] theorem dropOwner_freeCount (p : Part) (h : HeaterNo) : (p.dropOwner h).freeCount = p.freeCount := rfl

@[simp] theorem dropTest_clock (p : Part) (h : HeaterNo) : (p.dropTest h).clock = p.clock := rfl
@[simp] theorem dropTest_resetting (p : Part) (h : HeaterNo) : (p.dropTest h).resetting = p.resetting := rfl
@[simp] theorem dropTest_link (p : Part) (h : HeaterNo) : (p.dropTest h).link = p.link := rfl
@[simp] theorem dropTest_pool (p : Part) (h : HeaterNo) : (p.dropTest h).pool = p.pool := rfl
@[simp] theorem dropTest_sense (p : Part) (h : HeaterNo) : (p.dropTest h).sense = p.sense := rfl
@[simp] theorem dropTest_loads (p : Part) (h : HeaterNo) : (p.dropTest h).loads = p.loads.update h Heater.dropTest := rfl
@[simp] theorem dropTest_line (p : Part) (h : HeaterNo) : (p.dropTest h).line = p.line := rfl
@[simp] theorem dropTest_ice (p : Part) (h : HeaterNo) : (p.dropTest h).ice = p.ice := rfl
@[simp] theorem dropTest_outlet (p : Part) (h : HeaterNo) : (p.dropTest h).outlet = p.outlet := rfl
@[simp] theorem dropTest_defrost (p : Part) (h : HeaterNo) : (p.dropTest h).defrost = p.defrost := rfl
@[simp] theorem dropTest_supervision (p : Part) (h : HeaterNo) : (p.dropTest h).supervision = p.supervision := rfl
@[simp] theorem dropTest_freeCount (p : Part) (h : HeaterNo) : (p.dropTest h).freeCount = p.freeCount := rfl

@[simp] theorem startHeaterTest_clock (p : Part) (h : HeaterNo) : (p.startHeaterTest h).clock = p.clock := rfl
@[simp] theorem startHeaterTest_resetting (p : Part) (h : HeaterNo) : (p.startHeaterTest h).resetting = p.resetting := rfl
@[simp] theorem startHeaterTest_link (p : Part) (h : HeaterNo) : (p.startHeaterTest h).link = p.link := rfl
@[simp] theorem startHeaterTest_pool (p : Part) (h : HeaterNo) : (p.startHeaterTest h).pool = p.pool := rfl
@[simp] theorem startHeaterTest_sense (p : Part) (h : HeaterNo) : (p.startHeaterTest h).sense = p.sense := rfl
@[simp] theorem startHeaterTest_loads (p : Part) (h : HeaterNo) : (p.startHeaterTest h).loads = { p.loads.update h Heater.raiseTest with testSlots := 0 } := rfl
@[simp] theorem startHeaterTest_line (p : Part) (h : HeaterNo) : (p.startHeaterTest h).line = p.line := rfl
@[simp] theorem startHeaterTest_ice (p : Part) (h : HeaterNo) : (p.startHeaterTest h).ice = p.ice := rfl
@[simp] theorem startHeaterTest_outlet (p : Part) (h : HeaterNo) : (p.startHeaterTest h).outlet = p.outlet := rfl
@[simp] theorem startHeaterTest_defrost (p : Part) (h : HeaterNo) : (p.startHeaterTest h).defrost = p.defrost := rfl
@[simp] theorem startHeaterTest_supervision (p : Part) (h : HeaterNo) : (p.startHeaterTest h).supervision = p.supervision := rfl
@[simp] theorem startHeaterTest_freeCount (p : Part) (h : HeaterNo) : (p.startHeaterTest h).freeCount = p.freeCount := rfl

@[simp] theorem updateCycle_clock (p : Part) (f : Cycle → Cycle) : (p.updateCycle f).clock = p.clock := rfl
@[simp] theorem updateCycle_resetting (p : Part) (f : Cycle → Cycle) : (p.updateCycle f).resetting = p.resetting := rfl
@[simp] theorem updateCycle_link (p : Part) (f : Cycle → Cycle) : (p.updateCycle f).link = p.link := rfl
@[simp] theorem updateCycle_pool (p : Part) (f : Cycle → Cycle) : (p.updateCycle f).pool = p.pool := rfl
@[simp] theorem updateCycle_sense (p : Part) (f : Cycle → Cycle) : (p.updateCycle f).sense = p.sense := rfl
@[simp] theorem updateCycle_loads (p : Part) (f : Cycle → Cycle) : (p.updateCycle f).loads = p.loads := rfl
@[simp] theorem updateCycle_line (p : Part) (f : Cycle → Cycle) : (p.updateCycle f).line = p.line := rfl
@[simp] theorem updateCycle_ice (p : Part) (f : Cycle → Cycle) : (p.updateCycle f).ice = p.ice := rfl
@[simp] theorem updateCycle_outlet (p : Part) (f : Cycle → Cycle) : (p.updateCycle f).outlet = p.outlet := rfl
@[simp] theorem updateCycle_defrost (p : Part) (f : Cycle → Cycle) : (p.updateCycle f).defrost = { p.defrost with cycle := p.defrost.cycle.map f } := rfl
@[simp] theorem updateCycle_supervision (p : Part) (f : Cycle → Cycle) : (p.updateCycle f).supervision = p.supervision := rfl
@[simp] theorem updateCycle_freeCount (p : Part) (f : Cycle → Cycle) : (p.updateCycle f).freeCount = p.freeCount := rfl

@[simp] theorem setIceState_clock (p : Part) (st : IceState) : (p.setIceState st).clock = p.clock := rfl
@[simp] theorem setIceState_resetting (p : Part) (st : IceState) : (p.setIceState st).resetting = p.resetting := rfl
@[simp] theorem setIceState_link (p : Part) (st : IceState) : (p.setIceState st).link = p.link := rfl
@[simp] theorem setIceState_pool (p : Part) (st : IceState) : (p.setIceState st).pool = p.pool := rfl
@[simp] theorem setIceState_sense (p : Part) (st : IceState) : (p.setIceState st).sense = p.sense := rfl
@[simp] theorem setIceState_loads (p : Part) (st : IceState) : (p.setIceState st).loads = p.loads := rfl
@[simp] theorem setIceState_line (p : Part) (st : IceState) : (p.setIceState st).line = p.line := rfl
@[simp] theorem setIceState_ice (p : Part) (st : IceState) : (p.setIceState st).ice = { p.ice with state := st } := rfl
@[simp] theorem setIceState_outlet (p : Part) (st : IceState) : (p.setIceState st).outlet = p.outlet := rfl
@[simp] theorem setIceState_defrost (p : Part) (st : IceState) : (p.setIceState st).defrost = { p.defrost with iceCopy := st } := rfl
@[simp] theorem setIceState_supervision (p : Part) (st : IceState) : (p.setIceState st).supervision = p.supervision := rfl
@[simp] theorem setIceState_freeCount (p : Part) (st : IceState) : (p.setIceState st).freeCount = p.freeCount := rfl

@[simp] theorem reloadSilence_clock (p : Part) : (p.reloadSilence).clock = p.clock := rfl
@[simp] theorem reloadSilence_resetting (p : Part) : (p.reloadSilence).resetting = p.resetting := rfl
@[simp] theorem reloadSilence_link (p : Part) : (p.reloadSilence).link = p.link := rfl
@[simp] theorem reloadSilence_pool (p : Part) : (p.reloadSilence).pool = p.pool := rfl
@[simp] theorem reloadSilence_sense (p : Part) : (p.reloadSilence).sense = p.sense := rfl
@[simp] theorem reloadSilence_loads (p : Part) : (p.reloadSilence).loads = p.loads := rfl
@[simp] theorem reloadSilence_line (p : Part) : (p.reloadSilence).line = p.line := rfl
@[simp] theorem reloadSilence_ice (p : Part) : (p.reloadSilence).ice = p.ice := rfl
@[simp] theorem reloadSilence_outlet (p : Part) : (p.reloadSilence).outlet = p.outlet := rfl
@[simp] theorem reloadSilence_freeCount (p : Part) : (p.reloadSilence).freeCount = p.freeCount := rfl

@[simp] theorem countFlow_clock (p : Part) : (p.countFlow).clock = p.clock := rfl
@[simp] theorem countFlow_resetting (p : Part) : (p.countFlow).resetting = p.resetting := rfl
@[simp] theorem countFlow_link (p : Part) : (p.countFlow).link = p.link := rfl
@[simp] theorem countFlow_pool (p : Part) : (p.countFlow).pool = p.pool := rfl
@[simp] theorem countFlow_loads (p : Part) : (p.countFlow).loads = p.loads := rfl
@[simp] theorem countFlow_line (p : Part) : (p.countFlow).line = p.line := rfl
@[simp] theorem countFlow_ice (p : Part) : (p.countFlow).ice = p.ice := rfl
@[simp] theorem countFlow_outlet (p : Part) : (p.countFlow).outlet = p.outlet := rfl
@[simp] theorem countFlow_defrost (p : Part) : (p.countFlow).defrost = p.defrost := rfl
@[simp] theorem countFlow_supervision (p : Part) : (p.countFlow).supervision = p.supervision := rfl
@[simp] theorem countFlow_freeCount (p : Part) : (p.countFlow).freeCount = p.freeCount := rfl

@[simp] theorem countTach_clock (p : Part) : (p.countTach).clock = p.clock := rfl
@[simp] theorem countTach_resetting (p : Part) : (p.countTach).resetting = p.resetting := rfl
@[simp] theorem countTach_link (p : Part) : (p.countTach).link = p.link := rfl
@[simp] theorem countTach_pool (p : Part) : (p.countTach).pool = p.pool := rfl
@[simp] theorem countTach_loads (p : Part) : (p.countTach).loads = p.loads := rfl
@[simp] theorem countTach_line (p : Part) : (p.countTach).line = p.line := rfl
@[simp] theorem countTach_ice (p : Part) : (p.countTach).ice = p.ice := rfl
@[simp] theorem countTach_outlet (p : Part) : (p.countTach).outlet = p.outlet := rfl
@[simp] theorem countTach_defrost (p : Part) : (p.countTach).defrost = p.defrost := rfl
@[simp] theorem countTach_supervision (p : Part) : (p.countTach).supervision = p.supervision := rfl
@[simp] theorem countTach_freeCount (p : Part) : (p.countTach).freeCount = p.freeCount := rfl

@[simp] theorem tellDoor_clock (p : Part) (d : Door) : (p.tellDoor d).clock = p.clock := rfl
@[simp] theorem tellDoor_resetting (p : Part) (d : Door) : (p.tellDoor d).resetting = p.resetting := rfl
@[simp] theorem tellDoor_link (p : Part) (d : Door) : (p.tellDoor d).link = p.link := rfl
@[simp] theorem tellDoor_pool (p : Part) (d : Door) : (p.tellDoor d).pool = p.pool := rfl
@[simp] theorem tellDoor_sense (p : Part) (d : Door) : (p.tellDoor d).sense = { p.sense with doorPin := p.sense.doorPin.tell p.clock.now d } := rfl
@[simp] theorem tellDoor_loads (p : Part) (d : Door) : (p.tellDoor d).loads = p.loads := rfl
@[simp] theorem tellDoor_line (p : Part) (d : Door) : (p.tellDoor d).line = p.line := rfl
@[simp] theorem tellDoor_ice (p : Part) (d : Door) : (p.tellDoor d).ice = p.ice := rfl
@[simp] theorem tellDoor_outlet (p : Part) (d : Door) : (p.tellDoor d).outlet = p.outlet := rfl
@[simp] theorem tellDoor_defrost (p : Part) (d : Door) : (p.tellDoor d).defrost = p.defrost := rfl
@[simp] theorem tellDoor_supervision (p : Part) (d : Door) : (p.tellDoor d).supervision = p.supervision := rfl
@[simp] theorem tellDoor_freeCount (p : Part) (d : Door) : (p.tellDoor d).freeCount = p.freeCount := rfl

@[simp] theorem tellPaddle_clock (p : Part) (pad : Paddle) (st : PaddleState) : (p.tellPaddle pad st).clock = p.clock := rfl
@[simp] theorem tellPaddle_resetting (p : Part) (pad : Paddle) (st : PaddleState) : (p.tellPaddle pad st).resetting = p.resetting := rfl
@[simp] theorem tellPaddle_link (p : Part) (pad : Paddle) (st : PaddleState) : (p.tellPaddle pad st).link = p.link := rfl
@[simp] theorem tellPaddle_pool (p : Part) (pad : Paddle) (st : PaddleState) : (p.tellPaddle pad st).pool = p.pool := rfl
@[simp] theorem tellPaddle_sense (p : Part) (pad : Paddle) (st : PaddleState) : (p.tellPaddle pad st).sense = p.sense.tellPaddle p.clock.now st pad := rfl
@[simp] theorem tellPaddle_loads (p : Part) (pad : Paddle) (st : PaddleState) : (p.tellPaddle pad st).loads = p.loads := rfl
@[simp] theorem tellPaddle_line (p : Part) (pad : Paddle) (st : PaddleState) : (p.tellPaddle pad st).line = p.line := rfl
@[simp] theorem tellPaddle_ice (p : Part) (pad : Paddle) (st : PaddleState) : (p.tellPaddle pad st).ice = p.ice := rfl
@[simp] theorem tellPaddle_outlet (p : Part) (pad : Paddle) (st : PaddleState) : (p.tellPaddle pad st).outlet = p.outlet := rfl
@[simp] theorem tellPaddle_defrost (p : Part) (pad : Paddle) (st : PaddleState) : (p.tellPaddle pad st).defrost = p.defrost := rfl
@[simp] theorem tellPaddle_supervision (p : Part) (pad : Paddle) (st : PaddleState) : (p.tellPaddle pad st).supervision = p.supervision := rfl
@[simp] theorem tellPaddle_freeCount (p : Part) (pad : Paddle) (st : PaddleState) : (p.tellPaddle pad st).freeCount = p.freeCount := rfl

@[simp] theorem tellHome_clock (p : Part) (c : Contact) : (p.tellHome c).clock = p.clock := rfl
@[simp] theorem tellHome_resetting (p : Part) (c : Contact) : (p.tellHome c).resetting = p.resetting := rfl
@[simp] theorem tellHome_link (p : Part) (c : Contact) : (p.tellHome c).link = p.link := rfl
@[simp] theorem tellHome_pool (p : Part) (c : Contact) : (p.tellHome c).pool = p.pool := rfl
@[simp] theorem tellHome_sense (p : Part) (c : Contact) : (p.tellHome c).sense = { p.sense with homePin := p.sense.homePin.tell p.clock.now c } := rfl
@[simp] theorem tellHome_loads (p : Part) (c : Contact) : (p.tellHome c).loads = p.loads := rfl
@[simp] theorem tellHome_line (p : Part) (c : Contact) : (p.tellHome c).line = p.line := rfl
@[simp] theorem tellHome_ice (p : Part) (c : Contact) : (p.tellHome c).ice = p.ice := rfl
@[simp] theorem tellHome_outlet (p : Part) (c : Contact) : (p.tellHome c).outlet = p.outlet := rfl
@[simp] theorem tellHome_defrost (p : Part) (c : Contact) : (p.tellHome c).defrost = p.defrost := rfl
@[simp] theorem tellHome_supervision (p : Part) (c : Contact) : (p.tellHome c).supervision = p.supervision := rfl
@[simp] theorem tellHome_freeCount (p : Part) (c : Contact) : (p.tellHome c).freeCount = p.freeCount := rfl

@[simp] theorem tellFlap_clock (p : Part) (c : Contact) : (p.tellFlap c).clock = p.clock := rfl
@[simp] theorem tellFlap_resetting (p : Part) (c : Contact) : (p.tellFlap c).resetting = p.resetting := rfl
@[simp] theorem tellFlap_link (p : Part) (c : Contact) : (p.tellFlap c).link = p.link := rfl
@[simp] theorem tellFlap_pool (p : Part) (c : Contact) : (p.tellFlap c).pool = p.pool := rfl
@[simp] theorem tellFlap_sense (p : Part) (c : Contact) : (p.tellFlap c).sense = { p.sense with flapPin := p.sense.flapPin.tell p.clock.now c } := rfl
@[simp] theorem tellFlap_loads (p : Part) (c : Contact) : (p.tellFlap c).loads = p.loads := rfl
@[simp] theorem tellFlap_line (p : Part) (c : Contact) : (p.tellFlap c).line = p.line := rfl
@[simp] theorem tellFlap_ice (p : Part) (c : Contact) : (p.tellFlap c).ice = p.ice := rfl
@[simp] theorem tellFlap_outlet (p : Part) (c : Contact) : (p.tellFlap c).outlet = p.outlet := rfl
@[simp] theorem tellFlap_defrost (p : Part) (c : Contact) : (p.tellFlap c).defrost = p.defrost := rfl
@[simp] theorem tellFlap_supervision (p : Part) (c : Contact) : (p.tellFlap c).supervision = p.supervision := rfl
@[simp] theorem tellFlap_freeCount (p : Part) (c : Contact) : (p.tellFlap c).freeCount = p.freeCount := rfl

@[simp] theorem tellBeam_clock (p : Part) (l : BeamLevel) : (p.tellBeam l).clock = p.clock := rfl
@[simp] theorem tellBeam_resetting (p : Part) (l : BeamLevel) : (p.tellBeam l).resetting = p.resetting := rfl
@[simp] theorem tellBeam_link (p : Part) (l : BeamLevel) : (p.tellBeam l).link = p.link := rfl
@[simp] theorem tellBeam_pool (p : Part) (l : BeamLevel) : (p.tellBeam l).pool = p.pool := rfl
@[simp] theorem tellBeam_sense (p : Part) (l : BeamLevel) : (p.tellBeam l).sense = { p.sense with beamPin := p.sense.beamPin.tell p.clock.now l } := rfl
@[simp] theorem tellBeam_loads (p : Part) (l : BeamLevel) : (p.tellBeam l).loads = p.loads := rfl
@[simp] theorem tellBeam_line (p : Part) (l : BeamLevel) : (p.tellBeam l).line = p.line := rfl
@[simp] theorem tellBeam_ice (p : Part) (l : BeamLevel) : (p.tellBeam l).ice = p.ice := rfl
@[simp] theorem tellBeam_outlet (p : Part) (l : BeamLevel) : (p.tellBeam l).outlet = p.outlet := rfl
@[simp] theorem tellBeam_defrost (p : Part) (l : BeamLevel) : (p.tellBeam l).defrost = p.defrost := rfl
@[simp] theorem tellBeam_supervision (p : Part) (l : BeamLevel) : (p.tellBeam l).supervision = p.supervision := rfl
@[simp] theorem tellBeam_freeCount (p : Part) (l : BeamLevel) : (p.tellBeam l).freeCount = p.freeCount := rfl

@[simp] theorem loads_update_budgetInForce (l : Loads) (n : HeaterNo) (f : Heater → Heater) :
    (l.update n f).budgetInForce = l.budgetInForce := rfl
@[simp] theorem loads_update_rotation (l : Loads) (n : HeaterNo) (f : Heater → Heater) :
    (l.update n f).rotation = l.rotation := rfl
@[simp] theorem loads_update_slot (l : Loads) (n : HeaterNo) (f : Heater → Heater) : (l.update n f).slot = l.slot := rfl
@[simp] theorem loads_update_testSlots (l : Loads) (n : HeaterNo) (f : Heater → Heater) :
    (l.update n f).testSlots = l.testSlots := rfl
@[simp] theorem loads_updateAll_budgetInForce (l : Loads) (f : HeaterNo → Heater → Heater) :
    (l.updateAll f).budgetInForce = l.budgetInForce := rfl
@[simp] theorem loads_updateAll_rotation (l : Loads) (f : HeaterNo → Heater → Heater) :
    (l.updateAll f).rotation = l.rotation := rfl
@[simp] theorem loads_updateAll_slot (l : Loads) (f : HeaterNo → Heater → Heater) : (l.updateAll f).slot = l.slot := rfl

/-- A command taken outside a reset: time passes, then its effect. -/
theorem take_live (p : Part) (dt : Nat) (f : Part → Part) (h : p.resetting = none) : p.take dt f = f (p.elapse dt) := by
  simp [Part.take, h]

/-- A command taken while a reset lasts changes nothing. -/
theorem take_reset (p : Part) (dt : Nat) (f : Part → Part) (h : p.resetting.isSome = true) : p.take dt f = p := by
  simp [Part.take, h]

/-- A timer row whose moment has come. -/
theorem onDue_due (p : Part) (due : Part → Bool) (f : Part → Part) (h : due p = true) :
    p.onDue due f = (f p).settle := by
  simp [Part.onDue, h]

/-- A timer row whose moment has not come. -/
theorem onDue_early (p : Part) (due : Part → Bool) (f : Part → Part) (h : due p = false) : p.onDue due f = p := by
  simp [Part.onDue, h]

end Sys2Proof.Machine
end

