-- ==== Sys2Proof/Laws/Frames.lean ====
section
/-! SUPPORT. Frames: for each operation of the jobs, what it leaves alone. `Part.Keeps` says what no job ever touches; the
rest of a frame names the whole blocks that the operation leaves as they were. -/

namespace Sys2Proof.Machine

/-- What no job touches: the clock, the Sense Unit, Supervision, and all of the link but the pending set. -/
@[simp] abbrev Part.Keeps (q p : Part) : Prop :=
  q.clock = p.clock ∧ q.resetting = p.resetting ∧ q.sense = p.sense ∧ q.supervision = p.supervision ∧
    q.freeCount = p.freeCount ∧ q.link.receiver = p.link.receiver ∧ q.link.inbox = p.link.inbox ∧
    q.link.executing = p.link.executing ∧ q.link.reply = p.link.reply ∧
    q.link.restartPending = p.link.restartPending ∧ q.link.lastError = p.link.lastError ∧ q.link.mask = p.link.mask

@[simp] theorem notify_frame (x : Notice) (p : Part) :
    (Part.notify x p).Keeps p ∧ (Part.notify x p).line = p.line ∧ (Part.notify x p).loads = p.loads ∧
      (Part.notify x p).ice = p.ice ∧ (Part.notify x p).outlet = p.outlet ∧ (Part.notify x p).defrost = p.defrost := by
  unfold Part.notify; (try dsimp only); (repeat' split) <;> simp_all

@[simp] theorem updateTicket_frame (n : TicketNo) (f : Ticket → Ticket) (p : Part) :
    (Part.updateTicket n f p).Keeps p ∧ (Part.updateTicket n f p).line = p.line ∧
      (Part.updateTicket n f p).loads = p.loads ∧ (Part.updateTicket n f p).ice = p.ice ∧
      (Part.updateTicket n f p).outlet = p.outlet ∧ (Part.updateTicket n f p).defrost = p.defrost := by
  unfold Part.updateTicket; (try dsimp only); (repeat' split) <;> simp_all

@[simp] theorem updateSlot_frame (o : Option TicketNo) (f : Ticket → Ticket) (p : Part) :
    (Part.updateSlot o f p).Keeps p ∧ (Part.updateSlot o f p).line = p.line ∧
      (Part.updateSlot o f p).loads = p.loads ∧ (Part.updateSlot o f p).ice = p.ice ∧
      (Part.updateSlot o f p).outlet = p.outlet ∧ (Part.updateSlot o f p).defrost = p.defrost := by
  unfold Part.updateSlot; (try dsimp only); (repeat' split) <;> simp_all

@[simp] theorem activate_frame (n : TicketNo) (p : Part) :
    (Part.activate n p).Keeps p ∧ (Part.activate n p).line = p.line ∧ (Part.activate n p).loads = p.loads ∧
      (Part.activate n p).ice = p.ice ∧ (Part.activate n p).outlet = p.outlet ∧
      (Part.activate n p).defrost = p.defrost := by
  unfold Part.activate; (try dsimp only); (repeat' split) <;> simp_all

@[simp] theorem starve_frame (o : Origin) (p : Part) :
    (Part.starve o p).Keeps p ∧ (Part.starve o p).line = p.line ∧ (Part.starve o p).loads = p.loads ∧
      (Part.starve o p).ice = p.ice ∧ (Part.starve o p).outlet = p.outlet ∧ (Part.starve o p).defrost = p.defrost := by
  unfold Part.starve; (try dsimp only); (repeat' split) <;> simp_all

@[simp] theorem iceAttempt_frame (p : Part) :
    (Part.iceAttempt p).Keeps p ∧ (Part.iceAttempt p).line = p.line ∧ (Part.iceAttempt p).loads = p.loads ∧
      (Part.iceAttempt p).ice = p.ice ∧ (Part.iceAttempt p).outlet = p.outlet ∧
      (Part.iceAttempt p).defrost = p.defrost := by
  unfold Part.iceAttempt; (try dsimp only); (repeat' split) <;> simp_all

@[simp] theorem harvestAttempt_frame (p : Part) :
    (Part.harvestAttempt p).Keeps p ∧ (Part.harvestAttempt p).line = p.line ∧
      (Part.harvestAttempt p).loads = p.loads ∧ (Part.harvestAttempt p).ice = p.ice ∧
      (Part.harvestAttempt p).outlet = p.outlet ∧ (Part.harvestAttempt p).defrost = p.defrost := by
  unfold Part.harvestAttempt; (try dsimp only); (repeat' split) <;> simp_all

@[simp] theorem setIceState_frame (st : IceState) (p : Part) :
    (Part.setIceState st p).Keeps p ∧ (Part.setIceState st p).line = p.line ∧
      (Part.setIceState st p).loads = p.loads ∧ (Part.setIceState st p).outlet = p.outlet := by
  unfold Part.setIceState; (try dsimp only); (repeat' split) <;> simp_all

@[simp] theorem setDefrostState_frame (st : DefrostState) (p : Part) :
    (Part.setDefrostState st p).Keeps p ∧ (Part.setDefrostState st p).line = p.line ∧
      (Part.setDefrostState st p).loads = p.loads ∧ (Part.setDefrostState st p).outlet = p.outlet := by
  unfold Part.setDefrostState; (try dsimp only); (repeat' split) <;> simp_all

@[simp] theorem joinFree_frame (n : TicketNo) (p : Part) :
    (Part.joinFree n p).Keeps p ∧ (Part.joinFree n p).line = p.line ∧ (Part.joinFree n p).loads = p.loads ∧
      (Part.joinFree n p).ice = p.ice ∧ (Part.joinFree n p).outlet = p.outlet ∧
      (Part.joinFree n p).defrost = p.defrost := by
  unfold Part.joinFree; (try dsimp only); (repeat' split) <;> simp_all

@[simp] theorem retire_frame (n : TicketNo) (p : Part) :
    (Part.retire n p).Keeps p ∧ (Part.retire n p).line = p.line ∧ (Part.retire n p).loads = p.loads ∧
      (Part.retire n p).ice = p.ice ∧ (Part.retire n p).outlet = p.outlet ∧ (Part.retire n p).defrost = p.defrost := by
  unfold Part.retire; (try dsimp only); (repeat' split) <;> simp_all

@[simp] theorem retireUpTo_frame (k : Nat) (p : Part) :
    (Part.retireUpTo k p).Keeps p ∧ (Part.retireUpTo k p).line = p.line ∧ (Part.retireUpTo k p).loads = p.loads ∧
      (Part.retireUpTo k p).ice = p.ice ∧ (Part.retireUpTo k p).outlet = p.outlet ∧
      (Part.retireUpTo k p).defrost = p.defrost := by
  induction k generalizing p with
  | zero => simp [Part.retireUpTo]
  | succ k ih => unfold Part.retireUpTo; repeat' split
                 all_goals simp [ih]

@[simp] theorem autoRetire_frame (p : Part) :
    (Part.autoRetire p).Keeps p ∧ (Part.autoRetire p).line = p.line ∧ (Part.autoRetire p).loads = p.loads ∧
      (Part.autoRetire p).ice = p.ice ∧ (Part.autoRetire p).outlet = p.outlet ∧
      (Part.autoRetire p).defrost = p.defrost := by
  unfold Part.autoRetire; (try dsimp only); (repeat' split) <;> simp_all

@[simp] theorem draw_frame (k : TicketKind) (o : Origin) (t : Option Byte) (r : Request) (p : Part) :
    (p.draw k o t r).2.Keeps p ∧ (p.draw k o t r).2.line = p.line ∧ (p.draw k o t r).2.loads = p.loads ∧
      (p.draw k o t r).2.ice = p.ice ∧ (p.draw k o t r).2.outlet = p.outlet ∧
        (p.draw k o t r).2.defrost = p.defrost := by
  unfold Part.draw; (repeat' split) <;> simp

@[simp] theorem toCompletion_frame (n : TicketNo) (o : TicketOutcome) (p : Part) :
    (Part.toCompletion n o p).Keeps p ∧ (Part.toCompletion n o p).line = p.line ∧
      (Part.toCompletion n o p).loads = p.loads ∧ (Part.toCompletion n o p).ice = p.ice ∧
      (Part.toCompletion n o p).outlet = p.outlet ∧ (Part.toCompletion n o p).defrost = p.defrost := by
  unfold Part.toCompletion; (try dsimp only); (repeat' split) <;> simp_all

@[simp] theorem finish_frame (n : TicketNo) (o : TicketOutcome) (p : Part) :
    (Part.finish n o p).Keeps p ∧ (Part.finish n o p).line = p.line ∧ (Part.finish n o p).loads = p.loads ∧
      (Part.finish n o p).ice = p.ice ∧ (Part.finish n o p).outlet = p.outlet ∧
      (Part.finish n o p).defrost = p.defrost := by
  unfold Part.finish; (try dsimp only); (repeat' split) <;> simp_all

@[simp] theorem finishSlot_frame (s : Option TicketNo) (o : TicketOutcome) (p : Part) :
    (Part.finishSlot s o p).Keeps p ∧ (Part.finishSlot s o p).line = p.line ∧
      (Part.finishSlot s o p).loads = p.loads ∧ (Part.finishSlot s o p).ice = p.ice ∧
      (Part.finishSlot s o p).outlet = p.outlet ∧ (Part.finishSlot s o p).defrost = p.defrost := by
  unfold Part.finishSlot; (try dsimp only); (repeat' split) <;> simp_all

@[simp] theorem raiseOwner_frame (n : HeaterNo) (p : Part) :
    (Part.raiseOwner n p).Keeps p ∧ (Part.raiseOwner n p).line = p.line ∧ (Part.raiseOwner n p).ice = p.ice ∧
      (Part.raiseOwner n p).outlet = p.outlet ∧ (Part.raiseOwner n p).defrost = p.defrost := by
  unfold Part.raiseOwner; (try dsimp only); (repeat' split) <;> simp_all

@[simp] theorem dropOwner_frame (n : HeaterNo) (p : Part) :
    (Part.dropOwner n p).Keeps p ∧ (Part.dropOwner n p).line = p.line ∧ (Part.dropOwner n p).ice = p.ice ∧
      (Part.dropOwner n p).outlet = p.outlet ∧ (Part.dropOwner n p).defrost = p.defrost := by
  unfold Part.dropOwner; (try dsimp only); (repeat' split) <;> simp_all

@[simp] theorem dropTest_frame (n : HeaterNo) (p : Part) :
    (Part.dropTest n p).Keeps p ∧ (Part.dropTest n p).line = p.line ∧ (Part.dropTest n p).ice = p.ice ∧
      (Part.dropTest n p).outlet = p.outlet ∧ (Part.dropTest n p).defrost = p.defrost := by
  unfold Part.dropTest; (try dsimp only); (repeat' split) <;> simp_all

@[simp] theorem updateCycle_frame (f : Cycle → Cycle) (p : Part) :
    (Part.updateCycle f p).Keeps p ∧ (Part.updateCycle f p).line = p.line ∧ (Part.updateCycle f p).loads = p.loads ∧
      (Part.updateCycle f p).ice = p.ice ∧ (Part.updateCycle f p).outlet = p.outlet := by
  unfold Part.updateCycle; (try dsimp only); (repeat' split) <;> simp_all

@[simp] theorem fillCompletion_frame (p : Part) :
    (Part.fillCompletion p).Keeps p ∧ (Part.fillCompletion p).line = p.line ∧
      (Part.fillCompletion p).loads = p.loads ∧ (Part.fillCompletion p).ice = p.ice ∧
      (Part.fillCompletion p).outlet = p.outlet := by
  unfold Part.fillCompletion; (try dsimp only); (repeat' split) <;> simp_all

@[simp] theorem enterWanted_frame (p : Part) :
    (Part.enterWanted p).Keeps p ∧ (Part.enterWanted p).line = p.line ∧ (Part.enterWanted p).loads = p.loads ∧
      (Part.enterWanted p).outlet = p.outlet := by
  unfold Part.enterWanted; (try dsimp only); (repeat' split) <;> simp_all

@[simp] theorem compareTarget_frame (p : Part) :
    (Part.compareTarget p).Keeps p ∧ (Part.compareTarget p).line = p.line ∧ (Part.compareTarget p).loads = p.loads ∧
      (Part.compareTarget p).outlet = p.outlet := by
  unfold Part.compareTarget; (try dsimp only); (repeat' split) <;> simp_all

@[simp] theorem flagDefrostSensor_frame (p : Part) :
    (Part.flagDefrostSensor p).Keeps p ∧ (Part.flagDefrostSensor p).line = p.line ∧
      (Part.flagDefrostSensor p).loads = p.loads ∧ (Part.flagDefrostSensor p).ice = p.ice ∧
      (Part.flagDefrostSensor p).outlet = p.outlet := by
  unfold Part.flagDefrostSensor; (try dsimp only); (repeat' split) <;> simp_all

@[simp] theorem enterHeating_frame (p : Part) :
    (Part.enterHeating p).Keeps p ∧ (Part.enterHeating p).line = p.line ∧ (Part.enterHeating p).outlet = p.outlet := by
  unfold Part.enterHeating; (try dsimp only); (repeat' split) <;> simp_all

@[simp] theorem prepWait_frame (p : Part) :
    (Part.prepWait p).Keeps p ∧ (Part.prepWait p).line = p.line ∧ (Part.prepWait p).outlet = p.outlet := by
  unfold Part.prepWait; (try dsimp only); (repeat' split) <;> simp_all

@[simp] theorem enterPrep_frame (forced ungranted : Bool) (p : Part) :
    (Part.enterPrep forced ungranted p).Keeps p ∧ (Part.enterPrep forced ungranted p).line = p.line ∧
      (Part.enterPrep forced ungranted p).outlet = p.outlet := by
  unfold Part.enterPrep
  have h := draw_frame .defrostCycle .defrost none {} p
  rcases hd : p.draw .defrostCycle .defrost none {} with ⟨n, q⟩
  rw [hd] at h
  simp_all

@[simp] theorem enterDeferred_frame (m : Nat) (p : Part) :
    (Part.enterDeferred m p).Keeps p ∧ (Part.enterDeferred m p).line = p.line ∧
      (Part.enterDeferred m p).loads = p.loads ∧ (Part.enterDeferred m p).outlet = p.outlet := by
  unfold Part.enterDeferred; (try dsimp only); (repeat' split) <;> simp_all

@[simp] theorem endDefer_frame (p : Part) :
    (Part.endDefer p).Keeps p ∧ (Part.endDefer p).line = p.line ∧ (Part.endDefer p).loads = p.loads ∧
      (Part.endDefer p).outlet = p.outlet := by
  unfold Part.endDefer; (try dsimp only); (repeat' split) <;> simp_all

@[simp] theorem endHeating_frame (r : EndReason) (p : Part) :
    (Part.endHeating r p).Keeps p ∧ (Part.endHeating r p).line = p.line ∧ (Part.endHeating r p).outlet = p.outlet := by
  unfold Part.endHeating; (try dsimp only); (repeat' split) <;> simp_all

@[simp] theorem endDwell_frame (p : Part) :
    (Part.endDwell p).Keeps p ∧ (Part.endDwell p).line = p.line ∧ (Part.endDwell p).outlet = p.outlet := by
  unfold Part.endDwell; (try dsimp only); (repeat' split) <;> simp_all

@[simp] theorem writeLog_frame (r : EndReason) (t : Nat) (p : Part) :
    (Part.writeLog r t p).Keeps p ∧ (Part.writeLog r t p).line = p.line ∧ (Part.writeLog r t p).loads = p.loads ∧
      (Part.writeLog r t p).ice = p.ice ∧ (Part.writeLog r t p).outlet = p.outlet := by
  unfold Part.writeLog; (try dsimp only); (repeat' split) <;> simp_all

@[simp] theorem endRecover_frame (p : Part) :
    (Part.endRecover p).Keeps p ∧ (Part.endRecover p).line = p.line ∧ (Part.endRecover p).loads = p.loads ∧
      (Part.endRecover p).outlet = p.outlet := by
  unfold Part.endRecover; (try dsimp only); (repeat' split) <;> simp_all

@[simp] theorem abortPrep_frame (p : Part) :
    (Part.abortPrep p).Keeps p ∧ (Part.abortPrep p).line = p.line ∧ (Part.abortPrep p).loads = p.loads ∧
      (Part.abortPrep p).outlet = p.outlet := by
  unfold Part.abortPrep; (try dsimp only); (repeat' split) <;> simp_all

@[simp] theorem writeResetRecord_frame (p : Part) :
    (Part.writeResetRecord p).Keeps p ∧ (Part.writeResetRecord p).line = p.line ∧
      (Part.writeResetRecord p).loads = p.loads ∧ (Part.writeResetRecord p).ice = p.ice ∧
      (Part.writeResetRecord p).outlet = p.outlet := by
  unfold Part.writeResetRecord; (try dsimp only); (repeat' split) <;> simp_all

@[simp] theorem compareHeatLimit_frame (p : Part) :
    (Part.compareHeatLimit p).Keeps p ∧ (Part.compareHeatLimit p).line = p.line ∧
      (Part.compareHeatLimit p).outlet = p.outlet := by
  unfold Part.compareHeatLimit; (try dsimp only); (repeat' split) <;> simp_all

@[simp] theorem evapReading_frame (e : Bool) (p : Part) :
    (Part.evapReading e p).Keeps p ∧ (Part.evapReading e p).line = p.line ∧
      (Part.evapReading e p).outlet = p.outlet := by
  unfold Part.evapReading; (try dsimp only); (repeat' split) <;> simp_all

@[simp] theorem compareWantLimit_frame (p : Part) :
    (Part.compareWantLimit p).Keeps p ∧ (Part.compareWantLimit p).line = p.line ∧
      (Part.compareWantLimit p).outlet = p.outlet := by
  unfold Part.compareWantLimit; (try dsimp only); (repeat' split) <;> simp_all

@[simp] theorem clampTarget_frame (p : Part) :
    (Part.clampTarget p).Keeps p ∧ (Part.clampTarget p).line = p.line ∧ (Part.clampTarget p).loads = p.loads ∧
      (Part.clampTarget p).ice = p.ice ∧ (Part.clampTarget p).outlet = p.outlet := by
  unfold Part.clampTarget; (try dsimp only); (repeat' split) <;> simp_all

@[simp] theorem openLine_frame (u : LineUser) (n : TicketNo) (p : Part) :
    (Part.openLine u n p).Keeps p ∧ (Part.openLine u n p).loads = p.loads ∧ (Part.openLine u n p).ice = p.ice ∧
      (Part.openLine u n p).outlet = p.outlet ∧ (Part.openLine u n p).defrost = p.defrost := by
  unfold Part.openLine; (try dsimp only); (repeat' split) <;> simp_all

@[simp] theorem grantFill_frame (n : TicketNo) (p : Part) :
    (Part.grantFill n p).Keeps p ∧ (Part.grantFill n p).outlet = p.outlet := by
  unfold Part.grantFill; (try dsimp only); (repeat' split) <;> simp_all

@[simp] theorem pauseLine_frame (p : Part) :
    (Part.pauseLine p).Keeps p ∧ (Part.pauseLine p).loads = p.loads ∧ (Part.pauseLine p).ice = p.ice ∧
      (Part.pauseLine p).outlet = p.outlet ∧ (Part.pauseLine p).defrost = p.defrost := by
  unfold Part.pauseLine; (try dsimp only); (repeat' split) <;> simp_all

@[simp] theorem resumeLine_frame (p : Part) :
    (Part.resumeLine p).Keeps p ∧ (Part.resumeLine p).loads = p.loads ∧ (Part.resumeLine p).ice = p.ice ∧
      (Part.resumeLine p).outlet = p.outlet ∧ (Part.resumeLine p).defrost = p.defrost := by
  unfold Part.resumeLine; (try dsimp only); (repeat' split) <;> simp_all

@[simp] theorem updateHead_frame (f : Ticket → Ticket) (p : Part) :
    (Part.updateHead f p).Keeps p ∧ (Part.updateHead f p).line = p.line ∧ (Part.updateHead f p).loads = p.loads ∧
      (Part.updateHead f p).ice = p.ice ∧ (Part.updateHead f p).outlet = p.outlet ∧
      (Part.updateHead f p).defrost = p.defrost := by
  unfold Part.updateHead; (try dsimp only); (repeat' split) <;> simp_all

@[simp] theorem activateHead_frame (n : TicketNo) (p : Part) :
    (Part.activateHead n p).Keeps p ∧ (Part.activateHead n p).line = p.line ∧
      (Part.activateHead n p).loads = p.loads ∧ (Part.activateHead n p).ice = p.ice ∧
      (Part.activateHead n p).outlet = p.outlet ∧ (Part.activateHead n p).defrost = p.defrost := by
  unfold Part.activateHead; (try dsimp only); (repeat' split) <;> simp_all

@[simp] theorem grantDispense_frame (n : TicketNo) (p : Part) :
    (Part.grantDispense n p).Keeps p ∧ (Part.grantDispense n p).loads = p.loads ∧
      (Part.grantDispense n p).ice = p.ice ∧ (Part.grantDispense n p).defrost = p.defrost := by
  unfold Part.grantDispense; (try dsimp only); (repeat' split) <;> simp_all

@[simp] theorem tellEnding_frame (u : LineUser) (o : TicketOutcome) (p : Part) :
    (Part.tellEnding u o p).Keeps p ∧ (Part.tellEnding u o p).line = p.line ∧
      (Part.tellEnding u o p).loads = p.loads ∧ (Part.tellEnding u o p).ice = p.ice ∧
      (Part.tellEnding u o p).defrost = p.defrost := by
  unfold Part.tellEnding; (try dsimp only); (repeat' split) <;> simp_all

@[simp] theorem endWork_frame (r : EndingReason) (p : Part) :
    (Part.endWork r p).Keeps p ∧ (Part.endWork r p).loads = p.loads ∧ (Part.endWork r p).ice = p.ice ∧
      (Part.endWork r p).defrost = p.defrost := by
  unfold Part.endWork; (try dsimp only); (repeat' split) <;> simp_all

@[simp] theorem suspendFill_frame (n : TicketNo) (p : Part) :
    (Part.suspendFill n p).Keeps p ∧ (Part.suspendFill n p).loads = p.loads ∧ (Part.suspendFill n p).ice = p.ice ∧
      (Part.suspendFill n p).outlet = p.outlet ∧ (Part.suspendFill n p).defrost = p.defrost := by
  unfold Part.suspendFill; (try dsimp only); (repeat' split) <;> simp_all

@[simp] theorem resumeFill_frame (w : Work) (p : Part) :
    (Part.resumeFill w p).Keeps p ∧ (Part.resumeFill w p).loads = p.loads ∧ (Part.resumeFill w p).ice = p.ice ∧
      (Part.resumeFill w p).defrost = p.defrost := by
  unfold Part.resumeFill; (try dsimp only); (repeat' split) <;> simp_all

@[simp] theorem judgeFill_frame (p : Part) :
    (Part.judgeFill p).Keeps p := by
  unfold Part.judgeFill; (try dsimp only); (repeat' split) <;> simp_all

@[simp] theorem giveLine_frame (p : Part) :
    (Part.giveLine p).Keeps p := by
  unfold Part.giveLine; (try dsimp only); (repeat' split) <;> simp_all

@[simp] theorem writeAmounts_frame (w : Work) (p : Part) :
    (Part.writeAmounts w p).Keeps p ∧ (Part.writeAmounts w p).line = p.line ∧
      (Part.writeAmounts w p).loads = p.loads ∧ (Part.writeAmounts w p).ice = p.ice ∧
      (Part.writeAmounts w p).outlet = p.outlet ∧ (Part.writeAmounts w p).defrost = p.defrost := by
  unfold Part.writeAmounts; (try dsimp only); (repeat' split) <;> simp_all

@[simp] theorem compareOpenLimit_frame (p : Part) :
    (Part.compareOpenLimit p).Keeps p ∧ (Part.compareOpenLimit p).loads = p.loads ∧
      (Part.compareOpenLimit p).ice = p.ice ∧ (Part.compareOpenLimit p).defrost = p.defrost := by
  unfold Part.compareOpenLimit; (try dsimp only); (repeat' split) <;> simp_all

@[simp] theorem compareNoFlow_frame (p : Part) :
    (Part.compareNoFlow p).Keeps p ∧ (Part.compareNoFlow p).loads = p.loads ∧ (Part.compareNoFlow p).ice = p.ice ∧
      (Part.compareNoFlow p).defrost = p.defrost := by
  unfold Part.compareNoFlow; (try dsimp only); (repeat' split) <;> simp_all

@[simp] theorem judgeFilter_frame (p : Part) :
    (Part.judgeFilter p).Keeps p ∧ (Part.judgeFilter p).loads = p.loads ∧ (Part.judgeFilter p).ice = p.ice ∧
      (Part.judgeFilter p).outlet = p.outlet ∧ (Part.judgeFilter p).defrost = p.defrost := by
  unfold Part.judgeFilter; (try dsimp only); (repeat' split) <;> simp_all

@[simp] theorem filterPulse_frame (p : Part) :
    (Part.filterPulse p).Keeps p ∧ (Part.filterPulse p).loads = p.loads ∧ (Part.filterPulse p).ice = p.ice ∧
      (Part.filterPulse p).outlet = p.outlet ∧ (Part.filterPulse p).defrost = p.defrost := by
  unfold Part.filterPulse; (try dsimp only); (repeat' split) <;> simp_all

@[simp] theorem filterSecond_frame (p : Part) :
    (Part.filterSecond p).Keeps p ∧ (Part.filterSecond p).loads = p.loads ∧ (Part.filterSecond p).ice = p.ice ∧
      (Part.filterSecond p).outlet = p.outlet ∧ (Part.filterSecond p).defrost = p.defrost := by
  unfold Part.filterSecond; (try dsimp only); (repeat' split) <;> simp_all

@[simp] theorem setLeakLatch_frame (p : Part) :
    (Part.setLeakLatch p).Keeps p ∧ (Part.setLeakLatch p).loads = p.loads ∧ (Part.setLeakLatch p).ice = p.ice ∧
      (Part.setLeakLatch p).outlet = p.outlet ∧ (Part.setLeakLatch p).defrost = p.defrost := by
  unfold Part.setLeakLatch; (try dsimp only); (repeat' split) <;> simp_all

@[simp] theorem leakPulse_frame (p : Part) :
    (Part.leakPulse p).Keeps p ∧ (Part.leakPulse p).loads = p.loads ∧ (Part.leakPulse p).ice = p.ice ∧
      (Part.leakPulse p).outlet = p.outlet ∧ (Part.leakPulse p).defrost = p.defrost := by
  unfold Part.leakPulse; (try dsimp only); (repeat' split) <;> simp_all

@[simp] theorem checkTarget_frame (p : Part) :
    (Part.checkTarget p).Keeps p ∧ (Part.checkTarget p).loads = p.loads ∧ (Part.checkTarget p).ice = p.ice ∧
      (Part.checkTarget p).defrost = p.defrost := by
  unfold Part.checkTarget; (try dsimp only); (repeat' split) <;> simp_all

@[simp] theorem creditPulse_frame (p : Part) :
    (Part.creditPulse p).Keeps p ∧ (Part.creditPulse p).loads = p.loads ∧ (Part.creditPulse p).ice = p.ice ∧
      (Part.creditPulse p).defrost = p.defrost := by
  unfold Part.creditPulse; (try dsimp only); (repeat' split) <;> simp_all

@[simp] theorem endDryRetry_frame (p : Part) :
    (Part.endDryRetry p).Keeps p := by
  unfold Part.endDryRetry; (try dsimp only); (repeat' split) <;> simp_all

@[simp] theorem clearLeakLatch_frame (p : Part) :
    (Part.clearLeakLatch p).Keeps p := by
  unfold Part.clearLeakLatch; (try dsimp only); (repeat' split) <;> simp_all

@[simp] theorem setStock_frame (n : Nat) (p : Part) :
    (Part.setStock n p).Keeps p ∧ (Part.setStock n p).line = p.line ∧ (Part.setStock n p).loads = p.loads ∧
      (Part.setStock n p).outlet = p.outlet ∧ (Part.setStock n p).defrost = p.defrost := by
  unfold Part.setStock; (try dsimp only); (repeat' split) <;> simp_all

@[simp] theorem reportAuger_frame (ms : Nat) (p : Part) :
    (Part.reportAuger ms p).Keeps p ∧ (Part.reportAuger ms p).line = p.line ∧
      (Part.reportAuger ms p).loads = p.loads ∧ (Part.reportAuger ms p).outlet = p.outlet ∧
      (Part.reportAuger ms p).defrost = p.defrost := by
  unfold Part.reportAuger; (try dsimp only); (repeat' split) <;> simp_all

@[simp] theorem enterIceFault_frame (p : Part) :
    (Part.enterIceFault p).Keeps p ∧ (Part.enterIceFault p).line = p.line ∧
      (Part.enterIceFault p).outlet = p.outlet := by
  unfold Part.enterIceFault; (try dsimp only); (repeat' split) <;> simp_all

@[simp] theorem enterFreezing_frame (p : Part) :
    (Part.enterFreezing p).Keeps p ∧ (Part.enterFreezing p).line = p.line ∧ (Part.enterFreezing p).loads = p.loads ∧
      (Part.enterFreezing p).outlet = p.outlet := by
  unfold Part.enterFreezing; (try dsimp only); (repeat' split) <;> simp_all

@[simp] theorem enterFillWait_frame (p : Part) :
    (Part.enterFillWait p).Keeps p ∧ (Part.enterFillWait p).line = p.line ∧ (Part.enterFillWait p).loads = p.loads ∧
      (Part.enterFillWait p).outlet = p.outlet := by
  unfold Part.enterFillWait; (try dsimp only); (repeat' split) <;> simp_all

@[simp] theorem enterParked_frame (p : Part) :
    (Part.enterParked p).Keeps p ∧ (Part.enterParked p).line = p.line ∧ (Part.enterParked p).loads = p.loads ∧
      (Part.enterParked p).outlet = p.outlet := by
  unfold Part.enterParked; (try dsimp only); (repeat' split) <;> simp_all

@[simp] theorem homingSucceeds_frame (p : Part) :
    (Part.homingSucceeds p).Keeps p ∧ (Part.homingSucceeds p).line = p.line ∧
      (Part.homingSucceeds p).loads = p.loads ∧ (Part.homingSucceeds p).outlet = p.outlet := by
  unfold Part.homingSucceeds; (try dsimp only); (repeat' split) <;> simp_all

@[simp] theorem homeNow_frame (p : Part) :
    (Part.homeNow p).Keeps p ∧ (Part.homeNow p).line = p.line ∧ (Part.homeNow p).loads = p.loads ∧
      (Part.homeNow p).outlet = p.outlet := by
  unfold Part.homeNow; (try dsimp only); (repeat' split) <;> simp_all

@[simp] theorem enterHoming_frame (p : Part) :
    (Part.enterHoming p).Keeps p ∧ (Part.enterHoming p).line = p.line ∧ (Part.enterHoming p).loads = p.loads ∧
      (Part.enterHoming p).outlet = p.outlet := by
  unfold Part.enterHoming; (try dsimp only); (repeat' split) <;> simp_all

@[simp] theorem driveEjector_frame (p : Part) :
    (Part.driveEjector p).Keeps p ∧ (Part.driveEjector p).line = p.line ∧ (Part.driveEjector p).loads = p.loads ∧
      (Part.driveEjector p).outlet = p.outlet ∧ (Part.driveEjector p).defrost = p.defrost := by
  unfold Part.driveEjector; (try dsimp only); (repeat' split) <;> simp_all

@[simp] theorem beginAttempt_frame (p : Part) :
    (Part.beginAttempt p).Keeps p ∧ (Part.beginAttempt p).line = p.line ∧ (Part.beginAttempt p).loads = p.loads ∧
      (Part.beginAttempt p).outlet = p.outlet ∧ (Part.beginAttempt p).defrost = p.defrost := by
  unfold Part.beginAttempt; (try dsimp only); (repeat' split) <;> simp_all

@[simp] theorem endHeat_frame (m : Bool) (p : Part) :
    (Part.endHeat m p).Keeps p ∧ (Part.endHeat m p).line = p.line ∧ (Part.endHeat m p).loads = p.loads ∧
      (Part.endHeat m p).outlet = p.outlet := by
  unfold Part.endHeat; (try dsimp only); (repeat' split) <;> simp_all

@[simp] theorem compareMoldLimit_frame (p : Part) :
    (Part.compareMoldLimit p).Keeps p ∧ (Part.compareMoldLimit p).line = p.line ∧
      (Part.compareMoldLimit p).loads = p.loads ∧ (Part.compareMoldLimit p).outlet = p.outlet := by
  unfold Part.compareMoldLimit; (try dsimp only); (repeat' split) <;> simp_all

@[simp] theorem endFreeze_frame (b : Bool) (p : Part) :
    (Part.endFreeze b p).Keeps p ∧ (Part.endFreeze b p).line = p.line ∧ (Part.endFreeze b p).loads = p.loads ∧
      (Part.endFreeze b p).outlet = p.outlet := by
  unfold Part.endFreeze; (try dsimp only); (repeat' split) <;> simp_all

@[simp] theorem takeFreeze_frame (p : Part) :
    (Part.takeFreeze p).Keeps p ∧ (Part.takeFreeze p).line = p.line ∧ (Part.takeFreeze p).loads = p.loads ∧
      (Part.takeFreeze p).outlet = p.outlet := by
  unfold Part.takeFreeze; (try dsimp only); (repeat' split) <;> simp_all

@[simp] theorem takeFaultFreeze_frame (p : Part) :
    (Part.takeFaultFreeze p).Keeps p ∧ (Part.takeFaultFreeze p).line = p.line ∧
      (Part.takeFaultFreeze p).loads = p.loads ∧ (Part.takeFaultFreeze p).outlet = p.outlet := by
  unfold Part.takeFaultFreeze; (try dsimp only); (repeat' split) <;> simp_all

@[simp] theorem freezeReading_frame (p : Part) :
    (Part.freezeReading p).Keeps p ∧ (Part.freezeReading p).line = p.line ∧ (Part.freezeReading p).loads = p.loads ∧
      (Part.freezeReading p).outlet = p.outlet := by
  unfold Part.freezeReading; (try dsimp only); (repeat' split) <;> simp_all

@[simp] theorem heatReading_frame (e : Bool) (p : Part) :
    (Part.heatReading e p).Keeps p ∧ (Part.heatReading e p).line = p.line ∧ (Part.heatReading e p).loads = p.loads ∧
      (Part.heatReading e p).outlet = p.outlet := by
  unfold Part.heatReading; (try dsimp only); (repeat' split) <;> simp_all

@[simp] theorem moldReading_frame (e : Bool) (p : Part) :
    (Part.moldReading e p).Keeps p ∧ (Part.moldReading e p).line = p.line ∧ (Part.moldReading e p).loads = p.loads ∧
      (Part.moldReading e p).outlet = p.outlet := by
  unfold Part.moldReading; (try dsimp only); (repeat' split) <;> simp_all

@[simp] theorem afterFill_frame (o : TicketOutcome) (l : Bool) (p : Part) :
    (Part.afterFill o l p).Keeps p ∧ (Part.afterFill o l p).line = p.line ∧ (Part.afterFill o l p).loads = p.loads ∧
      (Part.afterFill o l p).outlet = p.outlet := by
  unfold Part.afterFill; (try dsimp only); (repeat' split) <;> simp_all

@[simp] theorem fillEnded_frame (r : EndingReason) (w : Work) (p : Part) :
    (Part.fillEnded r w p).Keeps p ∧ (Part.fillEnded r w p).line = p.line ∧
      (Part.fillEnded r w p).outlet = p.outlet := by
  unfold Part.fillEnded; (try dsimp only); (repeat' split) <;> simp_all

@[simp] theorem ejectSucceeds_frame (p : Part) :
    (Part.ejectSucceeds p).Keeps p ∧ (Part.ejectSucceeds p).line = p.line ∧
      (Part.ejectSucceeds p).outlet = p.outlet := by
  unfold Part.ejectSucceeds; (try dsimp only); (repeat' split) <;> simp_all

@[simp] theorem endEjectorTest_frame (n : TicketNo) (o : TicketOutcome) (p : Part) :
    (Part.endEjectorTest n o p).Keeps p ∧ (Part.endEjectorTest n o p).line = p.line ∧
      (Part.endEjectorTest n o p).loads = p.loads ∧ (Part.endEjectorTest n o p).outlet = p.outlet ∧
      (Part.endEjectorTest n o p).defrost = p.defrost := by
  unfold Part.endEjectorTest; (try dsimp only); (repeat' split) <;> simp_all

@[simp] theorem startEjectorTest_frame (p : Part) :
    (Part.startEjectorTest p).Keeps p ∧ (Part.startEjectorTest p).line = p.line ∧
      (Part.startEjectorTest p).loads = p.loads ∧ (Part.startEjectorTest p).outlet = p.outlet ∧
      (Part.startEjectorTest p).defrost = p.defrost := by
  unfold Part.startEjectorTest; (try dsimp only); (repeat' split) <;> simp_all

@[simp] theorem abandonEjectorTest_frame (n : TicketNo) (o : TicketOutcome) (p : Part) :
    (Part.abandonEjectorTest n o p).Keeps p ∧ (Part.abandonEjectorTest n o p).line = p.line ∧
      (Part.abandonEjectorTest n o p).loads = p.loads ∧ (Part.abandonEjectorTest n o p).outlet = p.outlet ∧
      (Part.abandonEjectorTest n o p).defrost = p.defrost := by
  unfold Part.abandonEjectorTest; (try dsimp only); (repeat' split) <;> simp_all

@[simp] theorem attemptSucceeds_frame (p : Part) :
    (Part.attemptSucceeds p).Keeps p ∧ (Part.attemptSucceeds p).line = p.line ∧
      (Part.attemptSucceeds p).outlet = p.outlet := by
  unfold Part.attemptSucceeds; (try dsimp only); (repeat' split) <;> simp_all

@[simp] theorem attemptFails_frame (p : Part) :
    (Part.attemptFails p).Keeps p ∧ (Part.attemptFails p).line = p.line ∧ (Part.attemptFails p).outlet = p.outlet := by
  unfold Part.attemptFails; (try dsimp only); (repeat' split) <;> simp_all

@[simp] theorem homeChanged_frame (c : Contact) (p : Part) :
    (Part.homeChanged c p).Keeps p ∧ (Part.homeChanged c p).line = p.line ∧
      (Part.homeChanged c p).outlet = p.outlet := by
  unfold Part.homeChanged; (try dsimp only); (repeat' split) <;> simp_all

@[simp] theorem homeFirstRead_frame (p : Part) :
    (Part.homeFirstRead p).Keeps p ∧ (Part.homeFirstRead p).line = p.line ∧ (Part.homeFirstRead p).loads = p.loads ∧
      (Part.homeFirstRead p).outlet = p.outlet := by
  unfold Part.homeFirstRead; (try dsimp only); (repeat' split) <;> simp_all

@[simp] theorem homingFails_frame (p : Part) :
    (Part.homingFails p).Keeps p ∧ (Part.homingFails p).line = p.line ∧ (Part.homingFails p).outlet = p.outlet := by
  unfold Part.homingFails; (try dsimp only); (repeat' split) <;> simp_all

@[simp] theorem endIceSettle_frame (p : Part) :
    (Part.endIceSettle p).Keeps p ∧ (Part.endIceSettle p).line = p.line ∧ (Part.endIceSettle p).loads = p.loads ∧
      (Part.endIceSettle p).outlet = p.outlet := by
  unfold Part.endIceSettle; (try dsimp only); (repeat' split) <;> simp_all

@[simp] theorem beamChanged_frame (p : Part) :
    (Part.beamChanged p).Keeps p ∧ (Part.beamChanged p).line = p.line ∧ (Part.beamChanged p).loads = p.loads ∧
      (Part.beamChanged p).outlet = p.outlet ∧ (Part.beamChanged p).defrost = p.defrost := by
  unfold Part.beamChanged; (try dsimp only); (repeat' split) <;> simp_all

@[simp] theorem capacityChanged_frame (p : Part) :
    (Part.capacityChanged p).Keeps p ∧ (Part.capacityChanged p).line = p.line ∧
      (Part.capacityChanged p).loads = p.loads ∧ (Part.capacityChanged p).outlet = p.outlet ∧
      (Part.capacityChanged p).defrost = p.defrost := by
  unfold Part.capacityChanged; (try dsimp only); (repeat' split) <;> simp_all

@[simp] theorem enterHarvestHeat_frame (n : TicketNo) (p : Part) :
    (Part.enterHarvestHeat n p).Keeps p ∧ (Part.enterHarvestHeat n p).line = p.line ∧
      (Part.enterHarvestHeat n p).outlet = p.outlet := by
  unfold Part.enterHarvestHeat; (try dsimp only); (repeat' split) <;> simp_all

@[simp] theorem claimFill_frame (n : TicketNo) (p : Part) :
    (Part.claimFill n p).Keeps p ∧ (Part.claimFill n p).loads = p.loads ∧ (Part.claimFill n p).ice = p.ice ∧
      (Part.claimFill n p).outlet = p.outlet ∧ (Part.claimFill n p).defrost = p.defrost := by
  unfold Part.claimFill; (try dsimp only); (repeat' split) <;> simp_all

@[simp] theorem redraw_frame (p : Part) :
    (Part.redraw p).Keeps p ∧ (Part.redraw p).outlet = p.outlet := by
  unfold Part.redraw
  split
  · split
    · simp
    · rename_i kind _
      have h := draw_frame kind .iceMaker none {} p
      rcases hd : p.draw kind .iceMaker none {} with ⟨_ | n, q⟩ <;> rw [hd] at h
      · simp_all
      · dsimp only; split <;> simp_all
  · simp

@[simp] theorem parkFilling_frame (p : Part) :
    (Part.parkFilling p).Keeps p := by
  unfold Part.parkFilling; (try dsimp only); (repeat' split) <;> simp_all

@[simp] theorem parkFillWait_frame (p : Part) :
    (Part.parkFillWait p).Keeps p ∧ (Part.parkFillWait p).loads = p.loads ∧
      (Part.parkFillWait p).outlet = p.outlet := by
  unfold Part.parkFillWait; (try dsimp only); (repeat' split) <;> simp_all

@[simp] theorem idleOutlet_frame (p : Part) :
    (Part.idleOutlet p).Keeps p ∧ (Part.idleOutlet p).line = p.line ∧ (Part.idleOutlet p).loads = p.loads ∧
      (Part.idleOutlet p).ice = p.ice ∧ (Part.idleOutlet p).defrost = p.defrost := by
  unfold Part.idleOutlet; (try dsimp only); (repeat' split) <;> simp_all

@[simp] theorem finishHead_frame (o : TicketOutcome) (p : Part) :
    (Part.finishHead o p).Keeps p ∧ (Part.finishHead o p).line = p.line ∧ (Part.finishHead o p).loads = p.loads ∧
      (Part.finishHead o p).ice = p.ice ∧ (Part.finishHead o p).defrost = p.defrost := by
  unfold Part.finishHead; (try dsimp only); (repeat' split) <;> simp_all

@[simp] theorem finishUnstarted_frame (o : TicketOutcome) (p : Part) :
    (Part.finishUnstarted o p).Keeps p ∧ (Part.finishUnstarted o p).line = p.line ∧
      (Part.finishUnstarted o p).loads = p.loads ∧ (Part.finishUnstarted o p).ice = p.ice ∧
      (Part.finishUnstarted o p).defrost = p.defrost := by
  unfold Part.finishUnstarted; (try dsimp only); (repeat' split) <;> simp_all

@[simp] theorem leaveClosed_frame (p : Part) :
    (Part.leaveClosed p).Keeps p ∧ (Part.leaveClosed p).line = p.line ∧ (Part.leaveClosed p).ice = p.ice ∧
      (Part.leaveClosed p).defrost = p.defrost := by
  unfold Part.leaveClosed; (try dsimp only); (repeat' split) <;> simp_all

@[simp] theorem beginOpening_frame (p : Part) :
    (Part.beginOpening p).Keeps p ∧ (Part.beginOpening p).line = p.line ∧ (Part.beginOpening p).ice = p.ice ∧
      (Part.beginOpening p).defrost = p.defrost := by
  unfold Part.beginOpening; (try dsimp only); (repeat' split) <;> simp_all

@[simp] theorem beginClosing_frame (p : Part) :
    (Part.beginClosing p).Keeps p ∧ (Part.beginClosing p).line = p.line ∧ (Part.beginClosing p).ice = p.ice ∧
      (Part.beginClosing p).defrost = p.defrost := by
  unfold Part.beginClosing; (try dsimp only); (repeat' split) <;> simp_all

@[simp] theorem startDuct_frame (p : Part) :
    (Part.startDuct p).Keeps p ∧ (Part.startDuct p).line = p.line ∧ (Part.startDuct p).ice = p.ice ∧
      (Part.startDuct p).defrost = p.defrost := by
  unfold Part.startDuct; (try dsimp only); (repeat' split) <;> simp_all

@[simp] theorem flapCloses_frame (p : Part) :
    (Part.flapCloses p).Keeps p ∧ (Part.flapCloses p).line = p.line ∧ (Part.flapCloses p).ice = p.ice ∧
      (Part.flapCloses p).defrost = p.defrost := by
  unfold Part.flapCloses; (try dsimp only); (repeat' split) <;> simp_all

@[simp] theorem stopAuger_frame (p : Part) :
    (Part.stopAuger p).Keeps p ∧ (Part.stopAuger p).line = p.line ∧ (Part.stopAuger p).loads = p.loads ∧
      (Part.stopAuger p).ice = p.ice ∧ (Part.stopAuger p).defrost = p.defrost := by
  unfold Part.stopAuger; (try dsimp only); (repeat' split) <;> simp_all

@[simp] theorem endRun_frame (p : Part) :
    (Part.endRun p).Keeps p ∧ (Part.endRun p).line = p.line ∧ (Part.endRun p).loads = p.loads ∧
      (Part.endRun p).defrost = p.defrost := by
  unfold Part.endRun; (try dsimp only); (repeat' split) <;> simp_all

@[simp] theorem stopping_frame (o : TicketOutcome) (p : Part) :
    (Part.stopping o p).Keeps p ∧ (Part.stopping o p).line = p.line ∧ (Part.stopping o p).loads = p.loads ∧
      (Part.stopping o p).ice = p.ice ∧ (Part.stopping o p).defrost = p.defrost := by
  unfold Part.stopping; (try dsimp only); (repeat' split) <;> simp_all

@[simp] theorem stopRun_frame (o : TicketOutcome) (p : Part) :
    (Part.stopRun o p).Keeps p ∧ (Part.stopRun o p).line = p.line ∧ (Part.stopRun o p).loads = p.loads ∧
      (Part.stopRun o p).defrost = p.defrost := by
  unfold Part.stopRun; (try dsimp only); (repeat' split) <;> simp_all

@[simp] theorem enterClosing_frame (p : Part) :
    (Part.enterClosing p).Keeps p ∧ (Part.enterClosing p).line = p.line ∧ (Part.enterClosing p).ice = p.ice ∧
      (Part.enterClosing p).defrost = p.defrost := by
  unfold Part.enterClosing; (try dsimp only); (repeat' split) <;> simp_all

@[simp] theorem abandonOpening_frame (o : TicketOutcome) (p : Part) :
    (Part.abandonOpening o p).Keeps p ∧ (Part.abandonOpening o p).line = p.line ∧
      (Part.abandonOpening o p).ice = p.ice ∧ (Part.abandonOpening o p).defrost = p.defrost := by
  unfold Part.abandonOpening; (try dsimp only); (repeat' split) <;> simp_all

@[simp] theorem stopChuteTest_frame (o : TicketOutcome) (p : Part) :
    (Part.stopChuteTest o p).Keeps p ∧ (Part.stopChuteTest o p).line = p.line ∧
      (Part.stopChuteTest o p).defrost = p.defrost := by
  unfold Part.stopChuteTest; (try dsimp only); (repeat' split) <;> simp_all

@[simp] theorem stopDelivery_frame (o : TicketOutcome) (p : Part) :
    (Part.stopDelivery o p).Keeps p ∧ (Part.stopDelivery o p).defrost = p.defrost := by
  unfold Part.stopDelivery; (try dsimp only); (repeat' split) <;> simp_all

@[simp] theorem stopHead_frame (o : TicketOutcome) (p : Part) :
    (Part.stopHead o p).Keeps p ∧ (Part.stopHead o p).defrost = p.defrost := by
  unfold Part.stopHead; (try dsimp only); (repeat' split) <;> simp_all

@[simp] theorem claimDispense_frame (n : TicketNo) (p : Part) :
    (Part.claimDispense n p).Keeps p ∧ (Part.claimDispense n p).loads = p.loads ∧
      (Part.claimDispense n p).ice = p.ice ∧ (Part.claimDispense n p).defrost = p.defrost := by
  unfold Part.claimDispense; (try dsimp only); (repeat' split) <;> simp_all

@[simp] theorem startWater_frame (n : TicketNo) (p : Part) :
    (Part.startWater n p).Keeps p ∧ (Part.startWater n p).loads = p.loads ∧ (Part.startWater n p).ice = p.ice ∧
      (Part.startWater n p).defrost = p.defrost := by
  unfold Part.startWater; (try dsimp only); (repeat' split) <;> simp_all

@[simp] theorem startFlap_frame (n : TicketNo) (p : Part) :
    (Part.startFlap n p).Keeps p ∧ (Part.startFlap n p).line = p.line ∧ (Part.startFlap n p).ice = p.ice ∧
      (Part.startFlap n p).defrost = p.defrost := by
  unfold Part.startFlap; (try dsimp only); (repeat' split) <;> simp_all

@[simp] theorem startHead_frame (n : TicketNo) (b : Bool) (p : Part) :
    (Part.startHead n b p).Keeps p ∧ (Part.startHead n b p).ice = p.ice ∧
      (Part.startHead n b p).defrost = p.defrost := by
  unfold Part.startHead; (try dsimp only); (repeat' split) <;> simp_all

@[simp] theorem startOne_frame (pr : Option Paddle) (p : Part) :
    (Part.startOne pr p).Keeps p ∧ (Part.startOne pr p).ice = p.ice ∧ (Part.startOne pr p).defrost = p.defrost := by
  unfold Part.startOne; (try dsimp only); (repeat' split) <;> simp_all

@[simp] theorem startUpTo_frame (k : Nat) (p : Part) :
    (Part.startUpTo k p).Keeps p ∧ (Part.startUpTo k p).ice = p.ice ∧ (Part.startUpTo k p).defrost = p.defrost := by
  induction k generalizing p with
  | zero => simp [Part.startUpTo]
  | succ k ih => unfold Part.startUpTo; split <;> simp [ih]

@[simp] theorem startHeads_frame (p : Part) :
    (Part.startHeads p).Keeps p ∧ (Part.startHeads p).ice = p.ice ∧ (Part.startHeads p).defrost = p.defrost := by
  unfold Part.startHeads; (try dsimp only); (repeat' split) <;> simp_all

@[simp] theorem paddleDraw_frame (pad : Paddle) (p : Part) :
    (Part.paddleDraw pad p).Keeps p ∧ (Part.paddleDraw pad p).ice = p.ice ∧
      (Part.paddleDraw pad p).defrost = p.defrost := by
  unfold Part.paddleDraw
  have h := draw_frame (paddleKind pad) .paddle none (p.paddleRequest pad) p
  rcases hd : p.draw (paddleKind pad) .paddle none (p.paddleRequest pad) with ⟨_ | n, q⟩ <;> rw [hd] at h <;> simp_all

@[simp] theorem judgePress_frame (pad : Paddle) (p : Part) :
    (Part.judgePress pad p).Keeps p ∧ (Part.judgePress pad p).ice = p.ice ∧
      (Part.judgePress pad p).defrost = p.defrost := by
  unfold Part.judgePress; (try dsimp only); (repeat' split) <;> simp_all

@[simp] theorem judgeRelease_frame (pad : Paddle) (p : Part) :
    (Part.judgeRelease pad p).Keeps p ∧ (Part.judgeRelease pad p).defrost = p.defrost := by
  unfold Part.judgeRelease; (try dsimp only); (repeat' split) <;> simp_all

@[simp] theorem driveForward_frame (p : Part) :
    (Part.driveForward p).Keeps p ∧ (Part.driveForward p).line = p.line ∧ (Part.driveForward p).loads = p.loads ∧
      (Part.driveForward p).ice = p.ice ∧ (Part.driveForward p).defrost = p.defrost := by
  unfold Part.driveForward; (try dsimp only); (repeat' split) <;> simp_all

@[simp] theorem setRunTarget_frame (p : Part) :
    (Part.setRunTarget p).Keeps p ∧ (Part.setRunTarget p).line = p.line ∧ (Part.setRunTarget p).loads = p.loads ∧
      (Part.setRunTarget p).ice = p.ice ∧ (Part.setRunTarget p).defrost = p.defrost := by
  unfold Part.setRunTarget; (try dsimp only); (repeat' split) <;> simp_all

@[simp] theorem enterRunning_frame (p : Part) :
    (Part.enterRunning p).Keeps p ∧ (Part.enterRunning p).line = p.line ∧ (Part.enterRunning p).loads = p.loads ∧
      (Part.enterRunning p).ice = p.ice ∧ (Part.enterRunning p).defrost = p.defrost := by
  unfold Part.enterRunning; (try dsimp only); (repeat' split) <;> simp_all

@[simp] theorem openingSucceeds_frame (p : Part) :
    (Part.openingSucceeds p).Keeps p ∧ (Part.openingSucceeds p).line = p.line ∧
      (Part.openingSucceeds p).loads = p.loads ∧ (Part.openingSucceeds p).ice = p.ice ∧
      (Part.openingSucceeds p).defrost = p.defrost := by
  unfold Part.openingSucceeds; (try dsimp only); (repeat' split) <;> simp_all

@[simp] theorem openingFails_frame (p : Part) :
    (Part.openingFails p).Keeps p ∧ (Part.openingFails p).line = p.line ∧ (Part.openingFails p).ice = p.ice ∧
      (Part.openingFails p).defrost = p.defrost := by
  unfold Part.openingFails; (try dsimp only); (repeat' split) <;> simp_all

@[simp] theorem flapFalls_frame (p : Part) :
    (Part.flapFalls p).Keeps p ∧ (Part.flapFalls p).line = p.line ∧ (Part.flapFalls p).defrost = p.defrost := by
  unfold Part.flapFalls; (try dsimp only); (repeat' split) <;> simp_all

@[simp] theorem flapChanged_frame (c : Contact) (p : Part) :
    (Part.flapChanged c p).Keeps p ∧ (Part.flapChanged c p).line = p.line ∧
      (Part.flapChanged c p).defrost = p.defrost := by
  unfold Part.flapChanged; (try dsimp only); (repeat' split) <;> simp_all

@[simp] theorem flapFirstRead_frame (p : Part) :
    (Part.flapFirstRead p).Keeps p ∧ (Part.flapFirstRead p).line = p.line ∧ (Part.flapFirstRead p).ice = p.ice ∧
      (Part.flapFirstRead p).defrost = p.defrost := by
  unfold Part.flapFirstRead; (try dsimp only); (repeat' split) <;> simp_all

@[simp] theorem endClosing_frame (b : Bool) (p : Part) :
    (Part.endClosing b p).Keeps p ∧ (Part.endClosing b p).line = p.line ∧ (Part.endClosing b p).loads = p.loads ∧
      (Part.endClosing b p).ice = p.ice ∧ (Part.endClosing b p).defrost = p.defrost := by
  unfold Part.endClosing; (try dsimp only); (repeat' split) <;> simp_all

@[simp] theorem judgeClosing_frame (p : Part) :
    (Part.judgeClosing p).Keeps p ∧ (Part.judgeClosing p).line = p.line ∧ (Part.judgeClosing p).ice = p.ice ∧
      (Part.judgeClosing p).defrost = p.defrost := by
  unfold Part.judgeClosing; (try dsimp only); (repeat' split) <;> simp_all

@[simp] theorem jam_frame (p : Part) :
    (Part.jam p).Keeps p ∧ (Part.jam p).line = p.line ∧ (Part.jam p).loads = p.loads ∧
      (Part.jam p).defrost = p.defrost := by
  unfold Part.jam; (try dsimp only); (repeat' split) <;> simp_all

@[simp] theorem endReverse_frame (p : Part) :
    (Part.endReverse p).Keeps p ∧ (Part.endReverse p).line = p.line ∧ (Part.endReverse p).loads = p.loads ∧
      (Part.endReverse p).defrost = p.defrost := by
  unfold Part.endReverse; (try dsimp only); (repeat' split) <;> simp_all

@[simp] theorem compareRunning_frame (p : Part) :
    (Part.compareRunning p).Keeps p ∧ (Part.compareRunning p).line = p.line ∧
      (Part.compareRunning p).loads = p.loads ∧ (Part.compareRunning p).defrost = p.defrost := by
  unfold Part.compareRunning; (try dsimp only); (repeat' split) <;> simp_all

@[simp] theorem tachSeen_frame (p : Part) :
    (Part.tachSeen p).Keeps p ∧ (Part.tachSeen p).line = p.line ∧ (Part.tachSeen p).loads = p.loads ∧
      (Part.tachSeen p).ice = p.ice ∧ (Part.tachSeen p).defrost = p.defrost := by
  unfold Part.tachSeen; (try dsimp only); (repeat' split) <;> simp_all

@[simp] theorem startPause_frame (p : Part) :
    (Part.startPause p).Keeps p ∧ (Part.startPause p).line = p.line ∧ (Part.startPause p).loads = p.loads ∧
      (Part.startPause p).ice = p.ice ∧ (Part.startPause p).defrost = p.defrost := by
  unfold Part.startPause; (try dsimp only); (repeat' split) <;> simp_all

@[simp] theorem doorOpens_frame (p : Part) :
    (Part.doorOpens p).Keeps p ∧ (Part.doorOpens p).loads = p.loads ∧ (Part.doorOpens p).ice = p.ice ∧
      (Part.doorOpens p).defrost = p.defrost := by
  unfold Part.doorOpens; (try dsimp only); (repeat' split) <;> simp_all

@[simp] theorem resumeHead_frame (p : Part) :
    (Part.resumeHead p).Keeps p ∧ (Part.resumeHead p).loads = p.loads ∧ (Part.resumeHead p).ice = p.ice ∧
      (Part.resumeHead p).defrost = p.defrost := by
  unfold Part.resumeHead; (try dsimp only); (repeat' split) <;> simp_all

@[simp] theorem doorCloses_frame (p : Part) :
    (Part.doorCloses p).Keeps p ∧ (Part.doorCloses p).defrost = p.defrost := by
  unfold Part.doorCloses; (try dsimp only); (repeat' split) <;> simp_all

@[simp] theorem pauseOver_frame (p : Part) :
    (Part.pauseOver p).Keeps p ∧ (Part.pauseOver p).defrost = p.defrost := by
  unfold Part.pauseOver; (try dsimp only); (repeat' split) <;> simp_all

@[simp] theorem cancelQueued_frame (n : TicketNo) (o : TicketOutcome) (p : Part) :
    (Part.cancelQueued n o p).Keeps p ∧ (Part.cancelQueued n o p).defrost = p.defrost := by
  unfold Part.cancelQueued; (try dsimp only); (repeat' split) <;> simp_all

@[simp] theorem loseLink_frame (n : TicketNo) (p : Part) :
    (p.loseLink n).Keeps p ∧ (p.loseLink n).defrost = p.defrost := by
  unfold Part.loseLink; (try dsimp only); (repeat' split) <;> simp_all

@[simp] theorem loseQueue_frame (p : Part) :
    (Part.loseQueue p).Keeps p ∧ (Part.loseQueue p).defrost = p.defrost := by
  unfold Part.loseQueue
  generalize p.pool.queue = l
  induction l generalizing p with
  | nil => simp
  | cons n l ih => have h := ih (p.loseLink n); have g := loseLink_frame n p; simp_all

@[simp] theorem settle_frame (p : Part) :
    (Part.settle p).Keeps p := by
  unfold Part.settle; (try dsimp only); (repeat' split) <;> simp_all

@[simp] theorem reportWork_frame (p : Part) :
    (Part.reportWork p).Keeps p ∧ (Part.reportWork p).line = p.line := by
  unfold Part.reportWork; (try dsimp only); (repeat' split) <;> simp_all

@[simp] theorem endLineSettle_frame (p : Part) :
    (Part.endLineSettle p).Keeps p := by
  unfold Part.endLineSettle; (try dsimp only); (repeat' split) <;> simp_all

@[simp] theorem handReading_frame (ch : ChannelNo) (e : Bool) (p : Part) :
    (Part.handReading ch e p).Keeps p ∧ (Part.handReading ch e p).line = p.line ∧
      (Part.handReading ch e p).outlet = p.outlet := by
  unfold Part.handReading; (try dsimp only); (repeat' split) <;> simp_all

@[simp] theorem handClass_frame (c : CurveClass) (p : Part) :
    (Part.handClass c p).Keeps p ∧ (Part.handClass c p).line = p.line ∧ (Part.handClass c p).outlet = p.outlet := by
  unfold Part.handClass
  generalize List.filter _ _ = l
  induction l generalizing p with
  | nil => simp
  | cons n l ih => have h := ih (p.handReading n false); have g := handReading_frame n false p; simp_all

@[simp] theorem endServiceTest_frame (o : TicketOutcome) (p : Part) :
    (Part.endServiceTest o p).Keeps p ∧ (Part.endServiceTest o p).line = p.line ∧
      (Part.endServiceTest o p).outlet = p.outlet ∧ (Part.endServiceTest o p).defrost = p.defrost := by
  unfold Part.endServiceTest; (try dsimp only); (repeat' split) <;> simp_all

@[simp] theorem endDuct_frame (p : Part) :
    (Part.endDuct p).Keeps p ∧ (Part.endDuct p).line = p.line ∧ (Part.endDuct p).ice = p.ice ∧
      (Part.endDuct p).defrost = p.defrost := by
  unfold Part.endDuct; (try dsimp only); (repeat' split) <;> simp_all

@[simp] theorem judgeGrant_frame (p : Part) :
    (Part.judgeGrant p).Keeps p := by
  unfold Part.judgeGrant; (try dsimp only); (repeat' split) <;> simp_all

@[simp] theorem judgeResume_frame (p : Part) :
    (Part.judgeResume p).Keeps p ∧ (Part.judgeResume p).loads = p.loads ∧ (Part.judgeResume p).ice = p.ice ∧
      (Part.judgeResume p).defrost = p.defrost := by
  unfold Part.judgeResume; (try dsimp only); (repeat' split) <;> simp_all

@[simp] theorem startHeaterTest_frame (h : HeaterNo) (p : Part) :
    (Part.startHeaterTest h p).Keeps p ∧ (Part.startHeaterTest h p).line = p.line ∧
      (Part.startHeaterTest h p).ice = p.ice ∧ (Part.startHeaterTest h p).outlet = p.outlet ∧
      (Part.startHeaterTest h p).defrost = p.defrost := by
  unfold Part.startHeaterTest; (try dsimp only); (repeat' split) <;> simp_all

end Sys2Proof.Machine
end

