-- ==== Sys2Proof/Laws/Link.lean ====
section
/-! SUPPORT. The taking of a host command: what exec does with one on an idle link, in a full or busy inbox, and how an
answer of the command's owner becomes the reply. Later proofs cite these and unfold no part of the link. -/

namespace Sys2Proof.Machine

/-- A command of any row that goes through `take`, outside a reset, becomes what its effect makes of the later part. -/
theorem take_next (s : State) (dt : Nat) (f : Part → Part) (h : s.part.resetting = none) :
    s.take dt f = .next { s with part := f (s.later dt) } := by
  simp [State.take, Part.take, State.later, h]

/-- Every host-command row hands its frame to the link. -/
theorem exec_hostRow (i : Instr) (s : State) (dt : Nat) (f : Frame) (h : hostRow i = some (dt, f)) :
    exec i s = s.take dt (Part.hostFrame f) := by
  cases i <;> simp only [hostRow, Option.some.injEq, Prod.mk.injEq, reduceCtorEq] at h <;>
    (obtain ⟨rfl, rfl⟩ := h; rfl)

/-- A host command becomes what the link makes of its frame. -/
theorem becomes_hostFrame (i : Instr) (s : State) (dt : Nat) (f : Frame) (h : hostRow i = some (dt, f))
    (hr : s.part.resetting = none) : Becomes i s ((s.later dt).hostFrame f) := by
  rw [Becomes, exec_hostRow i s dt f h, take_next s dt _ hr]

/-- A frame with at most 64 payload bytes is taken. -/
theorem hostFrame_fits (f : Frame) (p : Part) (h : f.payload.length ≤ 64) : p.hostFrame f = p.takeFrame f := by
  rw [Part.hostFrame, if_neg (by simp only [maxPayload]; omega)]

/-- On an idle link a frame is executed at once. -/
theorem takeFrame_idle (f : Frame) (p : Part) (hi : p.link.inbox = []) (he : p.link.executing = none) :
    p.takeFrame f = Part.execute f p.reloadSilence := by
  obtain ⟨clock, resetting, link, pool, sense, loads, line, ice, outlet, defrost, supervision, free⟩ := p
  obtain ⟨receiver, inbox, executing, reply, restartPending, lastError, pendingSet, mask⟩ := link
  simp only at hi he
  subst hi he
  rfl

/-- What an owner answers is built into the reply. -/
theorem execute_answered (f : Frame) (p q : Part) (a : Answer)
    (h : Part.takeKind f { p with link.executing := some f } = (some a, q)) :
    Part.execute f p = q.sendReply f a := by
  simp [Part.execute, h]

/-- A command that is held is not answered. -/
theorem execute_held (f : Frame) (p q : Part)
    (h : Part.takeKind f { p with link.executing := some f } = (none, q)) : Part.execute f p = q := by
  simp [Part.execute, h]

/-- The part that an owner is handed on an idle link is the one `heard` names. -/
theorem heard_eq (i : Instr) (s : State) (dt : Nat) (f : Frame) (h : hostRow i = some (dt, f)) :
    s.heard i = { (s.later dt).reloadSilence with link.executing := some f } := by
  simp only [State.heard, h]
  rfl

/-- A host command on an idle link is handed to the owner of its kind. -/
theorem becomes_execute (i : Instr) (s : State) (dt : Nat) (f : Frame) (hs : s.linkIdle)
    (h : hostRow i = some (dt, f)) (hl : f.payload.length ≤ 64) :
    Becomes i s (Part.execute f (s.later dt).reloadSilence) := by
  obtain ⟨hr, hi, he⟩ := hs
  have hb := becomes_hostFrame i s dt f h hr
  rwa [hostFrame_fits f _ hl, takeFrame_idle f (s.later dt) hi he] at hb

/-- An owner's answer on an idle link, where the owner leaves the inbox empty, is the command's reply with ROOM 4. -/
theorem answers_of_takeKind (i : Instr) (s : State) (dt : Nat) (f : Frame) (st : Status) (data : List Byte) (q : Part)
    (hs : s.linkIdle) (h : hostRow i = some (dt, f)) (hl : f.payload.length ≤ 64)
    (hk : Part.takeKind f (s.heard i) = (some ⟨st, data⟩, q)) (hq : q.link.inbox = []) : Answers i s st data q := by
  rw [heard_eq i s dt f h] at hk
  have hb := becomes_execute i s dt f hs h hl
  rw [execute_answered f _ q ⟨st, data⟩ hk] at hb
  simp only [Answers, h]
  simpa [Part.sendReply, replyFrame, replyKind, byte, Link.room, hq] using hb

/-- A command that its owner holds on an idle link. -/
theorem becomes_of_held (i : Instr) (s : State) (dt : Nat) (f : Frame) (q : Part) (hs : s.linkIdle)
    (h : hostRow i = some (dt, f)) (hl : f.payload.length ≤ 64) (hk : Part.takeKind f (s.heard i) = (none, q)) :
    Becomes i s q := by
  rw [heard_eq i s dt f h] at hk
  have hb := becomes_execute i s dt f hs h hl
  rwa [execute_held f _ q hk] at hb

/-- The inbox is empty when an owner is handed a command on an idle link. -/
theorem heard_inbox (i : Instr) (s : State) (dt : Nat) (f : Frame) (hs : s.linkIdle) (h : hostRow i = some (dt, f)) :
    (s.heard i).link.inbox = [] := by
  rw [heard_eq i s dt f h]
  exact hs.2.1

/-! The frame receiver, byte by byte. -/

/-- A hunting receiver takes START and no other byte. -/
theorem receive_hunting (p : Part) (b : Byte) (h : p.link.receiver = .hunting) :
    p.receive b = if b = startByte then { p with link.receiver := .gathering [] p.clock.now } else p := by
  simp [Part.receive, Part.gapOver, Part.sinceByte, h]

/-- A byte that has begun in time is gathered. -/
theorem receive_inTime (p : Part) (b : Byte) (bytes : List Byte) (t : Nat) (h : p.link.receiver = .gathering bytes t)
    (ht : p.clock.now ≤ t + 20520) : p.receive b = p.gather bytes b := by
  have hg : p.gapOver = false := by
    rw [Part.gapOver, Part.sinceByte, h]
    exact decide_eq_false (by simp only [gapTime, byteTime, millisecond]; omega)
  simp [Part.receive, hg, h]

/-- A byte that has begun too late finds its frame discarded GAP, and is a hunting byte. -/
theorem receive_late (p : Part) (b : Byte) (bytes : List Byte) (t : Nat) (h : p.link.receiver = .gathering bytes t)
    (ht : t + 20520 < p.clock.now) : p.receive b = p.endGap.receive b := by
  have hg : p.gapOver = true := by
    rw [Part.gapOver, Part.sinceByte, h]
    exact decide_eq_true (by simp only [gapTime, byteTime, millisecond]; omega)
  have hr : p.endGap.link.receiver = .hunting := rfl
  rw [receive_hunting _ b hr, Part.receive, if_pos hg]
  simp [hr]

end Sys2Proof.Machine
end

