-- ==== Sys2Proof/Laws/Pool.lean ====
section
/-! SUPPORT. The Ticket Manager: what a retirement, auto-retire, a draw and the end of a ticket's work do to the pool. -/

namespace Sys2Proof.Machine

/-- A changed record is read back; every other record is as it was. -/
theorem ticket_updateTicket (p : Part) (n m : TicketNo) (f : Ticket → Ticket) :
    (p.updateTicket n f).ticket m = if m = n then f (p.ticket n) else p.ticket m := by
  simp only [Part.ticket, Part.updateTicket, Fin.getElem_fin, Vector.getElem_set, Fin.ext_iff]
  split <;> rename_i h
  · rw [if_pos h.symm]
  · rw [if_neg fun h' => h h'.symm]

/-- An attempt of the ice maker touches the starvation counts alone. -/
theorem iceAttempt_pool (p : Part) :
    p.iceAttempt.pool = { p.pool with starvation := p.iceAttempt.pool.starvation } := by
  unfold Part.iceAttempt; split <;> simp [Part.starve]

/-- With no draw to make, an attempt of the ice maker changes nothing. -/
theorem iceAttempt_idle (p : Part) (h : p.iceWants = none) : p.iceAttempt = p := by
  simp [Part.iceAttempt, h]

/-- What the ice maker waits for does not depend on the free list, the completion queue or the records. -/
theorem iceWants_congr (p q : Part) (h1 : q.ice = p.ice) (h2 : q.pool.iceSlot = p.pool.iceSlot) (h3 : q.sense = p.sense)
    (h4 : q.supervision = p.supervision) : q.iceWants = p.iceWants := by
  simp only [Part.iceWants, h1, h2, h3, h4]

/-- One retirement: the ticket moves from the completion queue to the tail of the free list, emptied. -/
theorem retire_pool (n : TicketNo) (p : Part) :
    (p.retire n).pool.free = p.pool.free ++ [n] ∧ (p.retire n).pool.completion = p.pool.completion.erase n ∧
    (p.retire n).pool.tickets = p.pool.tickets.set n {} ∧ (p.retire n).pool.queue = p.pool.queue ∧
    (p.retire n).pool.iceSlot = p.pool.iceSlot ∧ (p.retire n).pool.defrostSlot = p.pool.defrostSlot ∧
    (p.retire n).pool.serviceSlot = p.pool.serviceSlot := by
  unfold Part.retire Part.joinFree; rw [iceAttempt_pool]; simp

/-- A retirement leaves every other record. -/
theorem ticket_retire (p : Part) (n m : TicketNo) (h : m ≠ n) : (p.retire n).ticket m = p.ticket m := by
  simp only [Part.ticket, (retire_pool n p).2.2.1, Fin.getElem_fin, Vector.getElem_set]
  rw [if_neg fun h' => h (Fin.ext h'.symm)]

/-- The record that auto-retire takes stands in the completion queue, and its origin may be retired. -/
theorem oldestRetirable_some (p : Part) (n : TicketNo) (h : p.oldestRetirable = some n) :
    n ∈ p.pool.completion ∧ (p.ticket n).retirable = true := by
  unfold Part.oldestRetirable at h
  exact ⟨List.mem_of_find?_eq_some h, by simpa using List.find?_some h⟩

/-- A LINK record may not be retired. -/
theorem link_not_retirable (t : Ticket) (h : t.origin = some .link) : t.retirable = false := by
  simp [Ticket.retirable, h]

/-- With a free count of 4 or more nothing is retired. -/
theorem retireUpTo_enough (k : Nat) (p : Part) (h : 4 ≤ p.pool.free.length) : p.retireUpTo k = p := by
  cases k with
  | zero => rfl
  | succ k => simp only [Part.retireUpTo]; rw [if_neg (Nat.not_lt.2 h)]

/-- Everything that up to `k` retirements can do to the pool. -/
theorem retireUpTo_pool (k : Nat) (p : Part) :
    let q := p.retireUpTo k
    (4 ≤ q.pool.free.length ∨ q.oldestRetirable = none ∨ q.pool.free.length = p.pool.free.length + k) ∧
    q.pool.completion.Sublist p.pool.completion ∧ p.pool.free <+: q.pool.free ∧
    (∀ n ∈ p.pool.completion, (p.ticket n).retirable = false → n ∈ q.pool.completion ∧ q.ticket n = p.ticket n) ∧
    (p.pool.free.length < 4 → q.pool.free.length ≤ 4) ∧
    (∀ n, n ∉ p.pool.completion → q.ticket n = p.ticket n) ∧
    q.pool.queue = p.pool.queue ∧ q.pool.iceSlot = p.pool.iceSlot ∧ q.pool.defrostSlot = p.pool.defrostSlot ∧
    q.pool.serviceSlot = p.pool.serviceSlot := by
  induction k generalizing p with
  | zero =>
    refine ⟨.inr (.inr rfl), List.Sublist.refl _, List.prefix_rfl, fun n h _ => ⟨h, rfl⟩, fun h => by exact h.le,
      fun _ _ => rfl, rfl, rfl, rfl, rfl⟩
  | succ k ih =>
    simp only [Part.retireUpTo]
    split
    · rename_i hfew
      cases ho : p.oldestRetirable with
      | none =>
        exact ⟨.inr (.inl ho), List.Sublist.refl _, List.prefix_rfl, fun n h _ => ⟨h, rfl⟩, fun h => by exact h.le,
          fun _ _ => rfl, rfl, rfl, rfl, rfl⟩
      | some n =>
        obtain ⟨hm, hret⟩ := oldestRetirable_some p n ho
        obtain ⟨h1, h2, h3, h4, h5, h6, h7, h8, h9, h10⟩ := ih (p.retire n)
        obtain ⟨g1, g2, -, g4, g5, g6, g7⟩ := retire_pool n p
        refine ⟨?_, ?_, ?_, ?_, ?_, ?_, by rw [h7, g4], by rw [h8, g5], by rw [h9, g6], by rw [h10, g7]⟩
        · rw [g1, List.length_append, List.length_singleton] at h1
          rcases h1 with h | h | h
          · exact .inl h
          · exact .inr (.inl h)
          · exact .inr (.inr (by dsimp only at h ⊢; omega))
        · exact h2.trans (by rw [g2]; exact List.erase_sublist)
        · exact List.IsPrefix.trans (by rw [g1]; simp) h3
        · intro m hmm hno
          have hne : m ≠ n := by
            rintro rfl
            rw [hno] at hret
            exact absurd hret (by decide)
          have h := h4 m (by rw [g2]; exact (List.mem_erase_of_ne hne).2 hmm) (by rw [ticket_retire p n m hne]; exact hno)
          rw [ticket_retire p n m hne] at h
          exact h
        · intro hl
          by_cases h : (p.retire n).pool.free.length < 4
          · exact h5 h
          · change (Part.retireUpTo k (p.retire n)).pool.free.length ≤ 4
            rw [retireUpTo_enough k _ (Nat.not_lt.1 h), g1, List.length_append, List.length_singleton]
            exact hl
        · intro m hmm
          have hne : m ≠ n := by
            rintro rfl
            exact hmm hm
          rw [h6 m (by rw [g2]; exact fun h => hmm (List.mem_of_mem_erase h)), ticket_retire p n m hne]
    · rename_i hmany
      exact ⟨.inl (Nat.not_lt.1 hmany), List.Sublist.refl _, List.prefix_rfl, fun n h _ => ⟨h, rfl⟩,
        fun h => absurd h hmany, fun _ _ => rfl, rfl, rfl, rfl, rfl⟩

/-- The starvation counts stay while the ice maker waits for nothing. -/
theorem retireUpTo_starvation (k : Nat) (p : Part) (h : p.iceWants = none) :
    (p.retireUpTo k).pool.starvation = p.pool.starvation := by
  induction k generalizing p with
  | zero => rfl
  | succ k ih =>
    simp only [Part.retireUpTo]
    split
    · cases p.oldestRetirable with
      | none => rfl
      | some n =>
        have hn : (p.retire n).iceWants = none := by
          rw [iceWants_congr p (p.retire n) (by simp) (retire_pool n p).2.2.2.2.1 (by simp) (by simp), h]
        rw [ih (p.retire n) hn]
        have idle (q : Part) (hq : q.iceWants = none) : q.iceAttempt.pool.starvation = q.pool.starvation := by
          rw [iceAttempt_idle q hq]
        let q : Part :=
          { Part.notify .completionsDropped { p with pool.completion := p.pool.completion.erase n } with
            pool :=
              { p.pool with
                completion := p.pool.completion.erase n
                tickets := p.pool.tickets.set n {}
                free := p.pool.free ++ [n] } }
        exact idle q ((iceWants_congr p q rfl rfl rfl rfl).trans h)
    · rfl

/-- A granted draw. -/
theorem draw_granted (p : Part) (kind : TicketKind) (o : Origin) (tag : Option Byte) (r : Request) (n : TicketNo)
    (rest : List TicketNo) (hf : p.pool.free = n :: rest) (ht : o.threshold ≤ p.pool.free.length) :
    p.draw kind o tag r =
      (some n,
        Part.autoRetire
          { p with pool.free := rest, pool.tickets := p.pool.tickets.set n (Ticket.drawn kind o tag r) }) := by
  simp only [Part.draw, hf]
  rw [hf] at ht
  rw [if_pos ht]

/-- A refused draw changes the origin's starvation count alone. -/
theorem draw_refused (p : Part) (kind : TicketKind) (o : Origin) (tag : Option Byte) (r : Request)
    (ht : p.pool.free.length < o.threshold) : p.draw kind o tag r = (none, p.starve o) := by
  unfold Part.draw
  split
  · rfl
  · rename_i n rest hf
    rw [if_neg (Nat.not_le.2 ht)]

/-- The end of a LINK ticket's work retires nothing. -/
theorem finish_link (p : Part) (n : TicketNo) (o : TicketOutcome) (h : (p.ticket n).origin = some .link) :
    p.finish n o = p.toCompletion n o := by
  have h' : p.pool.tickets[n].retirable = false := link_not_retirable _ h
  rw [Part.finish, h']
  rfl

/-- The end of any ticket's work with a free count of 4 or more retires nothing. -/
theorem finish_enough (p : Part) (n : TicketNo) (o : TicketOutcome) (h : 4 ≤ p.pool.free.length) :
    p.finish n o = p.toCompletion n o := by
  unfold Part.finish
  split
  · exact retireUpTo_enough 4 _ h
  · rfl

/-- The end of a ticket's work leaves every other record, if nothing is retired. -/
theorem ticket_toCompletion (p : Part) (n m : TicketNo) (o : TicketOutcome) :
    (p.toCompletion n o).ticket m =
      if m = n then (p.ticket n).finished p.clock.partSeconds o else p.ticket m := by
  simp only [Part.ticket, Part.toCompletion, notify_pool, Fin.getElem_fin, Vector.getElem_set, Fin.ext_iff]
  split <;> rename_i h
  · rw [if_pos h.symm]
  · rw [if_neg fun h' => h h'.symm]

end Sys2Proof.Machine
end

