-- ==== Sys2Proof/Laws/Ops.lean ====
section
/-! SUPPORT. The shared operations, block by block: what an attempt of the ice maker, a change of the defrost state, an
entry into WANTED and a change of one heater leave in the block they write. -/

namespace Sys2Proof.Machine

/-- A set notice is pending, and none that is pending is lost. -/
@[simp] theorem isPending_notify (n m : Notice) (p : Part) :
    (p.notify n).isPending m = (decide (m = n) || p.isPending m) := by
  cases n <;> cases m <;> simp [Part.isPending, Part.notify, Notice.bit, Notice.position]

/-- Setting a pending notice changes nothing. -/
theorem notify_pending (n : Notice) (p : Part) (h : p.isPending n = true) : p.notify n = p := by
  have h' : p.link.pendingSet ||| n.bit = p.link.pendingSet := by
    revert h
    generalize hx : p.link.pendingSet = x
    simp only [Part.isPending, hx]
    cases n <;> simp only [Notice.position, Notice.bit] <;> revert x <;> intro x _ hb <;>
      (apply BitVec.eq_of_getLsbD_eq; intro i hi; interval_cases i <;> simp_all)
  simp only [Part.notify, h']

/-- An attempt of the ice maker leaves the link. -/
@[simp] theorem iceAttempt_link (p : Part) : p.iceAttempt.link = p.link := by
  unfold Part.iceAttempt; split <;> rfl

/-- An attempt of the ice maker leaves every record. -/
@[simp] theorem ticket_iceAttempt (p : Part) (n : TicketNo) : p.iceAttempt.ticket n = p.ticket n := by
  rw [Part.ticket, iceAttempt_pool]; rfl

/-- An attempt at an event of R102 touches the starvation counts alone. -/
theorem harvestAttempt_pool (p : Part) :
    p.harvestAttempt.pool = { p.pool with starvation := p.harvestAttempt.pool.starvation } := by
  unfold Part.harvestAttempt; split
  · exact iceAttempt_pool p
  · rfl

/-- An attempt at an event of R102 leaves the link. -/
@[simp] theorem harvestAttempt_link (p : Part) : p.harvestAttempt.link = p.link := by
  unfold Part.harvestAttempt; split <;> simp

/-- The defrost state changes in the Defrost Controller alone. -/
@[simp] theorem setDefrostState_defrost (p : Part) (st : DefrostState) :
    (p.setDefrostState st).defrost = { p.defrost with state := st } := by
  simp [Part.setDefrostState]

/-- The ice maker is handed the new defrost state. -/
@[simp] theorem setDefrostState_ice (p : Part) (st : DefrostState) :
    (p.setDefrostState st).ice = { p.ice with defrostCopy := st } := by
  simp [Part.setDefrostState]

/-- A change of the defrost state leaves the link. -/
@[simp] theorem setDefrostState_link (p : Part) (st : DefrostState) : (p.setDefrostState st).link = p.link := by
  simp [Part.setDefrostState]

/-- A change of the defrost state touches the starvation counts alone in the pool. -/
theorem setDefrostState_pool (p : Part) (st : DefrostState) :
    (p.setDefrostState st).pool = { p.pool with starvation := (p.setDefrostState st).pool.starvation } := by
  unfold Part.setDefrostState; rw [harvestAttempt_pool]

@[simp] theorem setDefrostState_free (p : Part) (st : DefrostState) :
    (p.setDefrostState st).pool.free = p.pool.free := by rw [setDefrostState_pool]
@[simp] theorem setDefrostState_queue (p : Part) (st : DefrostState) :
    (p.setDefrostState st).pool.queue = p.pool.queue := by rw [setDefrostState_pool]
@[simp] theorem setDefrostState_completion (p : Part) (st : DefrostState) :
    (p.setDefrostState st).pool.completion = p.pool.completion := by rw [setDefrostState_pool]
@[simp] theorem setDefrostState_tickets (p : Part) (st : DefrostState) :
    (p.setDefrostState st).pool.tickets = p.pool.tickets := by rw [setDefrostState_pool]
@[simp] theorem setDefrostState_iceSlot (p : Part) (st : DefrostState) :
    (p.setDefrostState st).pool.iceSlot = p.pool.iceSlot := by rw [setDefrostState_pool]
@[simp] theorem setDefrostState_defrostSlot (p : Part) (st : DefrostState) :
    (p.setDefrostState st).pool.defrostSlot = p.pool.defrostSlot := by rw [setDefrostState_pool]
@[simp] theorem setDefrostState_serviceSlot (p : Part) (st : DefrostState) :
    (p.setDefrostState st).pool.serviceSlot = p.pool.serviceSlot := by rw [setDefrostState_pool]

/-- A change of the defrost state leaves every record. -/
@[simp] theorem ticket_setDefrostState (p : Part) (st : DefrostState) (n : TicketNo) :
    (p.setDefrostState st).ticket n = p.ticket n := by
  simp only [Part.ticket, setDefrostState_tickets]

/-- A change of the defrost state leaves the pending set. -/
@[simp] theorem isPending_setDefrostState (p : Part) (st : DefrostState) (m : Notice) :
    (p.setDefrostState st).isPending m = p.isPending m := by
  simp only [Part.isPending, setDefrostState_link]

/-- The comparison of credit and target, by its two cases. -/
theorem compareTarget_cases (p : Part) :
    p.compareTarget = p ∨
      (p.defrost.state = .accruing ∧ p.defrost.target ≤ p.defrost.credit ∧ p.compareTarget = p.enterWanted) := by
  unfold Part.compareTarget; split
  · rename_i h; exact .inr ⟨h.1, h.2, rfl⟩
  · exact .inl rfl

/-- What the comparison of credit and target never changes in the Defrost Controller and the pool. -/
theorem compareTarget_keeps (p : Part) :
    p.compareTarget.defrost.credit = p.defrost.credit ∧ p.compareTarget.defrost.target = p.defrost.target ∧
    p.compareTarget.defrost.compressorSeconds = p.defrost.compressorSeconds ∧
    p.compareTarget.defrost.doorSeconds = p.defrost.doorSeconds ∧
    p.compareTarget.defrost.compressorRunning = p.defrost.compressorRunning ∧
    p.compareTarget.defrost.cycle = p.defrost.cycle ∧ p.compareTarget.defrost.log = p.defrost.log ∧
    p.compareTarget.defrost.iceCopy = p.defrost.iceCopy ∧
    p.compareTarget.pool = { p.pool with starvation := p.compareTarget.pool.starvation } ∧
    (∀ m, p.isPending m = true → p.compareTarget.isPending m = true) := by
  rcases compareTarget_cases p with h | ⟨-, -, h⟩
  · rw [h]; exact ⟨rfl, rfl, rfl, rfl, rfl, rfl, rfl, rfl, rfl, fun _ h => h⟩
  · rw [h]
    refine ⟨?_, ?_, ?_, ?_, ?_, ?_, ?_, ?_, ?_, ?_⟩ <;> unfold Part.enterWanted
    any_goals rw [setDefrostState_defrost, notify_defrost]
    · rw [setDefrostState_pool]; rfl
    · intro m hm
      rw [isPending_setDefrostState, isPending_notify]
      exact Bool.or_eq_true_iff.2 (.inr hm)

/-- The head and the pool's slot records: a slot that holds a ticket has its record changed. -/
theorem updateSlot_some (p : Part) (n : TicketNo) (f : Ticket → Ticket) : p.updateSlot (some n) f = p.updateTicket n f := rfl

/-- An empty slot changes nothing. -/
theorem updateSlot_none (p : Part) (f : Ticket → Ticket) : p.updateSlot none f = p := rfl

/-- A changed heater is read back; every other heater is as it was. -/
theorem heaters_update (l : Loads) (n m : HeaterNo) (f : Heater → Heater) :
    (l.update n f).heaters[m] = if m = n then f l.heaters[n] else l.heaters[m] := by
  simp only [Loads.update, Fin.getElem_fin, Vector.getElem_set, Fin.ext_iff]
  split <;> rename_i h
  · rw [if_pos h.symm]
  · rw [if_neg fun h' => h h'.symm]

/-- Every heater changed is read back. -/
theorem heaters_updateAll (l : Loads) (m : HeaterNo) (f : HeaterNo → Heater → Heater) :
    (l.updateAll f).heaters[m] = f m l.heaters[m] := by
  fin_cases m <;> rfl

/-- A raised owner demand is on, and the test demand, the grant and the configuration are as they were. -/
theorem raiseOwner_spec (h : Heater) :
    h.raiseOwner.ownerDemand = true ∧ h.raiseOwner.testDemand = h.testDemand ∧ h.raiseOwner.grant = h.grant ∧
    h.raiseOwner.onSlot = h.onSlot ∧ h.raiseOwner.accepted = h.accepted ∧ h.raiseOwner.inForce = h.inForce := by
  unfold Heater.raiseOwner; split <;> exact ⟨rfl, rfl, rfl, rfl, rfl, rfl⟩

/-- A dropped owner demand is off; a grant stays only under a test demand. -/
theorem dropOwner_spec (h : Heater) :
    h.dropOwner.ownerDemand = false ∧ h.dropOwner.testDemand = h.testDemand ∧
    (h.dropOwner.grant = true → h.grant = true ∧ (h.ownerDemand = true → h.testDemand = true)) ∧
    h.dropOwner.accepted = h.accepted ∧ h.dropOwner.inForce = h.inForce := by
  unfold Heater.dropOwner Heater.release
  cases ho : h.ownerDemand <;> cases ht : h.testDemand <;> simp

/-- A raised test demand is on, and the owner demand, the grant and the configuration are as they were. -/
theorem raiseTest_spec (h : Heater) :
    h.raiseTest.testDemand = true ∧ h.raiseTest.ownerDemand = h.ownerDemand ∧ h.raiseTest.grant = h.grant ∧
    h.raiseTest.accepted = h.accepted ∧ h.raiseTest.inForce = h.inForce := by
  unfold Heater.raiseTest; split <;> exact ⟨rfl, rfl, rfl, rfl, rfl⟩

/-- A dropped test demand is off; a grant stays only under an owner demand. -/
theorem dropTest_spec (h : Heater) :
    h.dropTest.testDemand = false ∧ h.dropTest.ownerDemand = h.ownerDemand ∧
    (h.dropTest.grant = true → h.grant = true ∧ (h.testDemand = true → h.ownerDemand = true)) ∧
    h.dropTest.accepted = h.accepted ∧ h.dropTest.inForce = h.inForce := by
  unfold Heater.dropTest Heater.release
  cases ho : h.ownerDemand <;> cases ht : h.testDemand <;> simp

end Sys2Proof.Machine
end

