-- ==== Sys2Proof/Laws/PerInstr.lean ====
section
/-! SUPPORT. What the syntax of each command says about the frame it stands for, one lemma per constructor of Instr. -/

open Sys2Proof Sys2Proof.Machine

/-- A well-formed host command stands for a frame of at most 64 payload bytes, of a kind of Table 9-3, or, for the command
of unknown kind alone, of a kind outside it (R193, R196). -/
def Sys2Proof.Laws.HostFrames.Statement (i : Instr) : Prop :=
  i.wellFormed = true → ∀ (dt : Nat) (f : Frame), hostRow i = some (dt, f) →
    f.payload.length ≤ 64 ∧ (i.unknownKind = none → f.kind ∈ knownKinds) ∧
      (i.unknownKind.isSome = true → f.kind ∉ knownKinds)

/-- A row that is no host command stands for no frame. -/
theorem hostFrames_of_event (i : Instr) (h : hostRow i = none) : Sys2Proof.Laws.HostFrames.Statement i := by
  intro _ dt f hf
  rw [h] at hf
  exact absurd hf (by simp)

/-- A host command of a known kind. -/
theorem hostFrames_of_known (i : Instr) (dt : Nat) (k tag : Byte) (payload : List Byte)
    (h : hostRow i = some (dt, ⟨k, tag, payload⟩)) (hk : k ∈ knownKinds) (hu : i.unknownKind = none)
    (hp : i.wellFormed = true → payload.length ≤ 64) :
    Sys2Proof.Laws.HostFrames.Statement i := by
  intro hw dt' f' hf
  rw [h] at hf
  simp only [Option.some.injEq, Prod.mk.injEq] at hf
  obtain ⟨rfl, rfl⟩ := hf
  exact ⟨hp hw, fun _ => hk, fun hs => by rw [hu] at hs; exact absurd hs (by simp)⟩

/-- A well-formed command's payload has at most 64 bytes. -/
theorem payload_of_wellFormed (i : Instr) (h : i.wellFormed = true) : i.payload.length ≤ 64 := by
  unfold Instr.wellFormed at h
  simp only [Bool.and_eq_true, decide_eq_true_eq] at h
  exact h.1.1

theorem Sys2Proof.Laws.HostFrames.ping (dt : Nat) (tag : Byte) (payload : List Byte) :
    Sys2Proof.Laws.HostFrames.Statement (.ping dt tag payload) :=
  hostFrames_of_known _ _ _ _ _ rfl (by decide) rfl (payload_of_wellFormed _)

theorem Sys2Proof.Laws.HostFrames.status (dt : Nat) (tag : Byte) (payload : List Byte) :
    Sys2Proof.Laws.HostFrames.Statement (.status dt tag payload) :=
  hostFrames_of_known _ _ _ _ _ rfl (by decide) rfl (payload_of_wellFormed _)

theorem Sys2Proof.Laws.HostFrames.readNotices (dt : Nat) (tag : Byte) (payload : List Byte) :
    Sys2Proof.Laws.HostFrames.Statement (.readNotices dt tag payload) :=
  hostFrames_of_known _ _ _ _ _ rfl (by decide) rfl (payload_of_wellFormed _)

theorem Sys2Proof.Laws.HostFrames.setNoticeMask (dt : Nat) (tag : Byte) (payload : List Byte) :
    Sys2Proof.Laws.HostFrames.Statement (.setNoticeMask dt tag payload) :=
  hostFrames_of_known _ _ _ _ _ rfl (by decide) rfl (payload_of_wellFormed _)

theorem Sys2Proof.Laws.HostFrames.restart (dt : Nat) (tag : Byte) (payload : List Byte) :
    Sys2Proof.Laws.HostFrames.Statement (.restart dt tag payload) :=
  hostFrames_of_known _ _ _ _ _ rfl (by decide) rfl (payload_of_wellFormed _)

theorem Sys2Proof.Laws.HostFrames.setParam (dt : Nat) (tag : Byte) (payload : List Byte) :
    Sys2Proof.Laws.HostFrames.Statement (.setParam dt tag payload) :=
  hostFrames_of_known _ _ _ _ _ rfl (by decide) rfl (payload_of_wellFormed _)

theorem Sys2Proof.Laws.HostFrames.getParam (dt : Nat) (tag : Byte) (payload : List Byte) :
    Sys2Proof.Laws.HostFrames.Statement (.getParam dt tag payload) :=
  hostFrames_of_known _ _ _ _ _ rfl (by decide) rfl (payload_of_wellFormed _)

theorem Sys2Proof.Laws.HostFrames.loadCurve (dt : Nat) (tag : Byte) (payload : List Byte) :
    Sys2Proof.Laws.HostFrames.Statement (.loadCurve dt tag payload) :=
  hostFrames_of_known _ _ _ _ _ rfl (by decide) rfl (payload_of_wellFormed _)

theorem Sys2Proof.Laws.HostFrames.getCurve (dt : Nat) (tag : Byte) (payload : List Byte) :
    Sys2Proof.Laws.HostFrames.Statement (.getCurve dt tag payload) :=
  hostFrames_of_known _ _ _ _ _ rfl (by decide) rfl (payload_of_wellFormed _)

theorem Sys2Proof.Laws.HostFrames.setLoad (dt : Nat) (tag : Byte) (payload : List Byte) :
    Sys2Proof.Laws.HostFrames.Statement (.setLoad dt tag payload) :=
  hostFrames_of_known _ _ _ _ _ rfl (by decide) rfl (payload_of_wellFormed _)

theorem Sys2Proof.Laws.HostFrames.getLoads (dt : Nat) (tag : Byte) (payload : List Byte) :
    Sys2Proof.Laws.HostFrames.Statement (.getLoads dt tag payload) :=
  hostFrames_of_known _ _ _ _ _ rfl (by decide) rfl (payload_of_wellFormed _)

theorem Sys2Proof.Laws.HostFrames.setRotation (dt : Nat) (tag : Byte) (payload : List Byte) :
    Sys2Proof.Laws.HostFrames.Statement (.setRotation dt tag payload) :=
  hostFrames_of_known _ _ _ _ _ rfl (by decide) rfl (payload_of_wellFormed _)

theorem Sys2Proof.Laws.HostFrames.lockLimits (dt : Nat) (tag : Byte) (payload : List Byte) :
    Sys2Proof.Laws.HostFrames.Statement (.lockLimits dt tag payload) :=
  hostFrames_of_known _ _ _ _ _ rfl (by decide) rfl (payload_of_wellFormed _)

theorem Sys2Proof.Laws.HostFrames.submit (dt : Nat) (tag : Byte) (payload : List Byte) :
    Sys2Proof.Laws.HostFrames.Statement (.submit dt tag payload) :=
  hostFrames_of_known _ _ _ _ _ rfl (by decide) rfl (payload_of_wellFormed _)

theorem Sys2Proof.Laws.HostFrames.cancel (dt : Nat) (tag : Byte) (payload : List Byte) :
    Sys2Proof.Laws.HostFrames.Statement (.cancel dt tag payload) :=
  hostFrames_of_known _ _ _ _ _ rfl (by decide) rfl (payload_of_wellFormed _)

theorem Sys2Proof.Laws.HostFrames.fetch (dt : Nat) (tag : Byte) (payload : List Byte) :
    Sys2Proof.Laws.HostFrames.Statement (.fetch dt tag payload) :=
  hostFrames_of_known _ _ _ _ _ rfl (by decide) rfl (payload_of_wellFormed _)

theorem Sys2Proof.Laws.HostFrames.ticketInfo (dt : Nat) (tag : Byte) (payload : List Byte) :
    Sys2Proof.Laws.HostFrames.Statement (.ticketInfo dt tag payload) :=
  hostFrames_of_known _ _ _ _ _ rfl (by decide) rfl (payload_of_wellFormed _)

theorem Sys2Proof.Laws.HostFrames.poolStatus (dt : Nat) (tag : Byte) (payload : List Byte) :
    Sys2Proof.Laws.HostFrames.Statement (.poolStatus dt tag payload) :=
  hostFrames_of_known _ _ _ _ _ rfl (by decide) rfl (payload_of_wellFormed _)

theorem Sys2Proof.Laws.HostFrames.readSensors (dt : Nat) (tag : Byte) (payload : List Byte) :
    Sys2Proof.Laws.HostFrames.Statement (.readSensors dt tag payload) :=
  hostFrames_of_known _ _ _ _ _ rfl (by decide) rfl (payload_of_wellFormed _)

theorem Sys2Proof.Laws.HostFrames.readSensorsFreshReply (dt : Nat) :
    Sys2Proof.Laws.HostFrames.Statement (.readSensorsFreshReply dt) :=
  hostFrames_of_event _ rfl

theorem Sys2Proof.Laws.HostFrames.clearLeak (dt : Nat) (tag : Byte) (payload : List Byte) :
    Sys2Proof.Laws.HostFrames.Statement (.clearLeak dt tag payload) :=
  hostFrames_of_known _ _ _ _ _ rfl (by decide) rfl (payload_of_wellFormed _)

theorem Sys2Proof.Laws.HostFrames.filterReset (dt : Nat) (tag : Byte) (payload : List Byte) :
    Sys2Proof.Laws.HostFrames.Statement (.filterReset dt tag payload) :=
  hostFrames_of_known _ _ _ _ _ rfl (by decide) rfl (payload_of_wellFormed _)

theorem Sys2Proof.Laws.HostFrames.getTotals (dt : Nat) (tag : Byte) (payload : List Byte) :
    Sys2Proof.Laws.HostFrames.Statement (.getTotals dt tag payload) :=
  hostFrames_of_known _ _ _ _ _ rfl (by decide) rfl (payload_of_wellFormed _)

theorem Sys2Proof.Laws.HostFrames.restoreTotals (dt : Nat) (tag : Byte) (payload : List Byte) :
    Sys2Proof.Laws.HostFrames.Statement (.restoreTotals dt tag payload) :=
  hostFrames_of_known _ _ _ _ _ rfl (by decide) rfl (payload_of_wellFormed _)

theorem Sys2Proof.Laws.HostFrames.iceControlPark (dt : Nat) (tag : Byte) :
    Sys2Proof.Laws.HostFrames.Statement (.iceControlPark dt tag) :=
  hostFrames_of_known _ _ _ _ _ rfl (by decide) rfl fun _ => by simp

theorem Sys2Proof.Laws.HostFrames.iceControlRun (dt : Nat) (tag : Byte) :
    Sys2Proof.Laws.HostFrames.Statement (.iceControlRun dt tag) :=
  hostFrames_of_known _ _ _ _ _ rfl (by decide) rfl fun _ => by simp

theorem Sys2Proof.Laws.HostFrames.iceControlResume (dt : Nat) (tag : Byte) :
    Sys2Proof.Laws.HostFrames.Statement (.iceControlResume dt tag) :=
  hostFrames_of_known _ _ _ _ _ rfl (by decide) rfl fun _ => by simp

theorem Sys2Proof.Laws.HostFrames.iceControlHarvestNow (dt : Nat) (tag : Byte) :
    Sys2Proof.Laws.HostFrames.Statement (.iceControlHarvestNow dt tag) :=
  hostFrames_of_known _ _ _ _ _ rfl (by decide) rfl fun _ => by simp

theorem Sys2Proof.Laws.HostFrames.compressor (dt : Nat) (tag : Byte) (payload : List Byte) :
    Sys2Proof.Laws.HostFrames.Statement (.compressor dt tag payload) :=
  hostFrames_of_known _ _ _ _ _ rfl (by decide) rfl (payload_of_wellFormed _)

theorem Sys2Proof.Laws.HostFrames.defrostReplyGo (dt : Nat) (tag minutes : Byte) :
    Sys2Proof.Laws.HostFrames.Statement (.defrostReplyGo dt tag minutes) :=
  hostFrames_of_known _ _ _ _ _ rfl (by decide) rfl fun _ => by simp

theorem Sys2Proof.Laws.HostFrames.defrostReplyDefer (dt : Nat) (tag minutes : Byte) :
    Sys2Proof.Laws.HostFrames.Statement (.defrostReplyDefer dt tag minutes) :=
  hostFrames_of_known _ _ _ _ _ rfl (by decide) rfl fun _ => by simp

theorem Sys2Proof.Laws.HostFrames.defrostForce (dt : Nat) (tag : Byte) (payload : List Byte) :
    Sys2Proof.Laws.HostFrames.Statement (.defrostForce dt tag payload) :=
  hostFrames_of_known _ _ _ _ _ rfl (by decide) rfl (payload_of_wellFormed _)

theorem Sys2Proof.Laws.HostFrames.defrostAbort (dt : Nat) (tag : Byte) (payload : List Byte) :
    Sys2Proof.Laws.HostFrames.Statement (.defrostAbort dt tag payload) :=
  hostFrames_of_known _ _ _ _ _ rfl (by decide) rfl (payload_of_wellFormed _)

theorem Sys2Proof.Laws.HostFrames.defrostLog (dt : Nat) (tag : Byte) (payload : List Byte) :
    Sys2Proof.Laws.HostFrames.Statement (.defrostLog dt tag payload) :=
  hostFrames_of_known _ _ _ _ _ rfl (by decide) rfl (payload_of_wellFormed _)

theorem Sys2Proof.Laws.HostFrames.unknownKindCommand (dt : Nat) (kind tag : Byte) (payload : List Byte) :
    Sys2Proof.Laws.HostFrames.Statement (.unknownKindCommand dt kind tag payload) := by
  intro hw dt' f hf
  simp only [hostRow, Option.some.injEq, Prod.mk.injEq] at hf
  obtain ⟨-, rfl⟩ := hf
  refine ⟨payload_of_wellFormed _ hw, fun h => absurd h (by simp [Instr.unknownKind]), fun _ hk => ?_⟩
  unfold Instr.wellFormed at hw
  simp only [Bool.and_eq_true, Instr.unknownKind, Option.all_some, Bool.not_eq_true', List.contains_eq_mem,
    decide_eq_false_iff_not] at hw
  exact hw.1.2 hk

theorem Sys2Proof.Laws.HostFrames.frameReceived (dt : Nat) (bytes : List Byte) :
    Sys2Proof.Laws.HostFrames.Statement (.frameReceived dt bytes) :=
  hostFrames_of_event _ rfl

theorem Sys2Proof.Laws.HostFrames.gapTimeout (dt : Nat) :
    Sys2Proof.Laws.HostFrames.Statement (.gapTimeout dt) :=
  hostFrames_of_event _ rfl

theorem Sys2Proof.Laws.HostFrames.replySent (dt : Nat) :
    Sys2Proof.Laws.HostFrames.Statement (.replySent dt) :=
  hostFrames_of_event _ rfl

theorem Sys2Proof.Laws.HostFrames.silenceExpiry (dt : Nat) :
    Sys2Proof.Laws.HostFrames.Statement (.silenceExpiry dt) :=
  hostFrames_of_event _ rfl

theorem Sys2Proof.Laws.HostFrames.powerOn (dt : Nat) :
    Sys2Proof.Laws.HostFrames.Statement (.powerOn dt) :=
  hostFrames_of_event _ rfl

theorem Sys2Proof.Laws.HostFrames.lineReset (dt : Nat) :
    Sys2Proof.Laws.HostFrames.Statement (.lineReset dt) :=
  hostFrames_of_event _ rfl

theorem Sys2Proof.Laws.HostFrames.resetEnd (dt : Nat) :
    Sys2Proof.Laws.HostFrames.Statement (.resetEnd dt) :=
  hostFrames_of_event _ rfl

theorem Sys2Proof.Laws.HostFrames.partSecondsAdvance (dt : Nat) :
    Sys2Proof.Laws.HostFrames.Statement (.partSecondsAdvance dt) :=
  hostFrames_of_event _ rfl

theorem Sys2Proof.Laws.HostFrames.conversionEnd (dt : Nat) (raw : BitVec 16) :
    Sys2Proof.Laws.HostFrames.Statement (.conversionEnd dt raw) :=
  hostFrames_of_event _ rfl

theorem Sys2Proof.Laws.HostFrames.switchFirstReading (dt : Nat) (reading : FirstReading) :
    Sys2Proof.Laws.HostFrames.Statement (.switchFirstReading dt reading) :=
  hostFrames_of_event _ rfl

theorem Sys2Proof.Laws.HostFrames.paddlePress (dt : Nat) (pad : Paddle) :
    Sys2Proof.Laws.HostFrames.Statement (.paddlePress dt pad) :=
  hostFrames_of_event _ rfl

theorem Sys2Proof.Laws.HostFrames.paddleRelease (dt : Nat) (pad : Paddle) :
    Sys2Proof.Laws.HostFrames.Statement (.paddleRelease dt pad) :=
  hostFrames_of_event _ rfl

theorem Sys2Proof.Laws.HostFrames.doorOpening (dt : Nat) :
    Sys2Proof.Laws.HostFrames.Statement (.doorOpening dt) :=
  hostFrames_of_event _ rfl

theorem Sys2Proof.Laws.HostFrames.doorClosing (dt : Nat) :
    Sys2Proof.Laws.HostFrames.Statement (.doorClosing dt) :=
  hostFrames_of_event _ rfl

theorem Sys2Proof.Laws.HostFrames.homeSwitchChange (dt : Nat) (c : Contact) :
    Sys2Proof.Laws.HostFrames.Statement (.homeSwitchChange dt c) :=
  hostFrames_of_event _ rfl

theorem Sys2Proof.Laws.HostFrames.flapSwitchChange (dt : Nat) (c : Contact) :
    Sys2Proof.Laws.HostFrames.Statement (.flapSwitchChange dt c) :=
  hostFrames_of_event _ rfl

theorem Sys2Proof.Laws.HostFrames.beamFilterChange (dt : Nat) (level : BeamLevel) :
    Sys2Proof.Laws.HostFrames.Statement (.beamFilterChange dt level) :=
  hostFrames_of_event _ rfl

theorem Sys2Proof.Laws.HostFrames.flowPulse (dt : Nat) :
    Sys2Proof.Laws.HostFrames.Statement (.flowPulse dt) :=
  hostFrames_of_event _ rfl

theorem Sys2Proof.Laws.HostFrames.flowPeriodTimeout (dt : Nat) :
    Sys2Proof.Laws.HostFrames.Statement (.flowPeriodTimeout dt) :=
  hostFrames_of_event _ rfl

theorem Sys2Proof.Laws.HostFrames.tachPulse (dt : Nat) :
    Sys2Proof.Laws.HostFrames.Statement (.tachPulse dt) :=
  hostFrames_of_event _ rfl

theorem Sys2Proof.Laws.HostFrames.internalRedraw (dt : Nat) :
    Sys2Proof.Laws.HostFrames.Statement (.internalRedraw dt) :=
  hostFrames_of_event _ rfl

theorem Sys2Proof.Laws.HostFrames.lineGrant (dt : Nat) :
    Sys2Proof.Laws.HostFrames.Statement (.lineGrant dt) :=
  hostFrames_of_event _ rfl

theorem Sys2Proof.Laws.HostFrames.fillResume (dt : Nat) :
    Sys2Proof.Laws.HostFrames.Statement (.fillResume dt) :=
  hostFrames_of_event _ rfl

theorem Sys2Proof.Laws.HostFrames.lineSettleEnd (dt : Nat) :
    Sys2Proof.Laws.HostFrames.Statement (.lineSettleEnd dt) :=
  hostFrames_of_event _ rfl

theorem Sys2Proof.Laws.HostFrames.openTimeLimit (dt : Nat) :
    Sys2Proof.Laws.HostFrames.Statement (.openTimeLimit dt) :=
  hostFrames_of_event _ rfl

theorem Sys2Proof.Laws.HostFrames.noFlowExpiry (dt : Nat) :
    Sys2Proof.Laws.HostFrames.Statement (.noFlowExpiry dt) :=
  hostFrames_of_event _ rfl

theorem Sys2Proof.Laws.HostFrames.dryRetryEnd (dt : Nat) :
    Sys2Proof.Laws.HostFrames.Statement (.dryRetryEnd dt) :=
  hostFrames_of_event _ rfl

theorem Sys2Proof.Laws.HostFrames.homingDeadline (dt : Nat) :
    Sys2Proof.Laws.HostFrames.Statement (.homingDeadline dt) :=
  hostFrames_of_event _ rfl

theorem Sys2Proof.Laws.HostFrames.minFreezeReached (dt : Nat) :
    Sys2Proof.Laws.HostFrames.Statement (.minFreezeReached dt) :=
  hostFrames_of_event _ rfl

theorem Sys2Proof.Laws.HostFrames.faultFreezeTime (dt : Nat) :
    Sys2Proof.Laws.HostFrames.Statement (.faultFreezeTime dt) :=
  hostFrames_of_event _ rfl

theorem Sys2Proof.Laws.HostFrames.harvestStart (dt : Nat) :
    Sys2Proof.Laws.HostFrames.Statement (.harvestStart dt) :=
  hostFrames_of_event _ rfl

theorem Sys2Proof.Laws.HostFrames.moldHeatLimitExpiry (dt : Nat) :
    Sys2Proof.Laws.HostFrames.Statement (.moldHeatLimitExpiry dt) :=
  hostFrames_of_event _ rfl

theorem Sys2Proof.Laws.HostFrames.leaveHomeDeadline (dt : Nat) :
    Sys2Proof.Laws.HostFrames.Statement (.leaveHomeDeadline dt) :=
  hostFrames_of_event _ rfl

theorem Sys2Proof.Laws.HostFrames.ejectReturnDeadline (dt : Nat) :
    Sys2Proof.Laws.HostFrames.Statement (.ejectReturnDeadline dt) :=
  hostFrames_of_event _ rfl

theorem Sys2Proof.Laws.HostFrames.ejectRetryTimer (dt : Nat) :
    Sys2Proof.Laws.HostFrames.Statement (.ejectRetryTimer dt) :=
  hostFrames_of_event _ rfl

theorem Sys2Proof.Laws.HostFrames.iceSettleEnd (dt : Nat) :
    Sys2Proof.Laws.HostFrames.Statement (.iceSettleEnd dt) :=
  hostFrames_of_event _ rfl

theorem Sys2Proof.Laws.HostFrames.headStart (dt : Nat) :
    Sys2Proof.Laws.HostFrames.Statement (.headStart dt) :=
  hostFrames_of_event _ rfl

theorem Sys2Proof.Laws.HostFrames.flapOpenDeadline (dt : Nat) :
    Sys2Proof.Laws.HostFrames.Statement (.flapOpenDeadline dt) :=
  hostFrames_of_event _ rfl

theorem Sys2Proof.Laws.HostFrames.flapCloseEnd (dt : Nat) :
    Sys2Proof.Laws.HostFrames.Statement (.flapCloseEnd dt) :=
  hostFrames_of_event _ rfl

theorem Sys2Proof.Laws.HostFrames.runTargetReached (dt : Nat) :
    Sys2Proof.Laws.HostFrames.Statement (.runTargetReached dt) :=
  hostFrames_of_event _ rfl

theorem Sys2Proof.Laws.HostFrames.runningTimeLimit (dt : Nat) :
    Sys2Proof.Laws.HostFrames.Statement (.runningTimeLimit dt) :=
  hostFrames_of_event _ rfl

theorem Sys2Proof.Laws.HostFrames.jamWindowExpiry (dt : Nat) :
    Sys2Proof.Laws.HostFrames.Statement (.jamWindowExpiry dt) :=
  hostFrames_of_event _ rfl

theorem Sys2Proof.Laws.HostFrames.reverseEnd (dt : Nat) :
    Sys2Proof.Laws.HostFrames.Statement (.reverseEnd dt) :=
  hostFrames_of_event _ rfl

theorem Sys2Proof.Laws.HostFrames.flapHoldEnd (dt : Nat) :
    Sys2Proof.Laws.HostFrames.Statement (.flapHoldEnd dt) :=
  hostFrames_of_event _ rfl

theorem Sys2Proof.Laws.HostFrames.pauseTimerEnd (dt : Nat) :
    Sys2Proof.Laws.HostFrames.Statement (.pauseTimerEnd dt) :=
  hostFrames_of_event _ rfl

theorem Sys2Proof.Laws.HostFrames.chuteTestHoldEnd (dt : Nat) :
    Sys2Proof.Laws.HostFrames.Statement (.chuteTestHoldEnd dt) :=
  hostFrames_of_event _ rfl

theorem Sys2Proof.Laws.HostFrames.ductTimerEnd (dt : Nat) :
    Sys2Proof.Laws.HostFrames.Statement (.ductTimerEnd dt) :=
  hostFrames_of_event _ rfl

theorem Sys2Proof.Laws.HostFrames.deferTimerEnd (dt : Nat) :
    Sys2Proof.Laws.HostFrames.Statement (.deferTimerEnd dt) :=
  hostFrames_of_event _ rfl

theorem Sys2Proof.Laws.HostFrames.wantLimitReached (dt : Nat) :
    Sys2Proof.Laws.HostFrames.Statement (.wantLimitReached dt) :=
  hostFrames_of_event _ rfl

theorem Sys2Proof.Laws.HostFrames.silentWantLimit (dt : Nat) :
    Sys2Proof.Laws.HostFrames.Statement (.silentWantLimit dt) :=
  hostFrames_of_event _ rfl

theorem Sys2Proof.Laws.HostFrames.defrostHeatingStart (dt : Nat) :
    Sys2Proof.Laws.HostFrames.Statement (.defrostHeatingStart dt) :=
  hostFrames_of_event _ rfl

theorem Sys2Proof.Laws.HostFrames.defrostHeatLimitExpiry (dt : Nat) :
    Sys2Proof.Laws.HostFrames.Statement (.defrostHeatLimitExpiry dt) :=
  hostFrames_of_event _ rfl

theorem Sys2Proof.Laws.HostFrames.dwellEnd (dt : Nat) :
    Sys2Proof.Laws.HostFrames.Statement (.dwellEnd dt) :=
  hostFrames_of_event _ rfl

theorem Sys2Proof.Laws.HostFrames.recoverLimitExpiry (dt : Nat) :
    Sys2Proof.Laws.HostFrames.Statement (.recoverLimitExpiry dt) :=
  hostFrames_of_event _ rfl
end

