-- ==== Sys2Proof/Laws/Pins.lean ====
section
/-! SUPPORT. The input pins: what a told level leaves, when it has been held for its time, when a change is due, and what a row
of an input does with a level that has not been held, and with a change that the level before had earned (R41 to R43). -/

namespace Sys2Proof.Machine

/-! One pin. -/

/-- A row that tells a level leaves the pin as `Pin.told` says. -/
theorem tell_eq_told {α : Type} [DecidableEq α] (now : Nat) (v : α) (pin : Pin α) :
    pin.tell now v = pin.told now v := by
  obtain ⟨level, since⟩ := pin
  cases level with
  | none => rfl
  | some w =>
    by_cases h : w = v
    · subst h; simp [Pin.tell, Pin.told]
    · simp [Pin.tell, Pin.told, h]

/-- A level just told has been held for a time exactly if it had stood for that time before. -/
theorem held_tell {α : Type} [DecidableEq α] (now time : Nat) (v : α) (pin : Pin α) (h : 0 < time) :
    (pin.tell now v).held now time v = true ↔ pin.stood now time v := by
  rw [tell_eq_told]
  by_cases hl : pin.level = none ∨ pin.level = some v
  · simp [Pin.told, Pin.held, Pin.stood, hl]
  · simp [Pin.told, Pin.held, Pin.stood, hl]; omega

/-- A level that has stood is told without a new start of its time. -/
theorem told_of_stood {α : Type} [DecidableEq α] (now time : Nat) (v : α) (pin : Pin α) (h : pin.stood now time v) :
    pin.told now v = { pin with level := some v } := by
  simp [Pin.told, h.1]

/-- A level that the pin has already is told without any change. -/
theorem tell_same {α : Type} [DecidableEq α] (now : Nat) (v : α) (pin : Pin α) (h : pin.level = some v) :
    pin.tell now v = pin := by
  simp [Pin.tell, h]

/-- Another level than the pin has starts its time. -/
theorem tell_other {α : Type} [DecidableEq α] (now : Nat) (v w : α) (pin : Pin α) (h : pin.level = some w) (hne : w ≠ v) :
    pin.tell now v = { level := some v, since := now } := by
  simp [Pin.tell, h, hne]

/-- No change is due exactly on a quiet pin. -/
theorem due_eq_none {α : Type} [DecidableEq α] (now time : Nat) (state : Option α) (pin : Pin α) :
    pin.due now time state = none ↔ pin.quiet now time state := by
  obtain ⟨level, since⟩ := pin
  cases level with
  | none => simp [Pin.due, Pin.quiet]
  | some v =>
    simp only [Pin.due, Pin.quiet, Pin.held, Option.filter_eq_none_iff, Option.mem_def, Option.some.injEq]
    constructor
    · intro h w hw hs; have := h w hw; subst hw; simp_all
    · intro h w hw; have := h w hw; subst hw; simp; intro hl; by_contra hs; have := this hs; omega

/-- A change is due exactly if its level has earned it. -/
theorem due_eq_some {α : Type} [DecidableEq α] (now time : Nat) (state : Option α) (pin : Pin α) (v : α) :
    pin.due now time state = some v ↔ pin.earned now time state v := by
  obtain ⟨level, since⟩ := pin
  cases level with
  | none => simp [Pin.due, Pin.earned]
  | some w =>
    simp only [Pin.due, Pin.earned, Pin.held, Option.filter_eq_some_iff, Option.some.injEq]
    constructor
    · rintro ⟨rfl, h⟩; simp_all
    · rintro ⟨rfl, h, h'⟩; simp_all

/-! A change that is taken: the clock stays, and of the Sense Unit the one state is written. -/

theorem doorBecomes_frame (d : Door) (p : Part) :
    (p.doorBecomes d).clock = p.clock ∧ (p.doorBecomes d).resetting = p.resetting ∧
      (p.doorBecomes d).sense = { p.sense with door := some d } := by
  unfold Part.doorBecomes; (repeat' split) <;> simp

theorem paddleBecomes_frame (pad : Paddle) (st : PaddleState) (p : Part) :
    (p.paddleBecomes pad st).clock = p.clock ∧ (p.paddleBecomes pad st).resetting = p.resetting ∧
      (p.paddleBecomes pad st).sense = p.sense.setPaddle st pad := by
  unfold Part.paddleBecomes; (repeat' split) <;> simp

theorem homeBecomes_frame (c : Contact) (p : Part) :
    (p.homeBecomes c).clock = p.clock ∧ (p.homeBecomes c).resetting = p.resetting ∧
      (p.homeBecomes c).sense = { p.sense with home := some c } := by
  unfold Part.homeBecomes; (repeat' split) <;> simp

theorem flapBecomes_frame (c : Contact) (p : Part) :
    (p.flapBecomes c).clock = p.clock ∧ (p.flapBecomes c).resetting = p.resetting ∧
      (p.flapBecomes c).sense = { p.sense with flap := some c } := by
  unfold Part.flapBecomes; (repeat' split) <;> simp

theorem beamBecomes_frame (l : BeamLevel) (p : Part) :
    (p.beamBecomes l).clock = p.clock ∧ (p.beamBecomes l).resetting = p.resetting ∧
      (p.beamBecomes l).sense = { p.sense with beam := filteredBy l } := by
  unfold Part.beamBecomes; simp

/-! A level told: on a quiet pin only the pin changes. -/

theorem doorTold_quiet (d : Door) (p : Part) (h : p.sense.doorPin.quiet p.clock.now doorTime p.sense.door) :
    p.doorTold d = p.tellDoor d := by
  simp [Part.doorTold, (due_eq_none _ _ _ _).2 h, takeDue]

theorem paddleTold_quiet (pad : Paddle) (st : PaddleState) (p : Part)
    (h : (p.sense.paddlePin pad).quiet p.clock.now paddleTime (p.sense.paddle pad)) :
    p.paddleTold pad st = p.tellPaddle pad st := by
  simp [Part.paddleTold, (due_eq_none _ _ _ _).2 h, takeDue]

theorem homeTold_quiet (c : Contact) (p : Part) (h : p.sense.homePin.quiet p.clock.now switchTime p.sense.home) :
    p.homeTold c = p.tellHome c := by
  simp [Part.homeTold, (due_eq_none _ _ _ _).2 h, takeDue]

theorem flapTold_quiet (c : Contact) (p : Part) (h : p.sense.flapPin.quiet p.clock.now switchTime p.sense.flap) :
    p.flapTold c = p.tellFlap c := by
  simp [Part.flapTold, (due_eq_none _ _ _ _).2 h, takeDue]

/-! A level told: a change that the level before it had earned is taken first. -/

theorem doorTold_earned (d e : Door) (p : Part) (h : p.sense.doorPin.earned p.clock.now doorTime p.sense.door d) :
    p.doorTold e = (p.doorBecomes d).tellDoor e := by
  simp [Part.doorTold, (due_eq_some _ _ _ _ _).2 h, takeDue]

theorem paddleTold_earned (pad : Paddle) (st su : PaddleState) (p : Part)
    (h : (p.sense.paddlePin pad).earned p.clock.now paddleTime (p.sense.paddle pad) st) :
    p.paddleTold pad su = (p.paddleBecomes pad st).tellPaddle pad su := by
  simp [Part.paddleTold, (due_eq_some _ _ _ _ _).2 h, takeDue]

theorem homeTold_earned (c e : Contact) (p : Part) (h : p.sense.homePin.earned p.clock.now switchTime p.sense.home c) :
    p.homeTold e = (p.homeBecomes c).tellHome e := by
  simp [Part.homeTold, (due_eq_some _ _ _ _ _).2 h, takeDue]

theorem flapTold_earned (c e : Contact) (p : Part) (h : p.sense.flapPin.earned p.clock.now switchTime p.sense.flap c) :
    p.flapTold e = (p.flapBecomes c).tellFlap e := by
  simp [Part.flapTold, (due_eq_some _ _ _ _ _).2 h, takeDue]

/-! A row whose level has not stood for its time, on a quiet pin, only tells the level. -/

theorem doorOpening_short (p : Part) (q : p.sense.doorPin.quiet p.clock.now doorTime p.sense.door)
    (h : ¬p.sense.doorPin.stood p.clock.now doorTime .opened) : p.doorOpening = p.tellDoor .opened := by
  rw [← held_tell _ _ _ _ (by decide)] at h
  simp [Part.doorOpening, doorTold_quiet _ _ q, Part.doorHeld, h]

theorem doorClosing_short (p : Part) (q : p.sense.doorPin.quiet p.clock.now doorTime p.sense.door)
    (h : ¬p.sense.doorPin.stood p.clock.now doorTime .closed) : p.doorClosing = p.tellDoor .closed := by
  rw [← held_tell _ _ _ _ (by decide)] at h
  simp [Part.doorClosing, doorTold_quiet _ _ q, Part.doorHeld, h]

theorem homeSwitch_short (c : Contact) (p : Part) (q : p.sense.homePin.quiet p.clock.now switchTime p.sense.home)
    (h : ¬p.sense.homePin.stood p.clock.now switchTime c) : p.homeSwitch c = p.tellHome c := by
  rw [← held_tell _ _ _ _ (by decide)] at h
  simp [Part.homeSwitch, homeTold_quiet _ _ q, Part.homeHeld, h]

theorem flapSwitch_short (c : Contact) (p : Part) (q : p.sense.flapPin.quiet p.clock.now switchTime p.sense.flap)
    (h : ¬p.sense.flapPin.stood p.clock.now switchTime c) : p.flapSwitch c = p.tellFlap c := by
  rw [← held_tell _ _ _ _ (by decide)] at h
  simp [Part.flapSwitch, flapTold_quiet _ _ q, Part.flapHeld, h]

theorem beamAt_short (l : BeamLevel) (p : Part) (q : p.beamDue = none)
    (h : ¬p.sense.beamPin.stood p.clock.now (beamTime l) l) : p.beamAt l = p.tellBeam l := by
  rw [← held_tell _ _ _ _ (by cases l <;> decide)] at h
  simp [Part.beamAt, Part.beamTold, q, takeDue, Part.beamHeld, h]

/-- The pin of a paddle, its level told. -/
theorem paddlePin_tellPaddle (now : Nat) (pad : Paddle) (st : PaddleState) (s : Sense) :
    (s.tellPaddle now st pad).paddlePin pad = (s.paddlePin pad).tell now st := by
  cases pad <;> rfl

theorem press_short (pad : Paddle) (p : Part)
    (q : (p.sense.paddlePin pad).quiet p.clock.now paddleTime (p.sense.paddle pad))
    (h : ¬(p.sense.paddlePin pad).stood p.clock.now paddleTime .pressed) : p.press pad = p.tellPaddle pad .pressed := by
  rw [← held_tell _ _ _ _ (by decide)] at h
  simp [Part.press, paddleTold_quiet _ _ _ q, Part.paddleHeld, paddlePin_tellPaddle, h]

theorem unpress_short (pad : Paddle) (p : Part)
    (q : (p.sense.paddlePin pad).quiet p.clock.now paddleTime (p.sense.paddle pad))
    (h : ¬(p.sense.paddlePin pad).stood p.clock.now paddleTime .released) :
    p.unpress pad = p.tellPaddle pad .released := by
  rw [← held_tell _ _ _ _ (by decide)] at h
  simp [Part.unpress, paddleTold_quiet _ _ _ q, Part.paddleHeld, paddlePin_tellPaddle, h]

end Sys2Proof.Machine
end

