-- ==== Sys2Proof/Tests/Slice0.lean ====
section
/-! SUPPORT. Tests of the model: what the well-formedness check refuses, single commands on small states, and for every
statement with hypotheses states that meet them, clause by clause, at the values where its clauses meet. -/

namespace Sys2Proof.Machine.Tests

/-! The states of the tests. -/

/-- The state after reset with its part changed. -/
def state (f : Part → Part) : State := { State.reset with part := f State.reset.part }

/-- The part after a command; every command answers a next state. -/
def after (i : Instr) (s : State) : Part :=
  match exec i s with
  | .next t => t.part
  | _ => s.part

/-- The command answers a next state that changes the part alone. -/
def runs (i : Instr) (s : State) : Bool :=
  match exec i s with
  | .next t => t == { s with part := t.part }
  | _ => false

theorem exec_of_runs (i : Instr) (s : State) (h : runs i s = true) :
    exec i s = .next { s with part := after i s } := by
  unfold runs at h
  unfold after
  split at h
  · rename_i t e
    simp only [e]
    exact congrArg _ (eq_of_beq h)
  · cases h

/-- The part with a ticket's record written. -/
def hold (n : TicketNo) (t : Ticket) (p : Part) : Part := p.updateTicket n fun _ => t

/-- A QUEUED ticket of a kind and origin. -/
def queued (k : TicketKind) (o : Origin) (r : Request := {}) : Ticket :=
  { state := .queued, kind := some k, origin := some o, tag := some 7, request := r }

/-- An ACTIVE ticket of a kind and origin. -/
def active (k : TicketKind) (o : Origin) (r : Request := {}) : Ticket :=
  { queued k o r with state := .active, progress := { startTime := some 0 } }

/-- The part after its first readings: every switch at rest, the flap CLOSED, the door CLOSED, the arm at home. -/
def rested (p : Part) : Part :=
  { p with
    sense.door := some .closed
    sense.waterPaddle := some .released
    sense.icePaddle := some .released
    sense.home := some .made
    sense.flap := some .released
    outlet.flap := .closed
    ice.state := .freezing
    ice.moldLoaded := true
    ice.freezeStart := some 0
    ice.homingDeadline := none
    defrost.iceCopy := .freezing }

/-- A head of the dispenser queue, alone in it, with the ticket out of the free list. -/
def withHead (t : Ticket) (p : Part) : Part :=
  hold 0 t { p with pool.queue := [0], pool.free := p.pool.free.tail }

/-- The line open for a user, with a work record. -/
def withLine (u : LineUser) (w : Work) (p : Part) : Part := { p with line := { p.line.openFor u with work := some w } }

/-- A work record of ticket 0 from the moment 0. -/
def work (pulses : Nat) (target : Option Nat) : Work :=
  { ticket := 0, pulses := pulses, target := target, openTime := { counted := 0, since := some 0 }, noFlowFrom := 0 }

/-- The part at a moment. -/
def moment (t : Nat) (p : Part) : Part := { p with clock.now := t }

/-- A defrost in a state, both controllers agreeing, with a cycle and its ticket. -/
def defrosting (st : DefrostState) (c : Cycle) (p : Part) : Part :=
  hold 1 (active .defrostCycle .defrost)
    { p with
      defrost.state := st
      defrost.cycle := some c
      ice.defrostCopy := st
      pool.defrostSlot := some 1 }

/-- A cycle begun and heated from the moment 0. -/
def cycle0 : Cycle := { startTime := 0, creditAtStart := 480, heatingStart := some 0, heatingFrom := some 0 }

/-- A channel whose ring is full of one value. -/
def ringed (ch : ChannelNo) (raw : Nat) (p : Part) : Part :=
  { p with sense.channels := p.sense.channels.set ch { ring := List.replicate 4 raw } }

/-- A channel in conversion. -/
def converting (ch : ChannelNo) (p : Part) : Part := { p with sense.scan.current := ch }

/-- A channel with two bad values behind it. -/
def failing (ch : ChannelNo) (p : Part) : Part := { p with sense.channels := p.sense.channels.set ch { badRun := 2 } }

/-- The fields of SUBMIT as R18 judges them, read from the spec's tables beside the decoder of the model. -/
def submitValid : List Byte → Bool
  | [code, present, a1, a0, form, flags, load, secs] =>
    let k := code.toNat
    let has (j : Nat) : Bool := present.getLsbD j
    let amount := a1.toNat * 256 + a0.toNat
    decide
      (1 ≤ k ∧ k ≤ 6 ∧ present.toNat < 16 ∧ flags.toNat < 8 ∧ (has 0 = true ↔ k = 1 ∨ k = 3 ∨ k = 5) ∧
        ((k = 1 ∨ k = 5) → 10 ≤ amount ∧ amount ≤ 4000) ∧ (k = 3 → 1 ≤ amount ∧ amount ≤ 200) ∧
        (has 1 = true ↔ k = 3 ∨ k = 4) ∧ (has 1 = true → form.toNat ≤ 1) ∧ (has 2 = true ↔ k = 6) ∧
        (has 2 = true → load.toNat ≤ 7) ∧ (has 3 = true ↔ k = 6 ∧ load.toNat ≠ 5) ∧
        (has 3 = true → 1 ≤ secs.toNat ∧ secs.toNat ≤ 60) ∧ ((k = 3 ∨ k = 4) → flags.getLsbD 2 = false) ∧
        (k = 6 → flags.toNat = 0))
  | _ => false

/-- The ice maker in a state, the Defrost Controller told. -/
def icing (st : IceState) (p : Part) : Part := { p with ice.state := st, defrost.iceCopy := st }

/-! Well-formedness: what the check refuses. -/

theorem test_wellFormed_longestPayload : (Instr.ping 0 0 (List.replicate 64 0)).wellFormed = true := by decide +kernel
theorem test_illFormed_longPayload : (Instr.ping 0 0 (List.replicate 65 0)).wellFormed = false := by decide +kernel
theorem test_illFormed_knownKind : (Instr.unknownKindCommand 0 0x54 0 []).wellFormed = false := by decide +kernel
theorem test_wellFormed_unknownKind : (Instr.unknownKindCommand 0 0x55 0 []).wellFormed = true := by decide +kernel
theorem test_illFormed_noBytes : (Instr.frameReceived 0 []).wellFormed = false := by decide +kernel
theorem test_wellFormed_oneByte : (Instr.frameReceived 0 [0xB7]).wellFormed = true := by decide +kernel

/-! The link. -/

/-- The frames of the PING example of chapter 9. -/
theorem test_ping_reply :
    (after (.ping 0 0 []) State.reset).link.reply =
      some [0xB7, 0x08, 0x81, 0x00, 0x00, 0x04, 0x46, 0x44, 0x34, 0x31, 0x38, 0x01, 0x83] := by decide +kernel

theorem test_ping_bytes :
    after (.frameReceived 0 [0x00, 0xB7, 0x00, 0x01, 0x00, 0x15]) State.reset = after (.ping 0 0 []) State.reset := by
  decide +kernel

theorem test_ping_badCheck :
    (after (.frameReceived 0 [0xB7, 0x00, 0x01, 0x00, 0x14]) State.reset).link.lastError = some .check := by
  decide +kernel

theorem test_readNotices_afterReset :
    (after (.readNotices 0 9 []) State.reset).link.reply.map (fun r => (r.drop 6).take 4) = some [0x00, 0x01, 0, 0] := by
  decide +kernel

theorem test_setNoticeMask_masks : (after (.setNoticeMask 0 0 [0x00, 0x01]) State.reset).attn = false := by decide +kernel

theorem test_unknownKind_refused :
    (after (.unknownKindCommand 0 0x7F 3 []) State.reset).link.reply = some (frameBytes 0xFF 3 [1, 4]) := by
  decide +kernel

theorem test_statusLength :
    (after (.status 0 0 []) State.reset).link.reply.map List.length = some 29 := by decide +kernel

/-- The gap row from 20 ms after the end of the last byte on; the tick once no byte that has begun in time can come. -/
theorem test_gap :
    let s := state fun p => { p with link.receiver := .gathering [1] 0 }
    (after (.gapTimeout 20026) s).link.lastError = none ∧ (after (.gapTimeout 20027) s).link.lastError = some .gap ∧
      .gapTimeout 0 ∉ (s.later 20520).dueEvents ∧ .gapTimeout 0 ∈ (s.later 20521).dueEvents := by decide +kernel

/-- The last byte of a PING taken as late as one begun in time can be ends its frame; 1 µs later the frame is discarded GAP,
and a byte of B7H begins a new one. -/
theorem test_gap_lateByte :
    let s := state fun p => { p with link.receiver := .gathering [0x00, 0x01, 0x00] 0 }
    (after (.frameReceived 20520 [0x15]) s).link.executing = some ⟨1, 0, []⟩ ∧
      (after (.frameReceived 20521 [0x15]) s).link.lastError = some .gap ∧
      (after (.frameReceived 20521 [0x15]) s).link.receiver = .hunting ∧
      (after (.frameReceived 20521 [0xB7]) s).link.receiver = .gathering [] 20521 := by decide +kernel

theorem test_secondCommand_waits :
    (after (.status 0 2 []) (state fun _ => after (.ping 0 1 []) State.reset)).link.inbox = [⟨2, 2, []⟩] := by
  decide +kernel

theorem test_replySent_next :
    (after (.replySent 0) (state fun p =>
      { p with link.reply := some [], link.executing := some ⟨1, 0, []⟩, link.inbox := [⟨2, 2, []⟩] })).link.executing =
      some ⟨2, 2, []⟩ := by decide +kernel

/-- A checkpoint: an inductive type is declared only when every theorem before it has been checked, so that the kernel
never has more than a section's tests to evaluate at once. -/
inductive Checkpoint1 where
  | passed

/-! Supervision. -/

theorem test_setParam_refusedShowsHeld :
    (after (.setParam 0 0 [3, 0, 0]) State.reset).link.reply.map (·.drop 4) =
      some ([3, 4, 3, 0x07, 0xD0] ++ [checkByte [5, 0x90, 0, 3, 4, 3, 0x07, 0xD0]]) := by decide +kernel

theorem test_setParam_target :
    (after (.setParam 0 0 [28, 0, 10]) State.reset).defrost.target = 600 := by decide +kernel

theorem test_lockLimits : (after (.lockLimits 0 0 []) State.reset).supervision.lock = true := by decide +kernel

theorem test_getParam : (after (.getParam 0 0 [46]) State.reset).link.reply.map List.length = some 12 := by decide +kernel

theorem test_restart_waitsForReply :
    (after (.restart 0 0 []) State.reset).link.restartPending = true ∧
      (after (.restart 0 0 []) State.reset).resetting = none := by decide +kernel

theorem test_silence_notYet :
    (after (.silenceExpiry 29999999) (state fun p =>
      { p with supervision.armed := true, supervision.silence := { counted := 0, since := some 0 } })).supervision.silent =
      false := by decide +kernel

theorem test_powerOn_thenEnd :
    after (.resetEnd 5) { State.reset with part := after (.powerOn 3) State.reset } = Part.reset := by decide +kernel

theorem test_lineReset_keepsLeak :
    (after (.lineReset 0) (state fun p => { p with line.leakLatch := true })).line.leakLatch = true := by decide +kernel

/-- A checkpoint. -/
inductive Checkpoint2 where
  | passed

/-! The Sense Unit. -/

theorem test_loadCurve_tooShort :
    (after (.loadCurve 0 0 [0, 0]) State.reset).link.reply.map (fun r => (r.drop 4).take 1) = some [3] := by decide +kernel

theorem test_getCurve_default :
    (after (.getCurve 0 0 [1]) State.reset).link.reply.map (fun r => (r.drop 6).take 5) =
      some [9, 0x0B, 0xB8, 0x02, 0x58] := by decide +kernel

/-- The three means of the examples after R38. -/
theorem test_throughCurve_examples :
    throughCurve defaultCurve 19701 = (.ok, -50) ∧ throughCurve defaultCurve 20280 = (.ok, -60) ∧
      throughCurve defaultCurve 10000 = (.ok, 193) := by decide +kernel

/-- Rounds 1 to 15 of Table 2-5. -/
theorem test_channel_table25 :
    (([19680, 19720, 19700, 19704, 65535, 65535, 312, 20100, 20140, 20180, 20200, 20240, 20260, 20300, 20320] :
      List Nat).foldl (fun c r => Channel.convert r c) {}).ring = [20240, 20260, 20300, 20320] := by decide +kernel

theorem test_readSensors_heldWithFresh :
    (after (.readSensors 0 0 [1, 0x3F]) State.reset).sense.scan.fresh =
      some { channels := [0, 1, 2, 3, 4, 5], left := none } := by decide +kernel

theorem test_fresh_notYet :
    (after (.readSensorsFreshReply 0) (state fun _ => after (.readSensors 0 0 [1, 1]) State.reset)).link.reply = none := by
  decide +kernel

/-- A FRESH request for all six channels is answered at the end of its sixth conversion (R40). -/
theorem test_fresh_allSix :
    (after (.conversionEnd 0 1000) (state fun p =>
      { p with
        sense.scan.current := 5
        sense.scan.rest := []
        sense.scan.fresh := some { channels := [0, 1, 2, 3, 4, 5], left := some 1 }
        link.executing := some ⟨0x30, 0, [1, 0x3F]⟩ })).link.reply.isSome = true := by decide +kernel

theorem test_conversion_joinsRing :
    (after (.conversionEnd 0 16800) State.reset).sense.channels[(0 : ChannelNo)].ring = [16800] := by decide +kernel

theorem test_conversion_thirdBad :
    (after (.conversionEnd 0 65535) (state fun p =>
      { p with sense.channels := p.sense.channels.set 0 { badRun := 2 } })).isPending .sensorFault = true := by
  decide +kernel

/-- A conversion that no row ends is ended at 65,535, and a later row finds that count (R28). -/
theorem test_conversion_longest :
    .conversionEnd 0 65535 ∉ (Part.reset.elapse 66534).dueEvents ∧
      .conversionEnd 0 65535 ∈ (Part.reset.elapse 66535).dueEvents ∧
      (after (.conversionEnd 70000 500) State.reset).sense.channels[(0 : ChannelNo)].last = some .opened := by
  decide +kernel

theorem test_thermistorDrive :
    Part.reset.thermistorDrive 0 = .high ∧ (Part.reset.elapse 999).thermistorDrive 0 = .high ∧
      (Part.reset.elapse 1000).thermistorDrive 0 = .released ∧ Part.reset.thermistorDrive 1 = .low := by decide +kernel

theorem test_firstReading_home :
    (after (.switchFirstReading 9999 (.home .made)) State.reset).ice.state = .homing ∧
      (after (.switchFirstReading 10000 (.home .made)) State.reset).ice.state = .freezing := by decide +kernel

theorem test_beam_full :
    (after (.beamFilterChange 4999999 .blocked) State.reset).ice.stock = 0 ∧
      (after (.beamFilterChange 5000000 .blocked) State.reset).ice.stock = 240 := by decide +kernel

/-- The level that a row tells is the level that READ_SENSORS reads (R39). -/
theorem test_beam_level :
    (after (.beamFilterChange 0 .blocked) State.reset).beamLevelByte = 0 ∧
      (after (.beamFilterChange 0 .clear) State.reset).beamLevelByte = 1 := by decide +kernel

/-- A press and its release 0 µs apart are dropped; a press that stands for 30 ms is taken by the row then due (R41). -/
theorem test_press_short :
    (let s := state fun p => moment 1000000 { rested p with sense.waterPin := { level := some .released } }
     (after (.paddleRelease 0 .water) { s with part := after (.paddlePress 0 .water) s }).pool.queue = [] ∧
       (after (.paddleRelease 0 .water) { s with part := after (.paddlePress 0 .water) s }).sense.waterPaddle =
         some .released ∧
       .paddlePress 0 .water ∉ ((after (.paddlePress 0 .water) s).elapse 29999).dueEvents ∧
       .paddlePress 0 .water ∈ ((after (.paddlePress 0 .water) s).elapse 30000).dueEvents) := by decide +kernel

/-- The part after commands, one after the other. -/
def afterAll (l : List Instr) (s : State) : Part := (l.foldl (fun t i => { t with part := after i t }) s).part

/-- A press that stood 50 ms is taken by the release that no tick came before, with the door CLOSED (R41, log 9). -/
theorem test_press_takenByRelease :
    (let s := state fun p => moment 1000000 { rested p with sense.waterPin := { level := some .released } }
     let p := afterAll [.paddlePress 0 .water, .paddleRelease 50000 .water] s
     p.sense.waterPaddle = some .pressed ∧ p.pool.queue = [0] ∧ p.sense.waterPin = { level := some .released, since := 1050000 } ∧
       (afterAll [.paddlePress 0 .water, .paddleRelease 29999 .water] s).pool.queue = []) := by decide +kernel

/-- A door told CLOSED since the reset is CLOSED once it tells OPEN after 200 ms; the opening is due 100 ms later (R42). -/
theorem test_firstReading_takenByOpening :
    (let p := afterAll [.switchFirstReading 0 (.door .closed), .doorOpening 200000] State.reset
     p.sense.door = some .closed ∧ .doorOpening 0 ∉ (p.elapse 99999).dueEvents ∧
       .doorOpening 0 ∈ (p.elapse 100000).dueEvents) := by decide +kernel

/-- A beam told blocked is FULL once it tells clear 10 s later; clear is due 2 s after that (R43). -/
theorem test_beam_takenByClear :
    (let p := afterAll [.beamFilterChange 0 .blocked, .beamFilterChange 10000000 .clear] State.reset
     p.sense.beam = .full ∧ p.ice.stock = 240 ∧ .beamFilterChange 0 .clear ∈ (p.elapse 2000000).dueEvents ∧
       .beamFilterChange 0 .clear ∉ (p.elapse 1999999).dueEvents) := by decide +kernel

theorem test_flowPeriod_kept :
    (after (.flowPeriodTimeout 1999999) (state fun p =>
      { p with sense.flowPeriod := some 5, sense.lastFlow := some 0 })).sense.flowPeriod = some 5 := by decide +kernel

theorem test_tach : (after (.tachPulse 3) State.reset).sense.lastTach = some 3 := by decide +kernel

/-- A checkpoint. -/
inductive Checkpoint3 where
  | passed

/-! The Load Budget Unit. -/

theorem test_setLoad : (after (.setLoad 0 0 [0, 0, 100, 4, 2]) State.reset).loads.heaters[(0 : HeaterNo)].accepted =
    ⟨100, 4, 2⟩ := by decide +kernel

theorem test_getLoads : (after (.getLoads 0 0 []) State.reset).link.reply.map List.length = some 95 := by decide +kernel

theorem test_setRotation :
    (after (.setRotation 0 0 (List.replicate 16 0xFF)) State.reset).loads.rotation = Vector.replicate 16 none := by
  decide +kernel

theorem test_second_grants :
    (after (.partSecondsAdvance 1000000) (state fun p => (p.raiseOwner 0).raiseOwner 2)).loads.heaters[(0 : HeaterNo)].grant =
      true := by decide +kernel

theorem test_second_denies :
    (after (.partSecondsAdvance 1000000) (state fun p => (p.raiseOwner 0).raiseOwner 2)).loads.heaters[(2 : HeaterNo)].grant =
      false := by decide +kernel

/-! The Ticket Manager. -/

theorem test_submit_queues :
    (after (.submit 0 7 [2, 0, 0, 0, 0, 0, 0, 0]) State.reset).pool.queue = [0] := by decide +kernel

theorem test_submit_starves :
    (after (.submit 0 7 [2, 0, 0, 0, 0, 0, 0, 0]) (state fun p => { p with pool.free := [1, 2, 3] })).pool.starvation.link =
      1 := by decide +kernel

theorem test_cancel :
    (after (.cancel 0 0 [0]) (state (withHead (queued .waterHold .link)))).pool.completion = [0] := by decide +kernel

theorem test_fetch :
    (after (.fetch 0 0 [3]) (state fun p => { p with pool.completion := [5], pool.free := [1] })).pool.free = [1, 5] := by
  decide +kernel

theorem test_ticketInfo_free :
    (after (.ticketInfo 0 0 [23]) State.reset).link.reply = some (frameBytes 0xA3 0 [8, 4]) := by decide +kernel

theorem test_poolStatus :
    (after (.poolStatus 0 0 [0]) State.reset).link.reply =
      some (frameBytes 0xA4 0 [0, 4, 24, 0, 0, 0, 0xFF, 0xFF, 0xFF, 0, 0, 0, 0]) := by decide +kernel

theorem test_redraw :
    (after (.internalRedraw 0) (state fun p => icing .fillWait p)).line.owner = some .fill := by decide +kernel

/-- A checkpoint. -/
inductive Checkpoint4 where
  | passed

/-! The Water Line Controller. -/

theorem test_clearLeak : (after (.clearLeak 0 0 []) (state fun p => { p with line.leakLatch := true })).line.leakLatch =
    false := by decide +kernel

theorem test_filterReset :
    (after (.filterReset 0 0 []) (state fun p => { p with line.filterMl := 9 })).line.filterMl = 0 := by decide +kernel

theorem test_getTotals : (after (.getTotals 0 0 []) State.reset).link.reply.map List.length = some 23 := by decide +kernel

theorem test_restoreTotals_wants :
    (after (.restoreTotals 0 0 [0, 0, 0, 0, 0, 0, 0, 0, 1, 0xE0]) State.reset).defrost.state = .wanted := by decide +kernel

theorem test_flowPulse_target :
    (after (.flowPulse 0) (state (withLine .dispense (work 9 (some 10))))).line.state = .settle := by decide +kernel

theorem test_lineGrant :
    (after (.lineGrant 0) (state fun p => { p with line.fillClaim := some 0 })).ice.state = .filling := by decide +kernel

theorem test_fillResume :
    (after (.fillResume 0) (state fun p => { p with line.suspended := some (work 5 (some 240)) })).line.state = .opened := by
  decide +kernel

theorem test_lineSettle_early :
    (after (.lineSettleEnd 499999) (state fun p =>
      { p with line := p.line.toSettle 0 .fill none })).line.state = .settle := by decide +kernel

theorem test_openTimeLimit :
    (after (.openTimeLimit 20000000) (state (withLine .fill (work 0 (some 240))))).line.ending = some .timeout := by
  decide +kernel

theorem test_noFlow :
    (after (.noFlowExpiry 3000000) (state (withLine .fill (work 0 (some 240))))).line.supply = .dry := by decide +kernel

theorem test_dryRetry :
    (after (.dryRetryEnd 60000000) (state fun p =>
      { p with line.supply := .dry, line.dryRetry := some 60000000 })).line.supply = .ok := by decide +kernel

/-- A checkpoint. -/
inductive Checkpoint5 where
  | passed

/-! The Ice Maker Controller. -/

theorem test_park_homing : (after (.iceControlPark 0 0) State.reset).ice.state = .homing := by decide +kernel

theorem test_run : (after (.iceControlRun 0 0) (state (icing .parked))).ice.state = .filling := by decide +kernel

theorem test_resume : (after (.iceControlResume 0 0) (state (icing .fault))).ice.state = .homing := by decide +kernel

theorem test_harvestNow :
    (after (.iceControlHarvestNow 0 0) (state (icing .freezing))).ice.state = .harvestHeat := by decide +kernel

theorem test_homingDeadline : (after (.homingDeadline 12000000) State.reset).ice.state = .fault := by decide +kernel

theorem test_homeSwitch :
    (after (.homeSwitchChange 10000 .made) (state fun p =>
      { p with sense.home := some .released })).ice.moldLoaded = true := by decide +kernel

/-- An ejector test ended with its switch RELEASED sets the off-home flag; one whose switch comes home at that moment leaves
it clear, whichever of the two is taken first (R118). -/
theorem test_ejectorTest_endsAtHome :
    (let s (pin : Pin Contact) := state fun p =>
      moment 50000 { hold 0 (active .loadTest .link { load := some .ejector }) (icing .parked p) with
        pool.serviceSlot := some 0, sense.home := some .released, sense.homePin := pin,
        ice.ejector := true, ice.leftHome := true, ice.returnDeadline := some 60000, ice.testFrom := some 0 }
     (after (.cancel 0 0 [0]) (s { level := some .made, since := 40001 })).ice.offHome = true ∧
       (after (.cancel 0 0 [0]) (s { level := some .made, since := 40000 })).ice.offHome = false) := by decide +kernel

theorem test_minFreeze_early :
    (after (.minFreezeReached 0) (state fun p => { rested p with clock.partSeconds := 1799 })).ice.state = .freezing := by
  decide +kernel

theorem test_faultFreeze :
    (after (.faultFreezeTime 0) (state fun p =>
      { rested p with
        clock.partSeconds := 3600
        sense.channels := p.sense.channels.set 2 { fault := true }
        ice.stock := 240 })).ice.state = .harvestWait := by decide +kernel

theorem test_harvestStart :
    (after (.harvestStart 0) (state (icing .harvestWait))).ice.state = .harvestHeat := by decide +kernel

theorem test_moldHeatLimit :
    (after (.moldHeatLimitExpiry 240000000) (state fun p =>
      { icing .harvestHeat p with ice.heatFrom := some 0 })).ice.state = .eject := by decide +kernel

theorem test_leaveHome_firstFailure :
    (after (.leaveHomeDeadline 2000000) (state fun p =>
      { icing .eject p with ice.leaveDeadline := some 2000000, ice.attempts := 1 })).ice.retryEnd = some 62000000 := by
  decide +kernel

theorem test_return_secondFailure :
    (after (.ejectReturnDeadline 12000000) (state fun p =>
      { icing .eject p with ice.returnDeadline := some 12000000, ice.attempts := 2 })).ice.state = .fault := by
  decide +kernel

theorem test_ejectRetry :
    (after (.ejectRetryTimer 60000000) (state fun p =>
      { icing .eject p with ice.retryEnd := some 60000000, ice.attempts := 1 })).ice.attempts = 2 := by decide +kernel

theorem test_iceSettle :
    (after (.iceSettleEnd 10000000) (state fun p =>
      { icing .settle p with ice.settleEnd := some 10000000, ice.parkPending := true })).ice.state = .parked := by
  decide +kernel

/-- A checkpoint. -/
inductive Checkpoint6 where
  | passed

/-! The Dispenser Controller. -/

theorem test_headStart :
    (after (.headStart 0) (state fun p => withHead (queued .iceHold .link { form := some .cubed }) (rested p))).outlet.flap =
      .opening := by decide +kernel

theorem test_paddlePress :
    (after (.paddlePress 30000 .water) (state rested)).line.dispense = true := by decide +kernel

theorem test_paddleRelease :
    (after (.paddleRelease 30000 .water) (state fun p =>
      after (.paddleRelease 5 .water) (state fun _ =>
        after (.paddlePress 30000 .water) (state fun _ => rested p)))).line.ending = some (.release .complete) := by
  decide +kernel

theorem test_doorOpening :
    (after (.doorOpening 100000) (state fun p =>
      after (.paddlePress 30000 .water) (state fun _ => rested p))).line.state = .held := by decide +kernel

theorem test_doorClosing_idle : (after (.doorClosing 100000) (state fun p =>
    { rested p with sense.door := some .opened })).sense.door = some .closed := by decide +kernel

theorem test_flapSwitch :
    (after (.flapSwitchChange 10000 .made) (state fun p =>
      after (.paddlePress 30000 .ice) (state fun _ => rested p))).outlet.augerForward = true := by decide +kernel

theorem test_flapOpenDeadline :
    (after (.flapOpenDeadline 1500000) (state fun p =>
      after (.paddlePress 30000 .ice) (state fun _ => rested p))).outlet.ending = some .chuteFault := by decide +kernel

theorem test_flapClose :
    (after (.flapCloseEnd 1500000) (state fun p => Part.beginClosing (rested p))).outlet.flap = .closed := by
  decide +kernel

/-- An ice hold that runs: the outlet RUNNING with the flap OPEN and the auger forward. -/
def running (r : RunRecord) (p : Part) : Part :=
  withHead (active .icePortion .link { amount := some 5, form := some .cubed })
    { rested p with
      sense.flap := some .made
      outlet.state := .running
      outlet.flap := .opened
      outlet.augerForward := true
      outlet.run := { r with entered := true, forward := { counted := 0, since := some 0 } } }

theorem test_runTarget :
    (after (.runTargetReached 2000000) (state (running { target := some 2000 }))).outlet.ending = some .complete := by
  decide +kernel

theorem test_runningLimit :
    (after (.runningTimeLimit 90000000) (state (running { running := { counted := 0, since := some 0 } }))).outlet.ending =
      some .timeout := by decide +kernel

theorem test_firstJam :
    (after (.jamWindowExpiry 1000000) (state (running { jamDeadline := some 1000000 }))).outlet.augerReverse = true := by
  decide +kernel

theorem test_secondJam :
    (after (.jamWindowExpiry 1000000) (state (running { jamDeadline := some 1000000, jams := 1 }))).outlet.ending =
      some .jam := by decide +kernel

theorem test_reverseEnd :
    (after (.reverseEnd 500000) (state fun p =>
      { running { reverseEnd := some 500000 } p with outlet.augerForward := false, outlet.augerReverse := true })).outlet.augerForward =
      true := by decide +kernel

theorem test_flapHold :
    (after (.flapHoldEnd 4000000) (state fun p =>
      { running {} p with outlet.state := .stopping, outlet.holdEnd := some 4000000 })).outlet.state = .closing := by
  decide +kernel

theorem test_pauseEnd :
    (after (.pauseTimerEnd 10000000) (state fun p =>
      { running {} p with
        sense.door := some .opened, outlet.state := .paused, outlet.pauseEnd := some 10000000 })).outlet.ending =
      some .doorOpen := by decide +kernel

theorem test_chuteTest :
    (after (.chuteTestHoldEnd 3000000) (state fun p =>
      withHead (active .loadTest .link { load := some .chute, seconds := some 3 })
        { rested p with
          outlet.state := .running, outlet.run := { hold := { counted := 0, since := some 0 } } })).outlet.state =
      .closing := by decide +kernel

theorem test_ductTimer :
    (after (.ductTimerEnd 60000000) (state fun p => { p with outlet.ductEnd := some 60000000 })).outlet.ductEnd = none := by
  decide +kernel

/-- A checkpoint. -/
inductive Checkpoint7 where
  | passed

/-! The Defrost Controller. -/

theorem test_compressor : (after (.compressor 0 0 [1]) State.reset).defrost.compressorRunning = true := by decide +kernel

/-- COMPRESSOR with another value, and with another length: refused, with the defrost reply data (R147, R195). -/
theorem test_compressor_refusals :
    (after (.compressor 0 0 [2]) State.reset).link.reply = some (frameBytes 0xD0 0 ([3, 4] ++ Part.reset.defrostData)) ∧
      (after (.compressor 0 0 []) State.reset).link.reply = some (frameBytes 0xD0 0 ([2, 4] ++ Part.reset.defrostData)) ∧
      (after (.compressor 0 0 [1, 1]) State.reset).defrost.compressorRunning = false := by decide +kernel

theorem test_go_accruing :
    (after (.defrostReplyGo 0 0 0) State.reset).link.reply.map (fun r => (r.drop 4).take 1) = some [4] := by decide +kernel

theorem test_defer :
    (after (.defrostReplyDefer 0 0 120) (state fun p => { p with defrost.state := .wanted })).defrost.deferEnd =
      some 7200000000 := by decide +kernel

theorem test_force : (after (.defrostForce 0 0 []) State.reset).defrost.state = .heating := by decide +kernel

theorem test_abort :
    (after (.defrostAbort 0 0 []) (state (defrosting .heating cycle0))).defrost.state = .dwell := by decide +kernel

theorem test_defrostLog_empty : (after (.defrostLog 0 0 []) State.reset).link.reply = some (frameBytes 0xD4 0 [0, 4, 0]) := by
  decide +kernel

theorem test_deferEnd :
    (after (.deferTimerEnd 60000000) (state fun p =>
      { p with defrost.state := .deferred, defrost.deferEnd := some 60000000 })).isPending .defrostWanted = true := by
  decide +kernel

theorem test_wantLimit :
    (after (.wantLimitReached 60000000) (state fun p =>
      { p with
        defrost.state := .wanted
        defrost.wantTime := { counted := 0, since := some 0 }
        supervision.params.wantLimit := 1 })).defrost.state = .heating := by decide +kernel

theorem test_silentWant :
    (after (.silentWantLimit 3600000000) (state fun p =>
      { p with
        defrost.state := .wanted
        supervision.silent := true
        defrost.silentWant := { counted := 0, since := some 0 } })).defrost.state = .heating := by decide +kernel

theorem test_heatingStart :
    (after (.defrostHeatingStart 0) (state (defrosting .prep { startTime := 0, creditAtStart := 1 }))).defrost.state =
      .heating := by decide +kernel

theorem test_heatLimit :
    (after (.defrostHeatLimitExpiry 2100000000) (state (defrosting .heating cycle0))).defrost.state = .dwell := by
  decide +kernel

theorem test_dwell :
    (after (.dwellEnd 300000000) (state fun p =>
      { defrosting .dwell cycle0 p with defrost.dwellEnd := some 300000000 })).isPending .defrostDone = true := by
  decide +kernel

theorem test_recover :
    (after (.recoverLimitExpiry 600000000) (state fun p =>
      { defrosting .recover { cycle0 with endReason := some .heatLimit } p with
        defrost.recoverEnd := some 600000000 })).defrost.target = 360 := by decide +kernel

/-! Witnesses: states and operands that meet the hypotheses of each statement, clause by clause. -/

/-- A checkpoint. -/
inductive Checkpoint8 where
  | passed

theorem witness_EmptyQueueIsATick :
    State.reset.pending = [] ∧ State.reset.part.resetting = none ∧
      (state fun p => { p with resetting := some .restart }).pending = [] ∧
      (state fun p => p.beginReset .powerOn).part.resetting = some .powerOn ∧
      (state fun p => p.beginReset .lineReset).part.resetting = some .lineReset := by decide +kernel

theorem witness_ResetAnswersNothing :
    (state fun p => p.beginReset .restart).part.resetting.isSome = true ∧
      hostRow (.ping 0 0 []) = some (0, ⟨1, 0, []⟩) := by decide +kernel

/-- A payload of 65 bytes; a full inbox; an inbox of 3 with a command in execution; the end of a reply in each case. -/
theorem witness_InboxHoldsWaitingCommands :
    hostRow (.ping 5 0 (List.replicate 65 0)) = some (5, ⟨1, 0, List.replicate 65 0⟩) ∧
      (let s := state fun p => { p with link.inbox := List.replicate 4 ⟨1, 0, []⟩ }
       s.part.resetting = none ∧ 4 ≤ (s.later 5).link.inbox.length) ∧
      (let s := state fun p => { p with link.inbox := List.replicate 3 ⟨1, 0, []⟩, link.executing := some ⟨1, 0, []⟩ }
       (s.later 5).link.inbox.length < 4 ∧ (s.later 5).link.executing.isSome = true) ∧
      (let s := state fun p => { p with link.reply := some [], link.restartPending := true }
       s.part.resetting = none ∧ s.part.link.reply = some [] ∧ (s.later 5).link.restartPending = true) ∧
      (let s := state fun p => { p with link.reply := some [] }
       (s.later 5).link.restartPending = false ∧ (s.later 5).link.inbox = []) ∧
      (let s := state fun p => { p with link.reply := some [], link.inbox := [⟨1, 0, []⟩] }
       (s.later 5).link.inbox = ⟨1, 0, []⟩ :: []) := by decide +kernel

/-- Frames met while hunting; a frame cut after its START, after its LEN and before its CHECK, the rest taken as late as a
byte begun in time can be. -/
theorem witness_ReceiverReadsFrames :
    hostRow (.ping 5 0 (List.replicate 64 0xB7)) = some (5, ⟨1, 0, List.replicate 64 0xB7⟩) ∧
      State.reset.part.link.receiver = .hunting ∧ (∀ b ∈ ([0x00, 0xB6] : List Byte), b ≠ 0xB7) ∧
      hostRow (.ping 20520 0 []) = some (20520, ⟨1, 0, []⟩) ∧
      ∀ c ∈ [(([] : List Byte), ([0x00, 0x01, 0x00, 0x15] : List Byte)), ([0x00], [0x01, 0x00, 0x15]),
          ([0x00, 0x01, 0x00], [0x15])],
        let s := state fun p => { p with link.receiver := .gathering c.1 0 }
        s.part.resetting = none ∧ s.part.link.receiver = .gathering c.1 0 ∧ c.2 ≠ [] ∧
          0xB7 :: (c.1 ++ c.2) = frameBytes 1 0 [] ∧ (s.later 20520).clock.now ≤ 0 + 20520 := by decide +kernel

/-- LEN 65 and 64; a wrong CHECK; the gap row at 20 ms past the end of the byte, 1 µs before it, and while hunting; a LEN and
a later byte as late as one begun in time can be taken, and 1 µs later. -/
theorem witness_ReceiverDiscardsBrokenFrames :
    State.reset.part.resetting = none ∧ State.reset.part.link.receiver = .hunting ∧ 64 < (65 : Byte).toNat ∧
      (0x14 : Byte) ≠ checkByte (byte ([] : List Byte).length :: 0x01 :: 0x00 :: []) ∧
      ((64 : Byte).toNat ≤ 64 ∧ ([] : List Byte).length < (64 : Byte).toNat + 3) ∧
      (State.reset.later 5).link.receiver = .hunting ∧
      (let s := state fun p => { p with link.receiver := .gathering [] 0 }
       s.part.resetting = none ∧ (s.later 20027).link.receiver = .gathering [] 0 ∧
         0 + 20027 ≤ (s.later 20027).clock.now ∧ (s.later 20026).clock.now < 0 + 20027 ∧
         (s.later 20520).clock.now ≤ 0 + 20520 ∧ [] ++ ([0x40] : List Byte) = 0x40 :: [] ∧
         0 + 20520 < (s.later 20521).clock.now) ∧
      (let s := state fun p => { p with link.receiver := .gathering [0x00, 0x01] 0 }
       (s.later 20520).clock.now ≤ 0 + 20520 ∧ [0x00, 0x01] ++ ([0x00] : List Byte) = 0x00 :: [0x01, 0x00] ∧
         ([0x01, 0x00] : List Byte).length < (0x00 : Byte).toNat + 3) := by decide +kernel

theorem witness_PingEchoes :
    State.reset.linkIdle ∧ (List.replicate 8 (0 : Byte)).length ≤ 8 ∧
      (8 < (List.replicate 9 (0 : Byte)).length ∧ (List.replicate 9 (0 : Byte)).length ≤ 64) := by decide +kernel

theorem witness_NoticesAreReadMaskedAndShown :
    State.reset.linkIdle ∧ (0x40 : Byte).getLsbD 6 = true ∧ (0x80 : Byte).getLsbD 7 = true ∧
      ((0x3F : Byte).getLsbD 6 = false ∧ (0x3F : Byte).getLsbD 7 = false) ∧ Part.reset.resetting = none ∧
      (Part.reset.beginReset .powerOn).resetting.isSome = true ∧ Part.reset.isPending .restarted = true := by
  decide +kernel

/-- Every kind of one or two payload lengths, refused at a length 1 below and 1 above; the receiver hunting. -/
theorem witness_ReadsShowAndChangeNothing_lengths :
    State.reset.linkIdle ∧ State.reset.part.link.receiver = .hunting ∧
      (∀ payload ∈ [[], List.replicate 1 (0 : Byte), List.replicate 2 0, List.replicate 3 0, List.replicate 4 0,
          List.replicate 6 0, List.replicate 9 0, List.replicate 11 0, List.replicate 64 0], payload.length ≤ 64) ∧
      (after (.frameReceived 0 (frameBytes 0x40 9 [0, 0])) State.reset).link.reply =
        some (frameBytes 0xC0 9 [2, 4, 0, 0, 0, 0, 0, 0, 0, 0xFF]) ∧
      (after (.frameReceived 0 (frameBytes 0x51 9 [1])) State.reset).link.reply =
        some (frameBytes 0xD1 9 [2, 4, 0, 0, 0, 0x01, 0xE0, 0xFF]) ∧
      (after (.setNoticeMask 0 9 [1]) State.reset).link.reply = some (frameBytes 0x84 9 [2, 4, 0, 0, 0, 1]) ∧
      (after (.getParam 0 9 []) State.reset).link.reply = some (frameBytes 0x91 9 [2, 4, 0, 0, 0]) := by decide +kernel

theorem witness_ReadsShowAndChangeNothing :
    State.reset.linkIdle ∧ (0x55 : Byte) ∉ knownKinds ∧ ([] : List Byte).length ≤ 64 := by decide +kernel

/-- Every case of R175, and one accepted value of every group that acts at once, at the ends of its ranges. -/
theorem witness_SetParamIsJudgedInOrder :
    State.reset.linkIdle ∧ ([1, 2] : List Byte).length ≠ 3 ∧ Param.ofNumber 47 = none ∧ Param.ofNumber 0 = none ∧
      (let q := (state fun p => { p with supervision.lock := true }).heard (.setParam 0 0 [1, 0, 50])
       Param.ofNumber 1 = some .heaterBudget ∧ q.supervision.lock = true ∧ (Param.heaterBudget).spec.locked = true) ∧
      (Param.silenceLimit.inRange 1 = false ∧ Param.heaterBudget.inRange 52 = false ∧ Param.iceForm.inRange 2 = false) ∧
      ((defaultParams.set 12 .defrostMaxH).pairsHold = true ∧ (defaultParams.set 24 .defrostMinH).pairsHold = false) ∧
      (Part.reset.paramRefusal .heaterBudget 245 = some .range ∧ Part.reset.paramRefusal .heaterBudget 250 = none) ∧
      Part.paramRefusal .flowK 2000 (withLine .fill (work 0 none) Part.reset) = some .state ∧
      (∀ k ∈ [Param.defrostStartH, .defrostMinH, .defrostMaxH],
        (State.reset.heard (.setParam 0 0 [28, 0, 12])).paramRefusal k 12 =
          if k = .defrostMinH then some .range else none) ∧
      (State.reset.heard (.setParam 0 0 [26, 0, 4])).paramRefusal .defrostMinH 4 = none ∧
      (State.reset.heard (.setParam 0 0 [14, 0, 40])).paramRefusal .binCapacity 40 = none ∧
      (State.reset.heard (.setParam 0 0 [3, 1, 0xF4])).paramRefusal .flowK 500 = none ∧
      (State.reset.heard (.setParam 0 0 [12, 0, 30])).paramRefusal .filterLimitDays 30 = none := by decide +kernel

theorem witness_ParametersAreShownAndLocked :
    State.reset.linkIdle ∧ ((0 : Byte).toNat < 1 ∧ 46 < (47 : Byte).toNat) ∧
      (1 ≤ (1 : Byte).toNat ∧ (46 : Byte).toNat ≤ 46) ∧
      (let s := state fun p => { p with supervision.lock := true }
       s.linkIdle ∧ s.part.supervision.lock = true ∧ Param.ofNumber (1 : Byte).toNat = some .heaterBudget ∧
         Param.heaterBudget.spec.locked = true ∧ ([] : List Byte).length = 4 * (0 : Byte).toNat ∧
         (0 : Byte).toNat * 256 + (249 : Byte).toNat ≠ s.part.loads.heaters[(0 : HeaterNo)].accepted.watts) := by
  decide +kernel

/-- At SILENCE_LIMIT, 1 µs before it, and with a LINK ticket behind the head and a LINK test in the service slot. -/
theorem witness_SilenceExpires :
    (let s := state fun p =>
      { hold 3 (queued .flush .link) (hold 4 (active .loadTest .link { load := some (.heater 1) }) p) with
        supervision.armed := true
        supervision.silence := { counted := 0, since := some 0 }
        defrost.state := .wanted
        pool.queue := [2, 3]
        pool.serviceSlot := some 4 }
     s.part.resetting = none ∧
       (s.later 30000000).silenceDue = true ∧ (s.later 29999999).silenceDue = false ∧
       (s.later 0).defrost.state = .wanted ∧ (3 : TicketNo) ∈ (s.later 0).pool.queue ∧
       ((s.later 0).ticket 3).origin = some .link ∧ ((s.later 0).ticket 3).state = .queued ∧
       (s.later 0).pool.queue.head? ≠ some 3 ∧ (s.later 0).pool.serviceSlot = some 4 ∧
       ((s.later 0).ticket 4).origin = some .link ∧
       (∀ n ∈ (s.later 0).pool.queue, (s.later 0).pool.serviceSlot ≠ some n ∧ (s.later 0).pool.iceSlot ≠ some n)) := by
  decide +kernel

/-- A LINK head in every stage at the expiry, a head that is STOPPING and a paddle's, each with a LINK ticket behind it. -/
theorem witness_SilenceExpires_heads :
    ∀ h ∈ [(queued .waterHold .link, OutletState.idle), (queued .waterHold .link, .lineWait),
        (active .iceHold .link, .opening), (active .waterHold .link, .running), (active .waterHold .link, .paused),
        (active .iceHold .link, .running), (active .loadTest .link { load := some .auger }, .running),
        (active .loadTest .link { load := some .chute }, .paused),
        ({ active .iceHold .link with state := .stopping }, .stopping), (active .iceHold .paddle, .running)],
      let s := state fun p =>
        { hold 3 (queued .flush .link) (withLine .dispense (work 0 none) (withHead h.1 p)) with
          pool.queue := [0, 3]
          outlet.state := h.2
          supervision.armed := true
          supervision.silence := { counted := 0, since := some 0 } }
      let p := s.later 30000000
      s.part.resetting = none ∧ p.silenceDue = true ∧ p.pool.queue = 0 :: [3] ∧ p.pool.queue.Nodup ∧
        (∀ m ∈ p.pool.queue, p.pool.serviceSlot ≠ some m ∧ p.pool.iceSlot ≠ some m ∧ m ∉ p.pool.completion) ∧
        p.ticket 0 = h.1 ∧ p.outlet.state = h.2 ∧ p.line.state = .opened ∧ p.line.owner = some .dispense := by
  decide +kernel

theorem witness_ResetsBegin :
    State.reset.linkIdle ∧ (State.reset.heard (.restart 0 0 [])).defrost.cycle = none ∧
      (let s := state (defrosting .heating cycle0)
       s.linkIdle ∧ (s.heard (.restart 0 0 [])).defrost.cycle = some cycle0) ∧ ResetKind.powerOn ≠ .restart := by
  decide +kernel

/-- A checkpoint. -/
inductive Checkpoint9 where
  | passed

/-- Both classes and another; a table of 4 points with its length, one of 3, and a length that does not agree. -/
theorem witness_CurvesAreShownAndReplaced :
    State.reset.linkIdle ∧ ((2 : Byte) ≠ 0 ∧ (2 : Byte) ≠ 1) ∧
      (let points : List Byte := [0, 1, 0, 9, 0, 2, 0, 8, 0, 3, 0, 7, 0, 4, 0, 6]
       points.length = 4 * (4 : Byte).toNat ∧ points.length ≤ 62 ∧ validCurve (pointsOf points) = true ∧
         validCurve (pointsOf (points.take 12)) = false ∧ points.length ≠ 4 * (3 : Byte).toNat) ∧
      (State.reset.heard (.loadCurve 0 0 [0, 0])).supervision.lock = false := by decide +kernel

theorem witness_CurveReadsBetweenItsPoints :
    (([⟨3000, 600⟩, ⟨5200, 400⟩] : List CurvePoint).Pairwise fun x y : CurvePoint => x.count < y.count ∧ y.temp < x.temp) ∧
      3000 ≤ 3000 ∧ 3000 ≤ 5200 ∧ 2999 < 3000 ∧ 5200 < 5201 := by decide +kernel

/-- Half-way between two temperatures the colder one is read, above and below 0; a quarter from one, that one (R35). -/
theorem test_throughCurve_rounds :
    throughCurve [⟨0, 1⟩, ⟨2, 0⟩] 1 = (.ok, 0) ∧ throughCurve [⟨0, 0⟩, ⟨2, -1⟩] 1 = (.ok, -1) ∧
      throughCurve [⟨0, 1⟩, ⟨4, 0⟩] 1 = (.ok, 1) ∧ throughCurve [⟨0, 1⟩, ⟨4, 0⟩] 3 = (.ok, 0) := by decide +kernel

theorem witness_ReadSensorsAnswersOrHolds :
    State.reset.linkIdle ∧ (0x40 : Byte).getLsbD 6 = true ∧ (0x80 : Byte).getLsbD 7 = true ∧
      ((0x3F : Byte).getLsbD 6 = false ∧ (0x3F : Byte).getLsbD 7 = false) ∧
      ((1 : Byte).getLsbD 0 = true ∧ ((List.finRange 6).filter fun ch => (0x20 : Byte).getLsbD ch.val) ≠ []) ∧
      ((0 : Byte).getLsbD 0 = false ∧ ((List.finRange 6).filter fun ch => (0 : Byte).getLsbD ch.val) = []) ∧
      (let s := state fun p => { p with sense.flowPeriod := some 1 }
       (s.heard (.readSensors 0 0 [0, 0])).sense.flowPeriod ≠ some 0) ∧
      (State.reset.heard (.readSensors 0 0 [0, 0])).sense.flowPeriod = none ∧
      (∀ l ∈ [BeamLevel.blocked, .clear], ((state (Part.tellBeam l)).heard (.readSensors 0 0 [0, 0])).sense.beamPin.level =
        some l) ∧
      (let s := state fun p =>
        { p with sense.scan.fresh := some { channels := [5], left := some 0 }, link.executing := some ⟨0x30, 0, [1, 0x20]⟩ }
       s.part.resetting = none ∧ (s.later 0).sense.scan.fresh = some { channels := [5], left := some 0 } ∧
         (s.later 0).link.executing = some ⟨0x30, 0, [1, 0x20]⟩) ∧
      (State.reset.later 0).sense.scan.fresh = none := by decide +kernel

/-- Raw 499, 500, 65,534 and 65,535; the third bad value and the eighth good one. -/
theorem witness_ConversionActsOnItsChannel :
    State.reset.part.resetting = none ∧ (499 : BitVec 16).toNat < 500 ∧
      (500 ≤ (500 : BitVec 16).toNat ∧ (65534 : BitVec 16).toNat < 65535) ∧ ¬(65535 : BitVec 16).toNat < 65535 ∧
      (let s := state fun p => { p with sense.channels := p.sense.channels.set 0 { badRun := 2 } }
       (s.later 0).sense.channels[(s.later 0).sense.scan.current].fault = false ∧
         ¬((s.later 0).sense.channels[(s.later 0).sense.scan.current].badRun + 1 < 3)) := by decide +kernel

/-- A count by the row and by the clock; within a round and at its end, without a FRESH request, with one that waits for
its round, and at its last but one and its last channel. -/
theorem witness_ConversionActsOnItsChannel_scan :
    min 65535 (max (700 : BitVec 16).toNat ((State.reset.later 1500).clock.now - (0 + 1000))) = 700 ∧
      min 65535 (max (700 : BitVec 16).toNat ((State.reset.later 1800).clock.now - (0 + 1000))) = 800 ∧
      (State.reset.later 0).sense.scan.rest = 1 :: [2, 3, 4, 5] ∧ (State.reset.later 0).sense.scan.fresh = none ∧
      (let s := state fun p => { p with sense.scan.rest := [], sense.scan.fresh := some { channels := [5], left := none } }
       (s.later 0).sense.scan.rest = [] ∧ ([5] : List ChannelNo) ≠ [] ∧
         (s.later 0).sense.scan.fresh = some { channels := [5], left := none }) ∧
      (let s := state fun p => { p with sense.scan.fresh := some { channels := [4, 5], left := some 2 } }
       (s.later 0).sense.scan.fresh = some { channels := [4, 5], left := some (0 + 2) }) ∧
      (let s := state fun p =>
        { p with
          sense.scan.fresh := some { channels := [5], left := some 1 }, link.executing := some ⟨0x30, 0, [1, 0x20]⟩ }
       (s.later 0).sense.scan.fresh = some { channels := [5], left := some 1 } ∧
         (s.later 0).link.executing = some ⟨0x30, 0, [1, 0x20]⟩) ∧
      (Part.reset.sense.scan.current = 0 ∧ (Part.reset.elapse 999).clock.now < Part.reset.sense.scan.startedAt + 1000 ∧
        Part.reset.sense.scan.startedAt + 1000 ≤ (Part.reset.elapse 1000).clock.now ∧
        Part.reset.sense.scan.current ≠ 1 ∧
        Part.reset.sense.scan.startedAt + 1000 + 65535 ≤ (Part.reset.elapse 66535).clock.now) := by decide +kernel

/-- EVAP at TERMINATE_TEMP and below it in HEATING, at FAN_START_TEMP and above it in RECOVER, in DWELL, and its entry into
FAULT, before and at half of the heating limit. -/
theorem witness_ConversionActsOnItsChannel_evap :
    (∀ st ∈ [DefrostState.heating, .dwell, .recover],
      let s := state fun p => ringed 0 13520 (defrosting st cycle0 p)
      s.part.resetting = none ∧ s.part.sense.scan.fresh = none ∧ (s.later 0).sense.scan.current = 0 ∧
        (s.later 0).defrost.cycle = some cycle0 ∧ (s.later 0).defrost.state = st ∧
        ((after (.conversionEnd 0 13520) s).reading 0).status = .ok ∧
        ((after (.conversionEnd 0 13520) s).reading 0).temp = some s.part.supervision.params.terminateTemp) ∧
      (let s := state fun p => ringed 0 13600 (defrosting .heating cycle0 p)
       ((after (.conversionEnd 0 13600) s).reading 0).temp = some 78) ∧
      (let s := state fun p => ringed 0 19700 (defrosting .recover cycle0 p)
       ((after (.conversionEnd 0 19700) s).reading 0).temp = some s.part.supervision.params.fanStartTemp) ∧
      (∀ st ∈ [DefrostState.heating, .recover],
        let s := state fun p => failing 0 (defrosting st cycle0 p)
        (s.later 0).sense.channels[(0 : ChannelNo)].fault = false ∧ (s.later 0).defrost.state = st ∧
          cycle0.heatingFrom = some 0 ∧ ((after (.conversionEnd 0 65535) s).reading 0).status = .fault) ∧
      (let s := state fun p => failing 0 (defrosting .heating cycle0 p)
       ¬0 + 35 * 30 * 1000000 ≤ (after (.conversionEnd 0 65535) s).clock.now ∧
         0 + 35 * 30 * 1000000 ≤ (after (.conversionEnd 1050000000 65535) s).clock.now) := by decide +kernel

/-- MOLD at HARVEST_TEMP and above it, NOT_READY and FAULT in FREEZING, with the cold run and the freeze at their times and
before; at RELEASE_TEMP and below it in HARVEST_HEAT, and its entry into FAULT there. -/
theorem witness_ConversionActsOnItsChannel_mold :
    (let s := state fun p => converting 2 (ringed 2 24280 { rested p with clock.partSeconds := 1800, ice.coldRunStart := some 0 })
     (s.later 0).sense.scan.current = 2 ∧ (s.later 0).ice.state = .freezing ∧ (s.later 0).ice.freezeStart = some 0 ∧
       ((after (.conversionEnd 0 24280) s).reading 2).status = .ok ∧
       ((after (.conversionEnd 0 24280) s).reading 2).temp = some s.part.supervision.params.harvestTemp ∧
       ((after (.conversionEnd 300000000 24280) s).reading 2).temp = some s.part.supervision.params.harvestTemp ∧
       0 + 300 * 1000000 ≤ (after (.conversionEnd 300000000 24280) s).clock.now ∧
       ¬0 + 300 * 1000000 ≤ (after (.conversionEnd 0 24280) s).clock.now ∧
       0 + 30 * 60 ≤ (s.later 0).clock.partSeconds) ∧
      (let s := state fun p => converting 2 (ringed 2 16800 (rested p))
       ((after (.conversionEnd 0 16800) s).reading 2).temp = some 0 ∧ (s.later 0).ice.freezeStart = some 0) ∧
      (let s := state fun p => converting 2 (rested p)
       ((after (.conversionEnd 0 16800) s).reading 2).status = .notReady) ∧
      (∀ e ∈ [3599, 3600],
        let s := state fun p => converting 2 (failing 2 { rested p with clock.partSeconds := e })
        ((after (.conversionEnd 0 65535) s).reading 2).status = .fault ∧ (s.later 0).ice.freezeStart = some 0 ∧
          (0 + 2 * 30 * 60 ≤ (s.later 0).clock.partSeconds ↔ e = 3600)) ∧
      (∀ raw ∈ [(15980, 20), (16800, 0)],
        let s := state fun p => converting 2 (ringed 2 raw.1 (icing .harvestHeat p))
        (s.later 0).ice.state = .harvestHeat ∧
          ((after (.conversionEnd 0 (BitVec.ofNat 16 raw.1)) s).reading 2).temp = some raw.2) ∧
      (let s := state fun p =>
        converting 2 (failing 2 { hold 0 (active .harvest .iceMaker) (icing .harvestHeat p) with
          pool.iceSlot := some 0, ice.heatFrom := some 0 })
       (s.later 0).sense.channels[(2 : ChannelNo)].fault = false ∧ (s.later 0).ice.heatFrom = some 0 ∧
         (s.later 0).pool.iceSlot = some 0 ∧ ((after (.conversionEnd 0 65535) s).reading 2).status = .fault ∧
         ¬0 + 240 / 2 * 1000000 ≤ (after (.conversionEnd 0 65535) s).clock.now ∧
         0 + 240 / 2 * 1000000 ≤ (after (.conversionEnd 120000000 65535) s).clock.now) := by decide +kernel

theorem witness_FirstReadingsSetTheSwitches :
    (let q := State.reset.later 100000
     q.sense.door = none ∧ q.sense.doorPin.stood q.clock.now 100000 .opened ∧
       q.sense.doorPin.stood q.clock.now 100000 .closed) ∧
      (let q := State.reset.later 30000
       q.sense.waterPaddle = none ∧ q.sense.icePaddle = none ∧ q.sense.waterPin.stood q.clock.now 30000 .pressed ∧
         q.sense.icePin.stood q.clock.now 30000 .released) ∧
      (let q := State.reset.later 10000
       q.sense.homePin.stood q.clock.now 10000 .made ∧ q.sense.homePin.stood q.clock.now 10000 .released ∧
         q.sense.flapPin.stood q.clock.now 10000 .made ∧ q.sense.flapPin.stood q.clock.now 10000 .released) ∧
      ((state rested).later 0).sense.door.isSome = true ∧ ((state rested).later 0).sense.waterPaddle.isSome = true ∧
      ((state rested).later 0).sense.icePaddle.isSome = true ∧
    State.reset.part.resetting = none ∧ (State.reset.later 0).sense.home = none ∧
      (State.reset.later 0).ice.state = .homing ∧ (State.reset.later 0).sense.flap = none ∧
      ((state rested).later 0).sense.home.isSome = true ∧ ((state rested).later 0).sense.flap.isSome = true ∧
      ((state (icing .fault)).later 0).ice.state ≠ .homing := by decide +kernel

/-- A told level that is not the state, 1 µs before its time and at it: a pin that is quiet, and a change that is earned, with a
reading there and with none. -/
theorem witness_FirstReadingsSetTheSwitches_door (door : Option Door) (h : door ∈ [none, some .closed]) :
    let s := state fun p => { p with sense.door := door, sense.doorPin := { level := some .opened } }
    let p := s.later 99999
    s.part.resetting = none ∧ p.sense.doorPin.quiet p.clock.now 100000 p.sense.door ∧
      ¬p.sense.doorPin.stood p.clock.now 100000 .closed ∧ ¬p.sense.doorPin.stood p.clock.now 100000 .opened ∧
      (s.later 100000).sense.doorPin.earned 100000 100000 door .opened := by
  revert door; decide +kernel

/-- The same for both paddles. -/
theorem witness_FirstReadingsSetTheSwitches_paddles (paddle : Option PaddleState) (h : paddle ∈ [none, some .released]) :
    let s := state fun p =>
      { p with
        sense.waterPaddle := paddle, sense.waterPin := { level := some .pressed }, sense.icePaddle := paddle
        sense.icePin := { level := some .pressed } }
    let p := s.later 29999
    p.sense.waterPin.quiet p.clock.now 30000 p.sense.waterPaddle ∧
      p.sense.icePin.quiet p.clock.now 30000 p.sense.icePaddle ∧
      ¬p.sense.waterPin.stood p.clock.now 30000 .released ∧ ¬p.sense.icePin.stood p.clock.now 30000 .pressed ∧
      (s.later 30000).sense.waterPin.earned 30000 30000 paddle .pressed ∧
      (s.later 30000).sense.icePin.earned 30000 30000 paddle .pressed := by
  revert paddle; decide +kernel

/-- The same for the home and flap switches. -/
theorem witness_FirstReadingsSetTheSwitches_switches (switch : Option Contact) (h : switch ∈ [none, some .made]) :
    let s := state fun p =>
      { p with
        sense.home := switch, sense.homePin := { level := some .released }, sense.flap := switch
        sense.flapPin := { level := some .released } }
    let p := s.later 9999
    p.sense.homePin.quiet p.clock.now 10000 p.sense.home ∧ p.sense.flapPin.quiet p.clock.now 10000 p.sense.flap ∧
      ¬p.sense.homePin.stood p.clock.now 10000 .made ∧ ¬p.sense.flapPin.stood p.clock.now 10000 .released ∧
      (s.later 10000).sense.homePin.earned 10000 10000 switch .released ∧
      (s.later 10000).sense.flapPin.earned 10000 10000 switch .released := by
  revert switch; decide +kernel

/-- Each input 1 µs before its time since the reset's end, and at a level other than the one told; each change that the
tick takes; the beam at 5 s and at 2 s. -/
theorem witness_InputsAreCountedAndFiltered_pins :
    ¬(State.reset.later 99999).sense.doorPin.stood (State.reset.later 99999).clock.now 100000 .opened ∧
      ¬(State.reset.later 29999).sense.waterPin.stood (State.reset.later 29999).clock.now 30000 .pressed ∧
      ¬(State.reset.later 29999).sense.icePin.stood (State.reset.later 29999).clock.now 30000 .released ∧
      ¬(State.reset.later 9999).sense.homePin.stood (State.reset.later 9999).clock.now 10000 .made ∧
      ¬(State.reset.later 9999).sense.flapPin.stood (State.reset.later 9999).clock.now 10000 .released ∧
      ¬(State.reset.later 4999999).sense.beamPin.stood (State.reset.later 4999999).clock.now 5000000 .blocked ∧
      (State.reset.later 5000000).sense.beamPin.stood (State.reset.later 5000000).clock.now 5000000 .blocked ∧
      ¬(State.reset.later 1999999).sense.beamPin.stood (State.reset.later 1999999).clock.now 2000000 .clear ∧
      (State.reset.later 2000000).sense.beamPin.stood (State.reset.later 2000000).clock.now 2000000 .clear ∧
      ¬((state (Part.tellBeam .clear)).later 9000000).sense.beamPin.stood 9000000 5000000 .blocked ∧
      (let p := ({ rested Part.reset with sense.doorPin := { level := some .opened } } : Part).elapse 100000
       p.sense.doorPin.level = some .opened ∧ p.sense.doorPin.since + 100000 ≤ p.clock.now ∧
         p.sense.door = some .closed) ∧
      (let p := ({ Part.reset with sense.doorPin := { level := some .opened } } : Part).elapse 100000
       p.sense.door = none ∧ p.sense.doorPin.since + 100000 ≤ p.clock.now) ∧
      (let p := ({ rested Part.reset with sense.waterPin := { level := some .pressed } } : Part).elapse 30000
       p.sense.waterPin.level = some .pressed ∧ p.sense.waterPin.since + 30000 ≤ p.clock.now ∧
         p.sense.waterPaddle = some .released) ∧
      (let p := ({ rested Part.reset with sense.homePin := { level := some .released } } : Part).elapse 10000
       p.sense.homePin.since + 10000 ≤ p.clock.now ∧ p.sense.home.isSome = true ∧ p.sense.home ≠ some .released) ∧
      (let p := ({ Part.reset with sense.beamPin := { level := some .blocked } } : Part).elapse 5000000
       p.sense.beamPin.level = some .blocked ∧ p.sense.beamPin.since + 5000000 ≤ p.clock.now ∧
         p.sense.beam = .notFull) := by decide +kernel

/-- Every switch at its time, in each reading before: what the tick takes it by. -/
theorem witness_InputsAreCountedAndFiltered_tick :
    (∀ c ∈ [(none, Door.opened, Instr.switchFirstReading 0 (.door .opened)),
        (none, .closed, .switchFirstReading 0 (.door .closed)), (some .closed, .opened, .doorOpening 0),
        (some .opened, .closed, .doorClosing 0)],
      let p := ({ Part.reset with sense.door := c.1, sense.doorPin := { level := some c.2.1 } } : Part).elapse 100000
      p.sense.door = c.1 ∧ p.sense.doorPin.level = some c.2.1 ∧ p.sense.doorPin.since + 100000 ≤ p.clock.now ∧
        c.2.2 ∈ p.dueEvents) ∧
      (∀ c ∈ [(none, PaddleState.pressed, fun w => Instr.switchFirstReading 0 (.paddle w .pressed)),
          (none, .released, fun w => .switchFirstReading 0 (.paddle w .released)),
          (some .released, .pressed, .paddlePress 0), (some .pressed, .released, .paddleRelease 0)],
        let p := ({ Part.reset with
          sense.waterPaddle := c.1, sense.waterPin := { level := some c.2.1 }, sense.icePaddle := c.1
          sense.icePin := { level := some c.2.1 } } : Part).elapse 30000
        p.sense.waterPaddle = c.1 ∧ p.sense.waterPin.level = some c.2.1 ∧
          p.sense.waterPin.since + 30000 ≤ p.clock.now ∧ p.sense.icePaddle = c.1 ∧
          p.sense.icePin.level = some c.2.1 ∧ p.sense.icePin.since + 30000 ≤ p.clock.now ∧
          c.2.2 .water ∈ p.dueEvents ∧ c.2.2 .ice ∈ p.dueEvents) ∧
      ∀ c ∈ [(none, Contact.made), (none, .released), (some .released, .made), (some .made, .released)],
        let p := ({ Part.reset with
          sense.home := c.1, sense.homePin := { level := some c.2 }, sense.flap := c.1
          sense.flapPin := { level := some c.2 } } : Part).elapse 10000
        p.sense.homePin.level = some c.2 ∧ p.sense.homePin.since + 10000 ≤ p.clock.now ∧ p.sense.home = c.1 ∧
          p.sense.flapPin.level = some c.2 ∧ p.sense.flapPin.since + 10000 ≤ p.clock.now ∧ p.sense.flap = c.1 ∧
          (c.1 = none ∨ c.1.isSome = true ∧ c.1 ≠ some c.2) := by decide +kernel

/-- The beam told blocked while NOT FULL, and clear while FULL: 1 µs before its time, and at it. -/
theorem witness_InputsAreCountedAndFiltered_beam :
    ∀ b ∈ [(BeamLevel.blocked, BeamFilter.notFull, 5000000), (.clear, .full, 2000000)],
      let s := state fun p => { p with sense.beamPin := { level := some b.1 }, sense.beam := b.2.1 }
      (∀ w ∈ (s.later (b.2.2 - 1)).sense.beamPin.level,
        (s.later (b.2.2 - 1)).sense.beam ≠ (if w = .blocked then .full else .notFull) →
        (s.later (b.2.2 - 1)).clock.now <
          (s.later (b.2.2 - 1)).sense.beamPin.since + (if w = .blocked then 5000000 else 2000000)) ∧
        ¬(s.later (b.2.2 - 1)).sense.beamPin.stood (b.2.2 - 1) b.2.2 b.1 ∧
        (s.later b.2.2).sense.beamPin.level = some b.1 ∧
        (s.later b.2.2).sense.beam ≠ (if b.1 = .blocked then .full else .notFull) ∧
        (s.later b.2.2).sense.beamPin.since + (if b.1 = .blocked then 5000000 else 2000000) ≤
          (s.later b.2.2).clock.now := by decide +kernel

/-- The beam in its state and out of it; a flow pulse 2 s old and 1 µs less; the auger running and not. -/
theorem witness_InputsAreCountedAndFiltered :
    State.reset.part.resetting = none ∧ (State.reset.later 0).sense.beam = .notFull ∧
      (State.reset.later 0).sense.beam ≠ .full ∧
      (let s := state fun p => { p with sense.lastFlow := some 0, outlet.augerForward := true }
       (s.later 2000000).sense.lastFlow = some 0 ∧ 0 + 2000000 ≤ (s.later 2000000).clock.now ∧
         ¬0 + 2000000 ≤ (s.later 1999999).clock.now ∧ (s.later 0).outlet.augerForward = true) ∧
      (State.reset.later 0).sense.lastFlow = none ∧ (State.reset.later 0).outlet.augerForward = false := by
  decide +kernel

theorem witness_LoadsAreConfigured :
    State.reset.linkIdle ∧ 4 < (5 : Byte).toNat ∧ (4 : Byte).toNat = (4 : HeaterNo).val ∧
      (let s := state fun p => { p with supervision.lock := true }
       s.linkIdle ∧ (s.heard (.setLoad 0 0 [])).supervision.lock = true) ∧
      (State.reset.heard (.setLoad 0 0 [])).supervision.params.heaterBudget < 305 ∧
      (List.replicate 16 (5 : Byte)).length = 16 ∧ (∃ b ∈ List.replicate 16 (5 : Byte), 5 ≤ b.toNat ∧ b ≠ 0xFF) ∧
      List.replicate 16 (0xFF : Byte) =
        ((Vector.replicate 16 (none : Option HeaterNo)).toList.map fun e =>
          match e with
          | none => 0xFF
          | some h => byte h.val) := by decide +kernel

theorem witness_SecondsBeginSlots :
    State.reset.part.resetting = none ∧ (State.reset.later 0).clock.partSeconds < 4294967295 ∧
      (after (.partSecondsAdvance 0) (state (Part.raiseOwner 0))).loads.heaters[(0 : HeaterNo)].grant = true := by
  decide +kernel

/-- A demanded heater with P and D as they were, changed, with D at 0, at P and above it, and where the accumulator and D
come to P and to one less. -/
theorem witness_SecondsBeginSlots_patterns :
    ∀ c ∈ [((⟨10, 4, 1⟩, ⟨10, 4, 1⟩, 3, true) : HeaterConfig × HeaterConfig × Nat × Bool), (⟨10, 4, 1⟩, ⟨10, 4, 1⟩, 2, false),
        (⟨20, 4, 1⟩, ⟨10, 4, 1⟩, 2, false), (⟨10, 4, 1⟩, ⟨10, 5, 1⟩, 0, true), (⟨10, 4, 1⟩, ⟨10, 4, 2⟩, 0, true),
        (⟨10, 4, 0⟩, ⟨10, 4, 1⟩, 0, false), (⟨10, 4, 0⟩, ⟨10, 4, 0⟩, 2, false), (⟨10, 4, 4⟩, ⟨10, 4, 1⟩, 0, true),
        (⟨10, 4, 5⟩, ⟨10, 4, 5⟩, 0, true)],
      let s := state fun p =>
        { p with
          loads.heaters :=
            p.loads.heaters.set 1 { Heater.fresh c.1 c.2.1 with ownerDemand := true, acc := c.2.2.1 } }
      let q := after (.partSecondsAdvance 0) s
      q.loads.heaters[(1 : HeaterNo)].demanded = true ∧ q.loads.heaters[(1 : HeaterNo)].onSlot = c.2.2.2 := by
  decide +kernel

/-- Frost seconds of 58 and 59, a credit at its target, one less and at 65,535; a demanded heater granted and denied, with a
cycle, with tickets in the slots; a heater test at its seconds and before. -/
theorem witness_SecondsBeginSlots_counts :
    (∀ n ∈ [58, 59],
      let s := state fun p =>
        { rested p with defrost.compressorRunning := true, defrost.compressorSeconds := n, sense.door := some .opened,
                        defrost.doorSeconds := n }
      (s.later 0).defrost.state = .accruing ∧ (s.later 0).defrost.compressorRunning = true ∧
        (s.later 0).sense.door = some .opened ∧ (60 ≤ (s.later 0).defrost.compressorSeconds + 1 ↔ n = 59) ∧
        (60 ≤ (s.later 0).defrost.doorSeconds + 1 ↔ n = 59)) ∧
      (∀ c ∈ [479, 480, 65535],
        let s := state fun p => { p with defrost.credit := c }
        (s.later 0).defrost.credit ≤ 65535 ∧ ((s.later 0).defrost.target ≤ (s.later 0).defrost.credit ↔ c ≠ 479)) ∧
      (let s := state fun p => ((defrosting .heating cycle0 p).raiseOwner 0).raiseOwner 2
       let q := after (.partSecondsAdvance 0) s
       q.loads.heaters[(0 : HeaterNo)].grant = true ∧ q.loads.heaters[(2 : HeaterNo)].grant = false ∧
         q.loads.heaters[(2 : HeaterNo)].demanded = true ∧ q.loads.heaters[(2 : HeaterNo)].onSlot = true ∧
         (s.later 0).defrost.cycle = some cycle0 ∧ (s.later 0).pool.serviceSlot = none ∧
         (s.later 0).pool.defrostSlot = some 1 ∧ (s.later 0).pool.iceSlot ≠ some 1) ∧
      (∀ h ∈ [(2 : HeaterNo), 3],
       let s := state fun p =>
         Part.raiseOwner h { hold 2 (active .harvest .iceMaker) p with pool.iceSlot := some 2 }
       (s.later 0).pool.iceSlot = some 2 ∧ (s.later 0).pool.defrostSlot ≠ some 2 ∧
         (s.later 0).loads.heaters[h].ownerDemand = true ∧
         (s.later 0).loads.heaters[(if h = 2 then 3 else 2 : HeaterNo)].ownerDemand = false) ∧
      (∀ k ∈ [4, 5],
       let s := state fun p =>
         { hold 3 (active .loadTest .link { load := some (.heater 1), seconds := some 5 }) p with
           pool.serviceSlot := some 3, loads.testSlots := k }
       (s.later 0).pool.serviceSlot = some 3 ∧ (s.later 0).pool.iceSlot ≠ some 3 ∧
         (s.later 0).pool.defrostSlot ≠ some 3 ∧ ((s.later 0).ticket 3).origin = some .link ∧
         ((s.later 0).ticket 3).kind = some .loadTest ∧ ((s.later 0).ticket 3).request.load = some (.heater 1) ∧
         (((s.later 0).ticket 3).request.seconds = some (s.later 0).loads.testSlots ↔ k = 5)) := by decide +kernel

theorem witness_PatternsDemandsAndTrials :
    (let l : Loads := { Part.reset.loads with
        heaters := Part.reset.loads.heaters.map fun h : Heater => { h with ownerDemand := true, onSlot := true } }
     l.heaters[(0 : HeaterNo)].candidate = true ∧ l.rotation[l.slot] = some 0 ∧
       l.heaters[(0 : HeaterNo)].inForce.watts ≤ l.budgetInForce) ∧
      (let l : Loads := { Part.reset.loads with
          heaters := Part.reset.loads.heaters.map fun h : Heater =>
            { h with ownerDemand := true, onSlot := true, inForce := ⟨0, 1, 1⟩ } }
       l.heaters[(1 : HeaterNo)].candidate = true ∧ l.heaters[(1 : HeaterNo)].inForce.watts = 0) ∧
      (∀ d ∈ [0, 1, 16], (Heater.fresh ⟨10, 16, d⟩ ⟨10, 16, d⟩).raiseOwner.demanded = true ∧
        1 ≤ (Heater.fresh ⟨10, 16, d⟩ ⟨10, 16, d⟩).raiseOwner.inForce.period ∧
        (Heater.fresh ⟨10, 16, d⟩ ⟨10, 16, d⟩).raiseOwner.inForce.duty ≤ 16 ∧
        (Heater.fresh ⟨10, 16, d⟩ ⟨10, 16, d⟩).raiseOwner.acc = 15) ∧
      (let h := Heater.fresh ⟨10, 8, 3⟩ ⟨10, 8, 3⟩
       h.ownerDemand = false ∧ h.testDemand = false ∧ h.raiseOwner.ownerDemand = true ∧ h.raiseOwner.testDemand = false ∧
         h.raiseTest.testDemand = true ∧ h.raiseTest.raiseOwner.ownerDemand = true ∧
         h.raiseTest.raiseOwner.testDemand = true) := by decide +kernel

/-- The entry names H3; then H0 fits, H1 is denied, and the trial goes on past it to H2. -/
theorem witness_PatternsDemandsAndTrials_order :
    (let heater (w : Nat) : Heater := { Heater.fresh ⟨w, 1, 1⟩ ⟨w, 1, 1⟩ with ownerDemand := true, onSlot := true }
     let l : Loads := { Part.reset.loads with
       heaters := #v[heater 80, heater 100, heater 40, heater 150, Heater.fresh ⟨10, 1, 1⟩ ⟨10, 1, 1⟩]
       rotation := Vector.replicate 16 (some 3) }
     l.budgetInForce = 300 ∧ l.rotation[l.slot] = some 3 ∧ l.heaters[(1 : HeaterNo)].demanded = true ∧
       l.heaters[(1 : HeaterNo)].onSlot = true ∧ l.granted = [3, 0, 2]) := by decide +kernel

/-- A free count at each threshold and one less; a retirable record and a LINK one. -/
theorem witness_TicketsAreDrawnAndEnded :
    (let p := { Part.reset with pool.free := [0, 1, 2, 3] }
     4 ≤ p.pool.free.length ∧ p.pool.free = 0 :: [1, 2, 3] ∧ p.iceWants = none ∧ (0 : TicketNo) ∉ p.pool.completion) ∧
      ({ Part.reset with pool.free := [0, 1, 2] } : Part).pool.free.length < 4 ∧
      ({ Part.reset with pool.free := [] } : Part).pool.free.length < 1 ∧
      (let p := hold 5 { queued .harvest .iceMaker with state := .done }
        (hold 6 { queued .flush .link with state := .done }
          { Part.reset with pool.free := [0], pool.completion := [6, 5] })
       p.pool.free.length < 4 ∧ (6 : TicketNo) ∈ p.pool.completion ∧ (p.ticket 6).origin = some .link) := by
  decide +kernel

/-- With one free, auto-retire takes the three oldest records of the three origins, in queue order; a draw does the same; with
four free, and with a LINK record alone, it takes none. -/
theorem witness_TicketsAreDrawnAndEnded_retired :
    (let p := hold 5 { queued .harvest .iceMaker with state := .done } (hold 6 { queued .flush .link with state := .done }
        (hold 7 { queued .defrostCycle .defrost with state := .done } (hold 8 { queued .iceHold .paddle with state := .done }
          (hold 9 { queued .waterHold .paddle with state := .done } Part.reset))))
     (let q := { p with pool.free := [0], pool.completion := [8, 6, 5, 7, 9] }
      q.pool.completion.Nodup ∧ q.autoRetire.pool.free = [0, 8, 5, 7] ∧ q.autoRetire.pool.completion = [6, 9]) ∧
       (let q := { p with pool.free := [0, 1, 2, 3], pool.completion := [8, 6, 5] }
        q.pool.free = 0 :: [1, 2, 3] ∧ (0 : TicketNo) ∉ q.pool.completion ∧ q.pool.completion.Nodup ∧
          (q.draw .flush .link none {}).2.pool.free = [1, 2, 3, 8] ∧ q.autoRetire = q) ∧
       (let q := { p with pool.free := [0], pool.completion := [6] }
        q.pool.completion.Nodup ∧ q.autoRetire = q)) := by decide +kernel

/-- A checkpoint. -/
inductive Checkpoint10 where
  | passed

/-- A request that R18 refuses, and for each case of R19 and R20 a request and a state that come to it. -/
theorem witness_SubmitPlacesALinkTicket :
    State.reset.linkIdle ∧ submitRequest [9, 0, 0, 0, 0, 0, 0, 0] = none ∧
      submitRequest [2, 0, 0, 0, 0, 0, 0, 0] = some (.waterHold, {}) ∧
      submitRequest [6, 12, 0, 0, 0, 0, 4, 60] = some (.loadTest, { load := some (.heater 4), seconds := some 60 }) ∧
      submitRequest [6, 4, 0, 0, 0, 0, 5, 0] = some (.loadTest, { load := some .ejector }) ∧
      (state fun p => { p with line.leakLatch := true }).linkIdle ∧
      (state fun p => { p with pool.serviceSlot := some 0 }).linkIdle ∧
      7 ≤ (List.replicate 7 (0 : TicketNo)).length ∧ ([0, 1, 2] : List TicketNo).length < 4 ∧
      (State.reset.heard (.submit 0 0 [])).pool.free = 0 :: (State.reset.part.pool.free.tail) ∧
      (0 : TicketNo) ∉ (State.reset.heard (.submit 0 0 [])).pool.completion ∧
      (state (icing .parked)).part.ice.state = .parked := by decide +kernel

/-- The field checks of R18 at the ends of their ranges: the statement's reading of them and the model's agree, on valid
fields and on fields one beyond. -/
theorem witness_SubmitPlacesALinkTicket_fields :
    (∀ f ∈ ([[1, 1, 0, 10, 0, 7, 0, 0], [1, 1, 0x0F, 0xA0, 0, 0, 0, 0], [2, 0, 0, 0, 0, 4, 0, 0], [3, 3, 0, 1, 0, 3, 0, 0],
        [3, 3, 0, 200, 1, 0, 0, 0], [4, 2, 0, 0, 1, 1, 0, 0], [5, 1, 0, 10, 0, 0, 0, 0], [6, 12, 0, 0, 0, 0, 0, 1],
        [6, 12, 0, 0, 0, 0, 7, 60], [6, 4, 0, 0, 0, 0, 5, 0]] : List (List Byte)),
      submitValid f = true ∧ (submitRequest f).isSome = true) ∧
      (∀ f ∈ ([[0, 0, 0, 0, 0, 0, 0, 0], [7, 0, 0, 0, 0, 0, 0, 0], [1, 1, 0, 9, 0, 0, 0, 0], [1, 1, 0x0F, 0xA1, 0, 0, 0, 0],
          [1, 0, 0, 10, 0, 0, 0, 0], [2, 1, 0, 10, 0, 0, 0, 0], [2, 16, 0, 0, 0, 0, 0, 0], [2, 0, 0, 0, 0, 8, 0, 0],
          [3, 3, 0, 0, 0, 0, 0, 0], [3, 3, 0, 201, 0, 0, 0, 0], [3, 3, 0, 1, 2, 0, 0, 0], [4, 0, 0, 0, 0, 0, 0, 0],
          [4, 2, 0, 0, 0, 4, 0, 0], [6, 12, 0, 0, 0, 0, 8, 1], [6, 12, 0, 0, 0, 0, 0, 0], [6, 12, 0, 0, 0, 0, 0, 61],
          [6, 12, 0, 0, 0, 0, 5, 1], [6, 4, 0, 0, 0, 0, 0, 0], [6, 12, 0, 0, 0, 1, 0, 1]] :
          List (List Byte)),
        submitValid f = false ∧ submitRequest f = none) := by decide +kernel

/-- A number above 23; tickets that are FREE, of the ice maker, STOPPING, behind the head, at the head of a running outlet,
and in the service slot. -/
theorem witness_CancelStopsATicket :
    State.reset.linkIdle ∧ 23 < (24 : Byte).toNat ∧ (23 : Byte).toNat = (23 : TicketNo).val ∧
      (State.reset.part.ticket 23).state = .free ∧
      ((hold 3 (queued .moldFill .iceMaker) Part.reset).ticket 3).origin = some .iceMaker ∧
      ((hold 3 (queued .flush .link).stopping Part.reset).ticket 3).state = .stopping ∧
      (let s := state fun p => { hold 3 (queued .flush .link) p with pool.queue := [2, 3] }
       s.linkIdle ∧ (s.part.ticket 3).state = .queued ∧ (3 : TicketNo) ∈ s.part.pool.queue ∧
         s.part.pool.queue.head? ≠ some 3) ∧
      (let s := state (running {})
       s.linkIdle ∧ s.part.pool.queue.head? = some 0 ∧ s.part.outlet.state ≠ .idle ∧
         (s.part.ticket 0).state = .active) ∧
      (let s := state fun p =>
        { hold 4 (active .loadTest .link { load := some (.heater 1) }) p with pool.serviceSlot := some 4 }
       (4 : TicketNo) ∉ s.part.pool.queue ∧ s.part.pool.serviceSlot = some 4 ∧
         (s.part.ticket 4).kind = some .loadTest) := by decide +kernel

/-- A head at work in every stage: a water head in LINE_WAIT and on the line OPEN and HELD, an opening, an ice head, an auger
and a chute test; a paddle's ticket with 4 free; an ejector test with its switch told MADE for 10 ms and for less, and
never told. -/
theorem witness_CancelStopsATicket_stages :
    (let s := state fun p => { withHead (queued .waterHold .link) p with outlet.state := .lineWait, line.dispenseClaim := some 0 }
     s.linkIdle ∧ s.part.pool.queue.head? = some 0 ∧ s.part.outlet.state = .lineWait ∧
       (s.part.ticket 0).origin = some .link) ∧
      (let s := state fun p => { withHead (active .iceHold .paddle) p with outlet.state := .opening }
       s.linkIdle ∧ s.part.outlet.state = .opening ∧ (s.part.ticket 0).origin = some .paddle ∧
         4 ≤ (s.heard (.cancel 0 0 [0])).pool.free.length) ∧
      (∀ o ∈ [(OutletState.running, LineState.opened), (.paused, .held)],
        let s := state fun p =>
          { withLine .dispense (work 0 none) (withHead (active .waterHold .link) p) with
            outlet.state := o.1, line.state := o.2 }
        s.linkIdle ∧ s.part.outlet.state = o.1 ∧ (s.heard (.cancel 0 0 [0])).line.state = o.2 ∧
          (s.part.ticket 0).kind = some .waterHold ∧ (s.heard (.cancel 0 0 [0])).line.owner = some .dispense) ∧
      (∀ l ∈ [Load.auger, .chute],
        let s := state fun p =>
          { withHead (active .loadTest .link { load := some l, seconds := some 3 }) p with outlet.state := .running }
        s.linkIdle ∧ s.part.outlet.state = .running ∧ (s.part.ticket 0).kind = some .loadTest ∧
          (s.part.ticket 0).request.load = some l ∧ (s.part.ticket 0).state = .active) ∧
      (∀ pin ∈ [({} : Pin Contact), { level := some .made }, { level := some .made, since := 40001 }],
        let s := state fun p =>
          { hold 4 (active .loadTest .link { load := some .ejector }) (icing .parked p) with
            pool.serviceSlot := some 4, ice.testFrom := some 7, sense.homePin := pin, sense.home := some .released }
        s.linkIdle ∧ (s.part.ticket 4).origin = some .link ∧ (4 : TicketNo) ∉ s.part.pool.queue ∧
          s.part.pool.serviceSlot = some 4 ∧ (s.part.ticket 4).request.load = some .ejector ∧
          s.part.ice.testFrom = some 7) := by decide +kernel

/-- An ejector test that leaves home, that comes back, and at each of its deadlines. -/
theorem witness_CancelStopsATicket_ejectorTest :
    (∀ h ∈ [(Contact.made, Contact.released), (.released, .made)],
      let s := state fun p =>
        { hold 4 (active .loadTest .link { load := some .ejector }) (icing .parked p) with
          pool.serviceSlot := some 4, ice.testFrom := some 0, ice.returnDeadline := some 12000000,
          ice.leaveDeadline := some 2000000, ice.leftHome := true, sense.home := some h.1 }
      s.part.resetting = none ∧ s.part.ice.state = .parked ∧ (s.later 10000).pool.serviceSlot = some 4 ∧
        ((s.later 10000).ticket 4).request.load = some .ejector ∧ ((s.later 10000).ticket 4).origin = some .link ∧
        (s.later 10000).ice.testFrom = some 0 ∧ (s.later 10000).ice.returnDeadline.isSome = true ∧
        (s.later 10000).sense.home = some h.1 ∧ (s.later 10000).sense.homePin.stood 10000 10000 h.2 ∧
        (s.later 10000).clock.now = 10000 ∧ (s.later 10000).ice.leftHome = true ∧ (s.later 10000).ice.attempts = 0 ∧
        2000000 ≤ (s.later 2000000).clock.now ∧ (s.later 2000000).ice.leaveDeadline = some 2000000 ∧
        12000000 ≤ (s.later 12000000).clock.now ∧ (s.later 12000000).ice.returnDeadline = some 12000000) := by
  decide +kernel

theorem witness_FetchTakesTheOldest :
    State.reset.linkIdle ∧ (0 : Byte).toNat < 1 ∧ 3 < (4 : Byte).toNat ∧ 1 ≤ (1 : Byte).toNat ∧ (3 : Byte).toNat ≤ 3 ∧
      (let s := state fun p => { p with pool.completion := [5, 6] }
       s.linkIdle ∧ (s.heard (.fetch 0 0 [1])).pool.completion.Nodup) := by decide +kernel

/-- The records of a WATER_HOLD with and without a tank temperature and of a heater test, byte by byte (Table 9-8). -/
theorem test_completionRecord :
    (let t : Ticket :=
       { state := .done, kind := some .waterHold, origin := some .link, tag := some 0x2A
         progress := { paddleStarted := true, measured := 300, startTime := some 5, endTime := some 66051,
                       outcome := some .released, tankTemp := some (-2) } }
     t.completionRecord 23 =
       [23, 2, 0, 0x2A, 1, 3, 0, 0, 1, 44, 0, 0, 0, 5, 0, 1, 2, 3, 0xFF, 0xFE] ∧
       ({ t with progress := {}, tag := none } : Ticket).completionRecord 0 =
         [0, 2, 0, 0, 0xFF, 0, 0, 0, 0, 0, 0xFF, 0xFF, 0xFF, 0xFF, 0xFF, 0xFF, 0xFF, 0xFF, 0x80, 0]) ∧
      (let t : Ticket :=
        { state := .done, kind := some .loadTest, origin := some .link, tag := some 1
          request := { load := some (.heater 4), seconds := some 60 }
          progress := { measured := 58, denied := 258, startTime := some 1, endTime := some 61, outcome := some .complete } }
      t.completionRecord 1 = [1, 6, 0, 1, 0, 1, 0, 60, 0, 58, 0, 0, 0, 1, 0, 0, 0, 61, 1, 2]) := by decide +kernel

/-- TICKET_INFO's bytes of a ticket in each slot (log 15), at the head and the tail of a full dispenser queue, and at the
oldest and the newest place of a full completion queue: number, kind, origin, tag, state, place and position. -/
theorem test_ticketInfo_places :
    (let s := state fun p => hold 5 (active .moldFill .iceMaker) { p with pool.iceSlot := some 5 }
     (s.part.ticketInfo 5).take 7 = [5, 7, 2, 7, 2, 1, 0xFF]) ∧
      (let s := state fun p => hold 5 (active .defrostCycle .defrost) { p with pool.defrostSlot := some 5 }
       (s.part.ticketInfo 5).take 7 = [5, 9, 3, 7, 2, 2, 0xFF]) ∧
      (let s := state fun p => hold 5 (active .loadTest .link) { p with pool.serviceSlot := some 5 }
       (s.part.ticketInfo 5).take 7 = [5, 6, 0, 7, 2, 3, 0xFF]) ∧
      (let s := state fun p =>
        hold 16 (queued .waterHold .link) (hold 23 (queued .iceHold .paddle)
          { p with pool.queue := [16, 17, 18, 19, 20, 21, 22, 23] })
       (s.part.ticketInfo 16).take 7 = [16, 2, 0, 7, 1, 0, 1] ∧
         (s.part.ticketInfo 23).take 7 = [23, 4, 1, 7, 1, 0, 8]) ∧
      (let t : Ticket := { active .icePortion .link with state := .done }
       let s := state fun p => hold 0 t (hold 23 t { p with pool.completion := List.finRange 24 })
       (s.part.ticketInfo 0).take 7 = [0, 3, 0, 7, 4, 4, 1] ∧
         (s.part.ticketInfo 23).take 7 = [23, 3, 0, 7, 4, 4, 24]) := by decide +kernel

/-- The number 23 and above; a FREE ticket; the clear flag set and clear. -/
theorem witness_PoolIsShown :
    State.reset.linkIdle ∧ 23 < (24 : Byte).toNat ∧ (23 : Byte).toNat = (23 : TicketNo).val ∧
      ((State.reset.heard (.ticketInfo 0 0 [23])).ticket 23).state = .free ∧ (1 : Byte).getLsbD 0 = true ∧
      (0 : Byte).getLsbD 0 = false := by decide +kernel

/-- The head and the tail of a full dispenser queue. -/
theorem witness_PoolIsShown_queue :
    ∀ n ∈ [(16 : TicketNo), 23],
      let s := state fun p =>
        hold n (queued .waterPortion .link { amount := some 10 })
          { p with pool.queue := [16, 17, 18, 19, 20, 21, 22, 23] }
      let q := s.heard (.ticketInfo 0 0 [byte n.val])
      s.linkIdle ∧ (byte n.val).toNat = n.val ∧ (q.ticket n).state ≠ .free ∧ (q.ticket n).request.amount = some 10 ∧
        n ∈ q.pool.queue ∧ q.pool.queue.idxOf n + 1 = (if n = 16 then 1 else 8) := by decide +kernel

/-- Each slot. -/
theorem witness_PoolIsShown_slots :
    (let s := state fun p => hold 5 (active .moldFill .iceMaker) { p with pool.iceSlot := some 5 }
       let q := s.heard (.ticketInfo 0 0 [5])
       s.linkIdle ∧ (q.ticket 5).state ≠ .free ∧ (q.ticket 5).request.amount = none ∧ (5 : TicketNo) ∉ q.pool.queue ∧
         q.pool.iceSlot = some 5) ∧
      (let s := state fun p => hold 5 (active .defrostCycle .defrost) { p with pool.defrostSlot := some 5 }
       let q := s.heard (.ticketInfo 0 0 [5])
       s.linkIdle ∧ (q.ticket 5).state ≠ .free ∧ (5 : TicketNo) ∉ q.pool.queue ∧ q.pool.iceSlot ≠ some 5 ∧
         q.pool.defrostSlot = some 5) ∧
      (let s := state fun p => hold 5 (active .loadTest .link) { p with pool.serviceSlot := some 5 }
       let q := s.heard (.ticketInfo 0 0 [5])
       s.linkIdle ∧ (q.ticket 5).state ≠ .free ∧ (5 : TicketNo) ∉ q.pool.queue ∧ q.pool.iceSlot ≠ some 5 ∧
         q.pool.defrostSlot ≠ some 5 ∧ q.pool.serviceSlot = some 5) := by decide +kernel

/-- The oldest and the newest place of a full completion queue. -/
theorem witness_PoolIsShown_completion :
    ∀ n ∈ [(0 : TicketNo), 23],
      let s := state fun p =>
        hold n { active .icePortion .link with state := .done } { p with pool.completion := List.finRange 24 }
      let q := s.heard (.ticketInfo 0 0 [byte n.val])
      s.linkIdle ∧ (byte n.val).toNat = n.val ∧ (q.ticket n).state ≠ .free ∧ n ∉ q.pool.queue ∧
        q.pool.iceSlot ≠ some n ∧ q.pool.defrostSlot ≠ some n ∧ q.pool.serviceSlot ≠ some n ∧
        n ∈ q.pool.completion ∧ q.pool.completion.idxOf n + 1 = (if n = 0 then 1 else 24) := by decide +kernel

theorem witness_IceMakerDrawsWhenItCan :
    (let s := state fun p => { icing .fillWait p with pool.free := [0, 1, 2, 3] }
     s.part.resetting = none ∧ (s.later 0).pool.free = 0 :: [1, 2, 3] ∧ 4 ≤ (s.later 0).pool.free.length ∧
       (0 : TicketNo) ∉ (s.later 0).pool.completion ∧ (s.later 0).pool.iceSlot = none ∧
       (s.later 0).ice.state = .fillWait) ∧
      (let s := state fun p => { icing .harvestWait p with ice.stock := 239 }
       (s.later 0).ice.state = .harvestWait ∧ (s.later 0).sense.beam = .notFull ∧
         (s.later 0).ice.stock < (s.later 0).supervision.params.binCapacity ∧ (s.later 0).ice.defrostCopy ≠ .prep ∧
         (s.later 0).ice.defrostCopy ≠ .heating ∧ (s.later 0).ice.defrostCopy ≠ .dwell) := by decide +kernel

/-- A waiting fill claim, a suspended fill, neither; DRY_RETRY at its end, 1 µs before it, and with the line held. -/
theorem witness_LineFreesTheWaitingFill :
    (let s := state fun p => { p with line.fillClaim := some 0, line.leakLatch := true }
     s.linkIdle ∧ s.part.line.fillClaim = some 0 ∧ s.part.line.suspended = none ∧ s.part.line.state = .idle ∧
       s.part.line.supply = .ok) ∧
      (let s := state fun p => { p with line.suspended := some (work 9 (some 10)), line.leakLatch := true }
       s.linkIdle ∧ s.part.line.suspended = some (work 9 (some 10)) ∧ (work 9 (some 10)).target.any (· ≤ 9) = false) ∧
      (let s := state fun p => { p with line.dryRetry := some 7, line.supply := .dry, line.fillClaim := some 0 }
       s.part.resetting = none ∧ (s.later 6).line.dryRetry = some 7 ∧ (s.later 6).clock.now < 7 ∧
         7 ≤ (s.later 7).clock.now ∧ (s.later 7).line.state = .idle ∧ (s.later 7).line.leakLatch = false) ∧
      ((state (withLine .dispense (work 0 none))).later 0).line.state ≠ .idle := by decide +kernel

theorem witness_FilterTotalsAreReset :
    State.reset.linkIdle ∧ (State.reset.heard (.restoreTotals 0 0 [])).line.filterStatus ≠ .due ∧
      (State.reset.heard (.restoreTotals 0 0 [])).defrost.state = .accruing ∧
      (State.reset.heard (.restoreTotals 0 0 [])).defrost.target ≤ ((1 : Byte) ++ (0xE0 : Byte) : BitVec 16).toNat ∧
      filterStatusOf defaultParams 1500000 0 = .due := by decide +kernel

/-- OPEN below and at its target, HELD at its target, SETTLE with a closing work and with a suspended fill, IDLE. -/
theorem witness_FlowPulsesAreCredited :
    State.reset.part.resetting = none ∧
      ((State.reset.later 0).line.filterMl < 4000000000 ∧ (State.reset.later 0).supervision.params.flowK ≤ 5000 ∧
        (State.reset.later 0).line.filterRem < (State.reset.later 0).supervision.params.flowK) ∧
      (let p := (state (withLine .dispense (work 8 (some 10)))).later 0
       p.line.work = some (work 8 (some 10)) ∧ p.line.state = .opened ∧
         (work 8 (some 10)).target.any (· ≤ 8 + 1) = false) ∧
      (let p := (state fun p => { withLine .dispense (work 8 (some 10)) p with line.state := .held }).later 0
       p.line.work = some (work 8 (some 10)) ∧ p.line.state = .held ∧
         (work 8 (some 10)).target.any (· ≤ 8 + 1) = false) ∧
      (let p := (state fun p => { withLine .dispense (work 9 (some 10)) p with line.state := .held }).later 0
       p.line.owner = some .dispense ∧ p.line.state = .held ∧ (work 9 (some 10)).target.any (· ≤ 9 + 1) = true) ∧
      (let p := (state fun p =>
        { p with line := { p.line.toSettle 0 .fill (some .target) with work := some (work 10 (some 10)) } }).later 0
       p.line.work = some (work 10 (some 10)) ∧ p.line.state = .settle) ∧
      (let p := (state fun p =>
        { p with line := { p.line.toSettle 0 .fill none with suspended := some (work 10 none) } }).later 0
       p.line.work = none ∧ p.line.closingOwner = some .fill ∧ p.line.suspended = some (work 10 none)) ∧
      (State.reset.later 0).line.state = .idle ∧ (State.reset.later 0).line.leakLatch = false ∧
      ((state fun p => { p with line.leakLatch := true }).later 0).line.leakLatch = true := by decide +kernel

/-- The flow period at a pulse: none before, 2,000,000 µs and 1 µs more since the one before. -/
theorem witness_FlowPulsesAreCredited_period :
    (∀ dt ∈ [2000000, 2000001],
      let s := state fun p => { p with sense.lastFlow := some 0, sense.flowPeriod := some 9 }
      (s.later dt).sense.lastFlow = some 0 ∧ ((s.later dt).clock.now - 0 ≤ 2000000 ↔ dt = 2000000) ∧
        (after (.flowPulse dt) s).sense.flowPeriod = if dt = 2000000 then some 2000000 else none) ∧
      (State.reset.later 0).sense.lastFlow = none ∧ (after (.flowPulse 7) State.reset).sense.flowPeriod = none := by
  decide +kernel

theorem witness_GrantsOpenTheLine :
    (let s := state fun p => { rested p with line.dispenseClaim := some 0 }
     s.part.resetting = none ∧ (s.later 0).line.state = .idle ∧ (s.later 0).line.dispenseClaim = some 0 ∧
       (s.later 0).sense.door = some .closed) ∧
      ((state fun p => { rested p with sense.door := some .opened }).later 0).sense.door = some .opened ∧
      (let s := state fun p => { p with line.fillClaim := some 0 }
       (s.later 0).line.dispenseClaim = none ∧ (s.later 0).line.suspended = none ∧
         (s.later 0).line.fillClaim = some 0 ∧ (s.later 0).line.supply = .ok ∧ (s.later 0).line.leakLatch = false) ∧
      (let s := state fun p => { p with line.suspended := some (work 10 (some 10)) }
       s.part.resetting = none ∧ (s.later 0).line.suspended = some (work 10 (some 10)) ∧
         (work 10 (some 10)).target.any (· ≤ 10) = true ∧ (work 10 (some 11)).target.any (· ≤ 10) = false) := by
  decide +kernel

/-- The open time at 20 s and 1 µs less; no flow for 3 s and 1 µs less; a line out of OPEN. -/
theorem witness_LineLimitsCloseTheValves :
    (let s := state (withLine .fill (work 0 (some 240)))
     s.part.resetting = none ∧ (s.later 0).line.owner = some .fill ∧ (s.later 0).line.work = some (work 0 (some 240)) ∧
       (s.later 0).line.state = .opened ∧
       20 * 1000000 ≤ (work 0 (some 240)).openTime.read (s.later 20000000).clock.now ∧
       (work 0 (some 240)).openTime.read (s.later 19999999).clock.now < 20 * 1000000 ∧
       (work 0 (some 240)).noFlowFrom + 3 * 1000000 ≤ (s.later 3000000).clock.now ∧
       (s.later 2999999).clock.now < (work 0 (some 240)).noFlowFrom + 3 * 1000000) ∧
      ((state fun p => { withLine .dispense (work 0 none) p with line.state := .held }).later 0).line.state ≠ .opened := by
  decide +kernel

theorem witness_LineSettleEndsTheWork :
    (let s := state fun p =>
      { withHead (active .waterHold .link).stopping p with
        line := { p.line.toSettle 0 .dispense (some .timeout) with work := some (work 5 (some 4)) } }
     s.part.resetting = none ∧ (s.later 0).line.state = .settle ∧ (s.later 0).line.settleEnd = some 500000 ∧
       (s.later 499999).clock.now < 500000 ∧ 500000 ≤ (s.later 500000).clock.now ∧
       (s.later 0).line.closingOwner = some .dispense ∧ (s.later 0).line.work = some (work 5 (some 4)) ∧
       (s.later 0).line.ending = some .timeout ∧ (s.later 0).pool.queue = [(work 5 (some 4)).ticket] ∧
       ((s.later 0).ticket 0).origin = some .link ∧ (s.later 0).line.dispenseClaim = none ∧
       (s.later 0).line.fillClaim = none ∧ (s.later 0).line.suspended = none) := by decide +kernel

/-- The end of a fill, with half of its target delivered and one pulse less, alone and with a dispense claim that waits; a
SETTLE that closes no work, before a suspended fill below and at its target, a fill claim, a dispense claim, none, and
with the supply DRY. -/
theorem witness_LineSettleEndsTheWork_fills :
    (∀ k ∈ [119, 120], ∀ c ∈ [none, some (5 : TicketNo)], ∀ r ∈ [EndingReason.target, .timeout, .withdrawn, .release .parked],
      let s := state fun p =>
        hold 0 (active .moldFill .iceMaker).stopping
          { icing .filling (rested p) with
            line := { p.line.toSettle 0 .fill (some r) with work := some (work k (some 240)), dispenseClaim := c },
            outlet.state := .lineWait, pool.iceSlot := some 0, pool.queue := c.toList, sense.door := some .closed }
      s.part.resetting = none ∧ (s.later 500000).line.state = .settle ∧ (s.later 500000).line.settleEnd = some 500000 ∧
        500000 ≤ (s.later 500000).clock.now ∧ (s.later 500000).line.closingOwner = some .fill ∧
        (s.later 500000).line.work = some (work k (some 240)) ∧ (s.later 500000).line.ending = some r ∧
        (s.later 500000).pool.iceSlot = some (work k (some 240)).ticket ∧
        ((s.later 500000).ticket 0).origin = some .iceMaker ∧ 4 ≤ (s.later 500000).pool.free.length ∧
        (s.later 500000).line.fillClaim = none ∧ (s.later 500000).line.suspended = none ∧
        (s.later 500000).outlet.state ≠ .idle ∧ (s.later 500000).line.dispenseClaim = c ∧
        (s.later 500000).sense.door = some .closed ∧ (s.later 500000).defrost.credit ≤ 65535 ∧
        ((work k (some 240)).target.any (· ≤ 2 * (work k (some 240)).pulses) = true ↔ k = 120)) ∧
      (∀ w ∈ [work 9 (some 10), work 10 (some 10)],
        let s := state fun p =>
          { p with
            line := { p.line.toSettle 0 .fill none with suspended := some w }
            outlet.state := .opening }
        (s.later 500000).line.work = none ∧ (s.later 500000).outlet.state ≠ .idle ∧
          (s.later 500000).line.supply = .ok ∧ (s.later 500000).line.leakLatch = false ∧
          (s.later 500000).line.suspended = some w ∧ (s.later 500000).line.dispenseClaim = none) ∧
      (let s := state fun p =>
        { p with
          line := { p.line.toSettle 0 .fill none with fillClaim := some 3 }
          outlet.state := .opening }
       (s.later 500000).line.fillClaim = some 3 ∧ (s.later 500000).line.suspended = none) ∧
      (let s := state fun p => { p with line := { p.line.toSettle 0 .fill none with supply := .dry } }
       ¬((s.later 500000).line.supply = .ok ∧ (s.later 500000).line.leakLatch = false)) := by decide +kernel

/-- The ordinary end of a fill, with the outlet IDLE and no ticket in the queue, or one that waits for a press; a suspended fill
whose dispense claim was withdrawn. -/
theorem witness_LineSettleEndsTheWork_idle :
    (∀ q ∈ [([] : List TicketNo), [5]],
      let s := state fun p =>
        hold 0 (active .moldFill .iceMaker).stopping
          (hold 5 (queued .waterHold .link { awaitPaddle := true })
            { icing .filling (rested p) with
              line := { p.line.toSettle 0 .fill (some .target) with work := some (work 240 (some 240)) },
              pool.iceSlot := some 0, pool.queue := q })
      s.part.resetting = none ∧ (s.later 500000).outlet.state = .idle ∧ (s.later 500000).headReady none = false ∧
        (work 240 (some 240)).ticket ∉ (s.later 500000).pool.queue ∧ (s.later 500000).pool.iceSlot = some 0 ∧
        ((s.later 500000).ticket 0).origin = some .iceMaker ∧ 4 ≤ (s.later 500000).pool.free.length ∧
        (s.later 500000).line.dispenseClaim = none ∧ (after (.lineSettleEnd 500000) s).ice.state = .freezing ∧
        (after (.lineSettleEnd 500000) s).line.state = .idle) ∧
      (let s := state fun p => { rested p with line := { p.line.toSettle 0 .fill none with suspended := some (work 9 (some 10)) } }
       (s.later 500000).line.work = none ∧ (s.later 500000).outlet.state = .idle ∧
         (s.later 500000).headReady none = false ∧ (after (.lineSettleEnd 500000) s).line.state = .opened) := by
  decide +kernel

/-- A checkpoint. -/
inductive Checkpoint11 where
  | passed

/-- Every state of the ice maker, with and without a PARK pending, and the operands of the clauses on a fill. -/
theorem witness_IceControlJudgesByState :
    (∀ st ∈ [IceState.homing, .parked, .fillWait, .filling, .freezing, .harvestWait, .harvestHeat, .eject, .settle, .fault],
      (state (icing st)).linkIdle ∧ (state (icing st)).part.ice.state = st ∧
        (state (icing st)).part.ice.parkPending = false) ∧
      (state fun p => { p with ice.parkPending := true }).part.ice.parkPending = true ∧
      (let s := state fun p =>
        { hold 0 (queued .moldFill .iceMaker) (icing .fillWait p) with
          pool.iceSlot := some 0, pool.free := [1, 2, 3, 4], line.fillClaim := some 0 }
       s.part.pool.iceSlot = some 0 ∧ (s.part.ticket 0).origin = some .iceMaker ∧ 4 ≤ s.part.pool.free.length) ∧
      (let s := state fun p => withLine .fill (work 0 none) (icing .filling p)
       s.part.line.owner = some .fill ∧ s.part.line.state = .opened ∧ s.part.line.suspended = none) ∧
      (∀ k ∈ [119, 120],
        let s := state fun p =>
          { hold 0 (active .moldFill .iceMaker) (icing .filling p) with
            pool.iceSlot := some 0, line.suspended := some (work k (some 240)) }
        s.linkIdle ∧ s.part.line.suspended = some (work k (some 240)) ∧
          s.part.pool.iceSlot = some (work k (some 240)).ticket ∧ (s.part.ticket 0).origin = some .iceMaker ∧
          4 ≤ (s.heard (.iceControlPark 0 0)).pool.free.length ∧
          ((work k (some 240)).target.any (· ≤ 2 * k) = true ↔ k = 120)) ∧
      (let s := state fun p =>
        { icing .filling p with
          line := { p.line.toSettle 0 .fill (some .timeout) with work := some (work 5 (some 240)) } }
       s.linkIdle ∧ s.part.line.suspended = none ∧ (s.heard (.iceControlPark 0 0)).line.owner ≠ some .fill) ∧
      (state (icing .parked)).part.ejectorTest = none ∧
      (state fun p =>
        { hold 0 (active .loadTest .link { load := some .ejector }) (icing .parked p) with
          pool.serviceSlot := some 0 }).part.ejectorTest.isSome = true ∧
      (let s := state fun p => { icing .parked p with ice.offHome := true, sense.home := some .released }
       s.part.ice.offHome = true ∧ s.part.sense.home = some .released) ∧
      (state (icing .parked)).part.ice.moldLoaded = false ∧ (rested Part.reset).ice.moldLoaded = true ∧
      (rested Part.reset).sense.home = some .made ∧ State.reset.part.sense.home = none := by decide +kernel

theorem witness_HomingAndFreezeEnd :
    (let s := state fun p => { p with sense.home := some .released }
     s.part.resetting = none ∧ s.part.ice.state = .homing ∧ (s.later 0).ice.homingDeadline = some 12000000 ∧
       (s.later 0).sense.home = some .released ∧ (s.later 10000).sense.homePin.stood 10000 10000 .made ∧
       (s.later 10000).clock.now = 10000 ∧ (s.later 11999999).clock.now < 12000000 ∧
       12000000 ≤ (s.later 12000000).clock.now) ∧
      (let s := state fun p =>
        { rested p with clock := ⟨300000000, 1800⟩, ice.coldRunStart := some 0 }
       s.part.ice.state = .freezing ∧ (s.later 0).ice.freezeStart = some 0 ∧
         (s.later 0).sense.channels[mold].fault = false ∧ (s.later 0).ice.coldRunStart = some 0 ∧
         0 + 300 * 1000000 ≤ (s.later 0).clock.now ∧ 0 + 30 * 60 ≤ (s.later 0).clock.partSeconds ∧
         (s.later 0).clock.partSeconds < 0 + 2 * 30 * 60) ∧
      (let s := state fun p => { rested p with clock.partSeconds := 1799 }
       (s.later 0).clock.partSeconds < 0 + 30 * 60 ∧ (s.later 0).ice.coldRunStart = none) ∧
      (let s := state fun p =>
        { rested p with clock.partSeconds := 3600, sense.channels := p.sense.channels.set 2 { fault := true } }
       (s.later 0).sense.channels[mold].fault = true ∧ 0 + 2 * 30 * 60 ≤ (s.later 0).clock.partSeconds) := by
  decide +kernel

/-- The heat at its limit, whole and halved, and 1 µs before; an attempt's switch, deadlines and retry; SETTLE at 10 s. -/
theorem witness_HarvestHeatsEjectsAndSettles :
    (let s := state fun p => { icing .harvestHeat p with ice.heatFrom := some 0 }
     s.part.resetting = none ∧ s.part.ice.state = .harvestHeat ∧ (s.later 0).ice.heatFrom = some 0 ∧
       (s.later 239999999).clock.now < 0 + 240 * 1000000 ∧ 0 + 240 * 1000000 ≤ (s.later 240000000).clock.now ∧
       0 + 240 / 2 * 1000000 ≤ (s.later 120000000).clock.now) ∧
      (let s := state fun p =>
        { icing .eject p with
          ice.returnDeadline := some 9, ice.leaveDeadline := some 2, ice.leftHome := true, sense.home := some .released,
          pool.iceSlot := some 0, pool.free := [1, 2, 3, 4], ice.attempts := 1 }
       s.part.ice.state = .eject ∧ (s.later 0).sense.home = some .released ∧ (s.later 0).ice.returnDeadline = some 9 ∧
         (s.later 10000).sense.homePin.stood 10000 10000 .made ∧ (s.later 10000).sense.homePin.stood 10000 10000 .released ∧
       (s.later 10000).clock.now = 10000 ∧
       (s.later 0).ice.leftHome = true ∧ (s.later 0).pool.iceSlot = some 0 ∧ 4 ≤ (s.later 0).pool.free.length ∧
         2 ≤ (s.later 2).clock.now ∧ (s.later 0).ice.leaveDeadline = some 2 ∧ 9 ≤ (s.later 9).clock.now ∧
         (s.later 0).ice.attempts < 2) ∧
      (let s := state fun p =>
        { icing .eject p with sense.home := some .made, ice.attempts := 2, ice.retryEnd := some 4 }
       (s.later 0).sense.home = some .made ∧ 2 ≤ (s.later 0).ice.attempts ∧ (s.later 0).ice.retryEnd = some 4 ∧
         (s.later 3).clock.now < 4 ∧ 4 ≤ (s.later 4).clock.now) ∧
      (let s := state fun p => { icing .settle p with ice.settleEnd := some 10 }
       s.part.ice.state = .settle ∧ (s.later 0).ice.settleEnd = some 10 ∧ (s.later 9).clock.now < 10 ∧
         10 ≤ (s.later 10).clock.now) := by decide +kernel

/-- A water head on an IDLE line, on a fill's OPEN line, in a SETTLE, with the leak latch; an ice head with the flap CLOSED,
and with the chute-fault flag; the door not CLOSED. -/
theorem witness_HeadsStart :
    (let s := state fun p => withHead (queued .waterHold .link) (rested p)
     s.part.resetting = none ∧ (s.later 0).pool.queue = 0 :: [] ∧ (s.later 0).outlet.state = .idle ∧
       ((s.later 0).ticket 0).state = .queued ∧ ((s.later 0).ticket 0).request.awaitPaddle = false ∧
       (s.later 0).sense.door = some .closed ∧ ((s.later 0).ticket 0).kind = some .waterHold ∧
       ((s.later 0).ticket 0).request.coldOnly = false ∧ (s.later 0).line.leakLatch = false ∧
       (s.later 0).line.state = .idle ∧ ((s.later 0).ticket 0).origin = some .link) ∧
      (let p := withLine .fill (work 3 (some 240)) (rested Part.reset)
       p.line.state = .opened ∧ p.line.owner = some .fill ∧ p.line.work = some (work 3 (some 240))) ∧
      ({ Part.reset with line := Part.reset.line.toSettle 0 .fill none } : Part).line.state = .settle ∧
      (let s := state fun p => withHead (queued .icePortion .link { amount := some 200, form := some .crushed }) (rested p)
       ((s.later 0).ticket 0).kind = some .icePortion ∧ (s.later 0).sense.flap.isSome = true ∧
         (s.later 0).outlet.chuteFault = false ∧ (s.later 0).outlet.flap = .closed) ∧
      (State.reset.later 0).sense.door ≠ some .closed := by decide +kernel

/-- A head with AWAIT_PADDLE; a COLD_ONLY head with TANK NOT_READY, in FAULT, at WATER_COLD_LIMIT, above it and beyond the
curve, for a LINK ticket and for one of a paddle. -/
theorem witness_HeadsStart_conditions :
    (let s := state fun p => withHead (queued .waterHold .link { awaitPaddle := true }) (rested p)
     ((s.later 0).ticket 0).request.awaitPaddle = true ∧ (s.later 0).outlet.state = .idle ∧
       ((s.later 0).ticket 0).state = .queued) ∧
      (∀ o ∈ [Origin.link, .paddle],
        let s := state fun p => withHead (queued .waterHold o { coldOnly := true }) (rested p)
        ((s.later 0).ticket 0).request.coldOnly = true ∧ ((s.later 0).ticket 0).request.awaitPaddle = false ∧
          (s.later 0).sense.door = some .closed ∧ 4 ≤ (s.later 0).pool.free.length ∧
          ((s.later 0).reading 3).status = .notReady) ∧
      ({ Part.reset with sense.channels := Part.reset.sense.channels.set 3 { fault := true } }.reading 3).status = .fault ∧
      ((ringed 3 13520 Part.reset).reading 3).status = .ok ∧
      ((ringed 3 13520 Part.reset).reading 3).temp = some Part.reset.supervision.params.waterColdLimit ∧
      ((ringed 3 13470 Part.reset).reading 3).temp = some 81 ∧
      ((ringed 3 2999 Part.reset).reading 3).status = .range ∧ ((ringed 3 2999 Part.reset).reading 3).temp = some 600 := by
  decide +kernel

/-- A press that has stood for 30 ms; a head with AWAIT_PADDLE of either medium; a head without it behind which one more
ticket fits, a queue of 8, a waiting paddle ticket at the head, and one free ticket. -/
theorem witness_PaddlePressesAreJudged_heads :
    (((state rested).later 30000).sense.waterPin.stood 30000 30000 .pressed ∧
      ((state rested).later 30000).sense.icePin.stood 30000 30000 .pressed ∧
      ((state rested).later 30000).clock.now = 30000) ∧
      (∀ k ∈ [TicketKind.waterHold, .iceHold],
        let s := state fun p => withHead (queued k .link { awaitPaddle := true }) (rested p)
        (s.later 0).pool.queue = 0 :: [] ∧ ((s.later 0).ticket 0).state = .queued ∧ ((s.later 0).ticket 0).kind = some k ∧
          ((s.later 0).ticket 0).request.awaitPaddle = true ∧ ((s.later 0).ticket 0).request.coldOnly = false ∧
          (s.later 0).line.leakLatch = false ∧ (s.later 0).line.state = .idle ∧ (s.later 0).outlet.state = .idle ∧
          (s.later 0).outlet.chuteFault = false ∧ (s.later 0).outlet.flap = .closed ∧
          (s.later 0).sense.flap.isSome = true ∧ (s.later 0).sense.door = some .closed) ∧
      (let s := state fun p =>
        { hold 0 (queued .waterHold .link { coldOnly := true }) (rested p) with
          pool.queue := [0, 1, 2, 3, 4, 5, 6], pool.free := [7, 8] }
       (s.later 0).pool.queue.length < 8 ∧ ((s.later 0).ticket 0).origin ≠ some .paddle ∧
         ((s.later 0).ticket 0).request.awaitPaddle = false ∧ (s.later 0).pool.free = 7 :: [8] ∧
         1 ≤ ([8] : List TicketNo).length ∧ (7 : TicketNo) ∉ (s.later 0).pool.completion) ∧
      8 ≤ ([0, 1, 2, 3, 4, 5, 6, 7] : List TicketNo).length ∧
      (let p := withHead (queued .waterHold .paddle { coldOnly := true }) (rested Part.reset)
       (p.ticket 0).state = .queued ∧ (p.ticket 0).origin = some .paddle) := by decide +kernel

/-- Two free tickets and one; an outlet not IDLE; both paddles. -/
theorem witness_PaddlePressesAreJudged :
    (let s := state fun p => { rested p with pool.free := [4, 5] }
     s.part.resetting = none ∧ (s.later 0).sense.waterPaddle = some .released ∧
       (s.later 0).sense.icePaddle = some .released ∧ (s.later 0).outlet.state = .idle ∧
       (s.later 0).sense.door = some .closed ∧ (s.later 0).pool.queue = [] ∧ (s.later 0).pool.free = 4 :: [5] ∧
       1 ≤ ([5] : List TicketNo).length ∧ (4 : TicketNo) ∉ (s.later 0).pool.completion ∧
       (s.later 0).line.leakLatch = false ∧ (s.later 0).line.state = .idle ∧ (s.later 0).outlet.chuteFault = false ∧
       (s.later 0).outlet.flap = .closed ∧ (s.later 0).sense.flap.isSome = true) ∧
      ({ Part.reset with pool.free := [4] } : Part).pool.free.length < 2 ∧ (running {} Part.reset).outlet.state ≠ .idle := by
  decide +kernel

/-- A head held by a paddle, in each stage, and one that is not. -/
theorem witness_PaddleReleasesEndTheHead :
    (let s := state fun p =>
      withLine .dispense (work 0 none)
        { withHead (active .waterHold .link) (rested p) with
          sense.waterPaddle := some .pressed, outlet.state := .running, outlet.paddleStarted := true }
     s.part.resetting = none ∧ (s.later 0).sense.waterPaddle = some .pressed ∧ (s.later 0).pool.queue = 0 :: [] ∧
       (s.later 0).outlet.paddleStarted = true ∧ ((s.later 0).ticket 0).request.latch = false ∧
       ((s.later 0).ticket 0).kind = some .waterHold ∧ (s.later 0).outlet.state = .running ∧
       (s.later 0).line.owner = some .dispense ∧ (s.later 0).line.state = .opened ∧
       ((s.later 0).ticket 0).origin = some .link ∧ (s.later 30000).clock.now = 30000 ∧
       (s.later 30000).sense.waterPin.stood 30000 30000 .released ∧
       (s.later 30000).sense.icePin.stood 30000 30000 .released) ∧
      (∀ st ∈ [OutletState.lineWait, .opening, .paused, .stopping, .closing],
        ({ rested Part.reset with outlet.state := st, outlet.paddleStarted := true } : Part).outlet.state = st) ∧
      (let p := { running {} Part.reset with outlet.paddleStarted := true, sense.icePaddle := some .pressed }
       p.sense.icePaddle = some .pressed ∧ (p.ticket 0).kind = some .icePortion) ∧
      (running {} Part.reset).outlet.paddleStarted = false := by decide +kernel

/-- The door CLOSED and OPEN over a running water head, a running ice head, a waiting one, and the pause timer's moment. -/
theorem witness_DoorPausesTheHead :
    (let s := state fun p =>
      withLine .dispense (work 0 none)
        { withHead (active .waterHold .link) (rested p) with outlet.state := .running }
     s.part.resetting = none ∧ (s.later 0).pool.queue = 0 :: [] ∧ (s.later 0).sense.door = some .closed ∧
       (s.later 0).outlet.state = .running ∧ ((s.later 0).ticket 0).kind = some .waterHold ∧
       (s.later 0).line.state = .opened ∧ (s.later 0).line.owner = some .dispense ∧
       (s.later 100000).clock.now = 100000 ∧ (s.later 100000).sense.doorPin.stood 100000 100000 .opened ∧
       (s.later 100000).sense.doorPin.stood 100000 100000 .closed) ∧
      (let p := running {} Part.reset
       p.outlet.state = .running ∧ (p.ticket 0).kind = some .icePortion ∧ p.sense.flap = some .made) ∧
      (let s := state fun p =>
        { withLine .dispense (work 0 none) (withHead (active .waterHold .link) (rested p)) with
          sense.door := some .opened, outlet.state := .paused, line.state := .held, outlet.pauseEnd := some 8 }
       (s.later 0).sense.door = some .opened ∧ (s.later 0).outlet.state = .paused ∧
         (s.later 0).outlet.paddleStarted = false ∧ (s.later 0).line.state = .held ∧
         (s.later 0).line.owner = some .dispense ∧ (s.later 0).outlet.pauseEnd = some 8 ∧ (s.later 7).clock.now < 8 ∧
         8 ≤ (s.later 8).clock.now) ∧
      ({ rested Part.reset with outlet.state := .lineWait } : Part).outlet.state = .lineWait := by decide +kernel

/-- A checkpoint. -/
inductive Checkpoint12 where
  | passed

/-- An opening with the switch RELEASED, its deadline and 1 µs before; a closing with the switch RELEASED and MADE. -/
theorem witness_FlapMotionsAreJudged :
    (let s := state fun p =>
      { withHead (active .iceHold .link { form := some .crushed }) (rested p) with
        outlet.state := .opening, outlet.flap := .opening, outlet.flapOpenOut := true,
        outlet.flapDeadline := some 1500000 }
     s.part.resetting = none ∧ (s.later 0).pool.queue = 0 :: [] ∧ (s.later 0).outlet.flapDeadline = some 1500000 ∧
       ((s.later 0).ticket 0).origin = some .link ∧ (s.later 0).outlet.flap = .opening ∧
       (s.later 0).sense.flap = some .released ∧ (s.later 0).sense.door = some .closed ∧
       ((s.later 0).ticket 0).kind = some .iceHold ∧ (s.later 0).outlet.run.entered = false ∧
       (s.later 10000).clock.now = 10000 ∧ (s.later 10000).sense.flapPin.stood 10000 10000 .made ∧
       (s.later 1499999).clock.now < 1500000 ∧ 1500000 ≤ (s.later 1500000).clock.now) ∧
      ((withHead (active .icePortion .link { amount := some 1 }) Part.reset).ticket 0).request.amount = some 1 ∧
      (let p :=
        { withHead (active .iceHold .link).stopping (rested Part.reset) with
          outlet.state := .closing, outlet.flap := .closing, outlet.ending := some .complete,
          outlet.flapDeadline := some 1500000 }
       p.outlet.flap = .closing ∧ p.outlet.state = .closing ∧ p.outlet.ending = some .complete ∧
         p.sense.flap = some .released ∧ 1 ≤ p.supervision.params.ductAfter) ∧
      (running {} Part.reset).sense.flap = some .made := by decide +kernel

/-- An ice head that a press drew: its opening, and the end of its closing with 4 tickets free. -/
theorem witness_FlapMotionsAreJudged_paddle :
    ∀ m ∈ [(FlapPosition.opening, OutletState.opening), (.closing, .closing)],
      let s := state fun p =>
        { withHead (active .iceHold .paddle) (rested p) with
          outlet.state := m.2, outlet.flap := m.1, outlet.ending := some .complete, outlet.flapDeadline := some 1500000 }
      s.part.resetting = none ∧ (s.later 1500000).pool.queue = 0 :: [] ∧
        ((s.later 1500000).ticket 0).origin = some .paddle ∧ 4 ≤ (s.later 1500000).pool.free.length ∧
        (s.later 1500000).outlet.flap = m.1 ∧ (s.later 1500000).outlet.flapDeadline = some 1500000 ∧
        (s.later 10000).sense.flapPin.stood 10000 10000 .made ∧ (s.later 10000).outlet.run.entered = false := by
  decide +kernel

/-- A flap that falls under an ice head, a chute test and an auger test, RUNNING, PAUSED and held, with DUCT_AFTER and without;
one that falls with the chute-fault flag set; one that opens by itself, and the end of the controller's own closing. -/
theorem witness_FlapMotionsAreJudged_falls :
    (∀ st ∈ [OutletState.running, .paused, .stopping], ∀ r ∈ [(TicketKind.iceHold, ({} : Request)),
        (.loadTest, { load := some .chute, seconds := some 3 }), (.loadTest, { load := some .auger, seconds := some 3 })],
      ∀ d ∈ [0, 60],
      let s := state fun p =>
        { withHead (active r.1 .link r.2) (rested p) with
          sense.flap := some .made, outlet.state := st, outlet.flap := .opened, outlet.ending := some .complete,
          supervision.params.ductAfter := d }
      s.part.resetting = none ∧ (s.later 10000).sense.flap = some .made ∧
        (s.later 10000).sense.flapPin.stood (s.later 10000).clock.now 10000 .released ∧
        (s.later 10000).outlet.flap = .opened ∧ (s.later 10000).outlet.chuteFault = false ∧
        (s.later 10000).pool.queue = 0 :: [] ∧ ((s.later 10000).ticket 0).origin = some .link ∧
        ((s.later 10000).ticket 0).kind = some r.1 ∧ ((s.later 10000).ticket 0).request.load = r.2.load ∧
        (s.later 10000).outlet.state = st ∧ (s.later 10000).outlet.ending = some .complete ∧
        (1 ≤ (s.later 10000).supervision.params.ductAfter ↔ d = 60)) ∧
      ({ running {} Part.reset with outlet.chuteFault := true } : Part).outlet.chuteFault = true ∧
      (let s := state rested
       (s.later 10000).sense.flap = some .released ∧ (s.later 10000).outlet.flap = .closed ∧
         (s.later 10000).sense.flapPin.stood (s.later 10000).clock.now 10000 .made ∧
         (s.later 10000).outlet.chuteFault = false) ∧
      (∀ c ∈ [Contact.made, .released],
        let s := state fun p => { Part.beginClosing (rested p) with sense.flap := some c }
        (s.later 1500000).outlet.flap = .closing ∧ (s.later 1500000).outlet.state ≠ .closing ∧
          (s.later 1500000).outlet.flapDeadline = some 1500000 ∧ 1500000 ≤ (s.later 1500000).clock.now ∧
          (s.later 1500000).sense.flap = some c) := by decide +kernel

/-- A run at its target, at its limit, at its jam windows and in reverse, and 1 µs before each. -/
theorem witness_IceRunsEnd :
    (let s := state (running { target := some 2000, jamDeadline := some 1000000, running := { since := some 0 } })
     s.part.resetting = none ∧ (s.later 0).pool.queue = 0 :: [] ∧ (s.later 0).outlet.state = .running ∧
       ((s.later 0).ticket 0).kind = some .icePortion ∧ (s.later 0).outlet.run.target = some 2000 ∧
       (s.later 0).outlet.augerForward = true ∧
       (s.later 1999999).outlet.run.forward.read (s.later 1999999).clock.now < 2000 * 1000 ∧
       2000 * 1000 ≤ (s.later 2000000).outlet.run.forward.read (s.later 2000000).clock.now ∧
       (s.later 89999999).outlet.run.running.read (s.later 89999999).clock.now < 90 * 1000000 ∧
       90 * 1000000 ≤ (s.later 90000000).outlet.run.running.read (s.later 90000000).clock.now ∧
       (s.later 0).outlet.run.jamDeadline = some 1000000 ∧ (s.later 999999).clock.now < 1000000 ∧
       1000000 ≤ (s.later 1000000).clock.now ∧ (s.later 0).outlet.run.jams = 0) ∧
      (running { jams := 1 } Part.reset).outlet.run.jams = 1 ∧
      (let p :=
        { running { reverseEnd := some 5 } Part.reset with outlet.augerForward := false, outlet.augerReverse := true }
       p.outlet.augerReverse = true ∧ p.outlet.run.reverseEnd = some 5 ∧ p.outlet.run.target = none) ∧
      (running { target := some 0 } Part.reset).outlet.run.target = some 0 := by decide +kernel

/-- An auger test at its opening, at its target and 1 µs before, and at a first and a second jam. -/
theorem witness_IceRunsEnd_augerTest :
    (let s := state fun p =>
      { withHead (active .loadTest .link { load := some .auger, seconds := some 2 }) (rested p) with
        outlet.state := .opening, outlet.flap := .opening, outlet.flapOpenOut := true,
        outlet.flapDeadline := some 1500000 }
     s.part.resetting = none ∧ (s.later 10000).pool.queue = 0 :: [] ∧ ((s.later 10000).ticket 0).kind = some .loadTest ∧
       ((s.later 10000).ticket 0).request.load = some .auger ∧ ((s.later 10000).ticket 0).request.seconds = some 2 ∧
       (s.later 10000).outlet.flap = .opening ∧ (s.later 10000).sense.flap = some .released ∧
       (s.later 10000).sense.door = some .closed ∧ (s.later 10000).outlet.run.entered = false ∧
       (s.later 10000).sense.flapPin.stood (s.later 10000).clock.now 10000 .made) ∧
      (∀ j ∈ [0, 1],
        let s := state fun p =>
          hold 0 (active .loadTest .link { load := some .auger, seconds := some 2 })
            (running { target := some 2000, jamDeadline := some 1000000, jams := j } p)
        (s.later 0).outlet.state = .running ∧ (s.later 0).outlet.run.target = some 2000 ∧
          (s.later 0).outlet.augerForward = true ∧
          (s.later 1999999).outlet.run.forward.read (s.later 1999999).clock.now < 2000 * 1000 ∧
          2000 * 1000 ≤ (s.later 2000000).outlet.run.forward.read (s.later 2000000).clock.now ∧
          (s.later 1000000).outlet.run.jamDeadline = some 1000000 ∧ 1000000 ≤ (s.later 1000000).clock.now ∧
          (s.later 1000000).outlet.run.jams = j) := by decide +kernel

theorem witness_OutletTimersEnd :
    (let s := state fun p => { running {} p with outlet.state := .stopping, outlet.holdEnd := some 4 }
     s.part.resetting = none ∧ (s.later 0).outlet.state = .stopping ∧ (s.later 0).outlet.holdEnd = some 4 ∧
       (s.later 3).clock.now < 4 ∧ 4 ≤ (s.later 4).clock.now) ∧
      (let s := state fun p =>
        withHead (active .loadTest .link { load := some .chute, seconds := some 1 })
          { rested p with outlet.state := .running, outlet.run := { hold := { since := some 0 } } }
       (s.later 0).outlet.state = .running ∧ (s.later 0).pool.queue = 0 :: [] ∧
         ((s.later 0).ticket 0).kind = some .loadTest ∧ ((s.later 0).ticket 0).request.load = some .chute ∧
         ((s.later 0).ticket 0).request.seconds = some 1 ∧
         (s.later 999999).outlet.run.hold.read (s.later 999999).clock.now < 1 * 1000000 ∧
         1 * 1000000 ≤ (s.later 1000000).outlet.run.hold.read (s.later 1000000).clock.now) ∧
      (let s := state fun p => { p with outlet.ductEnd := some 4 }
       (s.later 0).outlet.ductEnd = some 4 ∧ (s.later 3).clock.now < 4 ∧ 4 ≤ (s.later 4).clock.now) := by
  decide +kernel

theorem witness_CompressorIsReported :
    State.reset.linkIdle ∧ (State.reset.heard (.compressor 0 0 [1])).defrost.state ≠ .heating ∧
      ((state (defrosting .heating cycle0)).heard (.compressor 0 0 [1])).defrost.state = .heating ∧ (2 : Byte) ≠ 0 ∧
      (2 : Byte) ≠ 1 ∧ ([] : List Byte).length ≠ 1 ∧ (List.replicate 64 (1 : Byte)).length ≤ 64 := by decide +kernel

/-- Each defrost state; a free ticket; the ice maker in HARVEST_HEAT and out of it. -/
theorem witness_CyclesEnterPrepAndHeat :
    (∀ st ∈ [DefrostState.accruing, .wanted, .deferred, .prep, .heating, .dwell, .recover],
      (state fun p => { p with defrost.state := st }).linkIdle ∧
        (state fun p => { p with defrost.state := st }).part.defrost.state = st) ∧
      (State.reset.heard (.defrostForce 0 0 [])).pool.free = 0 :: State.reset.part.pool.free.tail ∧
      (0 : TicketNo) ∉ (State.reset.heard (.defrostForce 0 0 [])).pool.completion ∧
      (State.reset.heard (.defrostForce 0 0 [])).defrost.iceCopy ≠ .harvestHeat ∧
      (State.reset.heard (.defrostForce 0 0 [])).defrost.iceCopy ≠ .eject ∧
      ((state (icing .harvestHeat)).heard (.defrostForce 0 0 [])).defrost.iceCopy = .harvestHeat ∧
      (let s := state (defrosting .prep cycle0)
       s.part.resetting = none ∧ s.part.defrost.state = .prep ∧ (s.later 0).pool.defrostSlot = some 1 ∧
         (s.later 0).defrost.cycle = some cycle0) := by decide +kernel

/-- DEFER of 0, 1, 120 and 121 minutes; the defer timer; the want time and the silent-want time at their limits and 1 µs
before; a WANT_LIMIT of 0. -/
theorem witness_WantedWaitsAndForces :
    (let s := state fun p => { p with defrost.state := .wanted }
     s.linkIdle ∧ (0 : Byte).toNat < 1 ∧ 120 < (121 : Byte).toNat ∧ 1 ≤ (1 : Byte).toNat ∧ (120 : Byte).toNat ≤ 120 ∧
       (s.heard (.defrostReplyDefer 0 0 1)).defrost.state = .wanted ∧
       (State.reset.heard (.defrostReplyDefer 0 0 1)).defrost.state ≠ .wanted) ∧
      (let s := state fun p => { p with defrost.state := .deferred, defrost.deferEnd := some 60 }
       s.part.resetting = none ∧ s.part.defrost.state = .deferred ∧ (s.later 0).defrost.deferEnd = some 60 ∧
         (s.later 59).clock.now < 60 ∧ 60 ≤ (s.later 60).clock.now) ∧
      (let s := state fun p =>
        { p with
          defrost.state := .wanted
          defrost.wantTime := { since := some 0 }
          defrost.silentWant := { since := some 0 }
          supervision.silent := true
          supervision.params.wantLimit := 1 }
       (s.later 0).defrost.state = .wanted ∧ (s.later 0).supervision.params.wantLimit ≠ 0 ∧
         1 * 60000000 ≤ (s.later 60000000).defrost.wantTime.read (s.later 60000000).clock.now ∧
         (s.later 59999999).defrost.wantTime.read (s.later 59999999).clock.now < 1 * 60000000 ∧
         (s.later 0).supervision.silent = true ∧
         3600000000 ≤ (s.later 3600000000).defrost.silentWant.read (s.later 3600000000).clock.now ∧
         (s.later 3599999999).defrost.silentWant.read (s.later 3599999999).clock.now < 3600000000) ∧
      State.reset.part.supervision.params.wantLimit = 0 := by decide +kernel

/-- The heating limit, whole and halved, at its moment and 1 µs before; an abort in PREP and in the states that refuse it. -/
theorem witness_HeatingAndPrepEnd :
    (let s := state (defrosting .heating cycle0)
     s.part.defrost.state = .heating ∧ s.part.defrost.cycle = some cycle0 ∧ cycle0.heatingFrom = some 0 ∧
       cycle0.heatingStart = some 0 ∧ s.part.pool.defrostSlot = some 1 ∧ s.part.resetting = none ∧ s.linkIdle ∧
       (s.later 2099999999).clock.now < 0 + 35 * 60 * 1000000 ∧ 0 + 35 * 60 * 1000000 ≤ (s.later 2100000000).clock.now ∧
       0 + 35 * 30 * 1000000 ≤ (s.later 1050000000).clock.now) ∧
      (let s := state (defrosting .prep cycle0)
       let q := s.heard (.defrostAbort 0 0 [])
       s.linkIdle ∧ q.defrost.state = .prep ∧ q.pool.defrostSlot = some 1 ∧ q.defrost.cycle = some cycle0 ∧
         4 ≤ q.pool.free.length) ∧
      (State.reset.heard (.defrostAbort 0 0 [])).defrost.state = .accruing := by decide +kernel

theorem witness_CycleEndsInAccruing :
    (let s := state fun p => { defrosting .dwell cycle0 p with defrost.dwellEnd := some 300000000 }
     s.part.resetting = none ∧ (s.later 0).defrost.cycle = some cycle0 ∧ (s.later 0).pool.defrostSlot = some 1 ∧
       (s.later 0).defrost.state = .dwell ∧ (s.later 0).defrost.dwellEnd = some 300000000 ∧
       (s.later 299999999).clock.now < 300000000 ∧ 300000000 ≤ (s.later 300000000).clock.now) ∧
      (∀ r ∈ [EndReason.terminated, .heatLimit, .aborted, .sensor],
        let c := { cycle0 with endReason := some r }
        let s := state fun p => { defrosting .recover c p with defrost.recoverEnd := some 600000000 }
        (s.later 0).defrost.state = .recover ∧ (s.later 0).defrost.cycle = some c ∧ c.endReason = some r ∧
          (s.later 0).defrost.recoverEnd = some 600000000 ∧ 4 ≤ (s.later 0).pool.free.length ∧
          (s.later 599999999).clock.now < 600000000 ∧ 600000000 ≤ (s.later 600000000).clock.now) := by decide +kernel

theorem witness_WhatFollowsAtOnceIsBounded :
    (let p := rested Part.reset
     p.pool.queue = [] ∧ p.defrost.credit < p.defrost.target ∧ p.defrost.state ≠ .prep ∧ p.ice.state ≠ .fillWait ∧
       p.ice.state ≠ .harvestWait ∧ p.line.fillClaim = none ∧ p.line.suspended = none) ∧
      (running {} Part.reset).outlet.state ≠ .idle ∧ Part.reset.sense.door ≠ some .closed ∧
      (defrosting .heating cycle0 Part.reset).defrost.state ≠ .accruing := by decide +kernel

/-- Events of each exception of the statement, and one that is none of them. -/
theorem witness_EventsLeaveTheSettings :
    (∀ i ∈ [Instr.tachPulse 0, .flowPulse 0, .partSecondsAdvance 0, .conversionEnd 0 16800],
      hostRow i = none ∧ exec i State.reset = .next { State.reset with part := after i State.reset }) := by
  have h : ∀ i ∈ [Instr.tachPulse 0, .flowPulse 0, .partSecondsAdvance 0, .conversionEnd 0 16800],
      hostRow i = none ∧ runs i State.reset = true := by decide +kernel
  exact fun i hi => ⟨(h i hi).1, exec_of_runs i _ (h i hi).2⟩

theorem witness_HostCommandsChangeTheirOwn :
    State.reset.linkIdle ∧
      (∀ i ∈ [Instr.setParam 0 0 [28, 0, 10], .lockLimits 0 0 [], .setNoticeMask 0 0 [0, 1], .compressor 0 0 [1],
          .clearLeak 0 0 [], .filterReset 0 0 [], .submit 0 0 [2, 0, 0, 0, 0, 0, 0, 0],
          .setRotation 0 0 (List.replicate 16 0xFF), .unknownKindCommand 0 0x55 0 (List.replicate 64 0)],
        (hostRow i).isSome = true ∧ i.wellFormed = true ∧
          exec i State.reset = .next { State.reset with part := after i State.reset }) := by
  have h : ∀ i ∈ [Instr.setParam 0 0 [28, 0, 10], .lockLimits 0 0 [], .setNoticeMask 0 0 [0, 1], .compressor 0 0 [1],
      .clearLeak 0 0 [], .filterReset 0 0 [], .submit 0 0 [2, 0, 0, 0, 0, 0, 0, 0],
      .setRotation 0 0 (List.replicate 16 0xFF), .unknownKindCommand 0 0x55 0 (List.replicate 64 0)],
      (hostRow i).isSome = true ∧ i.wellFormed = true ∧ runs i State.reset = true := by decide +kernel
  exact ⟨by decide +kernel, fun i hi => ⟨(h i hi).1, (h i hi).2.1, exec_of_runs i _ (h i hi).2.2⟩⟩

/-- A checkpoint. -/
inductive Checkpoint13 where
  | passed

/-- The hypotheses of the invariants hold right after reset, where a step is taken, and in states in which each has
something to say. -/
theorem witness_invariants :
    State.reset.part.line.valvesSafe ∧ State.reset.part.loads.withinBudget ∧ State.reset.part.loads.grantsDemanded ∧
      State.reset.part.copiesAgree ∧ State.reset.part.interlocked ∧ State.reset.part.listsBounded ∧
      State.reset.part.outlet.motorsSafe := by
  unfold Line.valvesSafe Loads.withinBudget Loads.grantsDemanded Part.copiesAgree Part.interlocked Part.listsBounded
    Outlet.motorsSafe
  decide +kernel

theorem witness_invariants_step :
    step { State.reset with pending := [.tachPulse 0] } =
      .next { State.reset with part := after (.tachPulse 0) State.reset } :=
  have h : exec (.tachPulse 0) State.reset = _ := exec_of_runs (.tachPulse 0) State.reset (by decide +kernel)
  h

theorem witness_invariants_busy :
    (withLine .dispense (work 0 none) Part.reset).line.valvesSafe ∧
      (after (.partSecondsAdvance 0) (state (Part.raiseOwner 0))).loads.withinBudget ∧
      (after (.partSecondsAdvance 0) (state (Part.raiseOwner 0))).loads.grantsDemanded ∧
      (defrosting .heating cycle0 Part.reset).copiesAgree ∧ (defrosting .heating cycle0 Part.reset).interlocked ∧
      (running {} Part.reset).outlet.motorsSafe := by
  unfold Line.valvesSafe Loads.withinBudget Loads.grantsDemanded Part.copiesAgree Part.interlocked Outlet.motorsSafe
  decide +kernel

/-- The tickets of a part agree with its places, if they do as far as a check on its lists, slots and claims shows. -/
theorem ticketsSound_of (p : Part) (places : p.ticketsPlaced) (queue : p.queueOrdered) (outlet : p.outletServesHead)
    (claim : ∀ n ∈ p.line.fillClaim, p.pool.iceSlot = some n ∧ p.ice.state = .fillWait)
    (suspended : ∀ w ∈ p.line.suspended, p.pool.iceSlot = some w.ticket ∧ p.ice.state = .filling)
    (filling : ∀ w ∈ p.line.work, (p.line.owner = some .fill ∨ p.line.closingOwner = some .fill) →
      p.pool.iceSlot = some w.ticket ∧ p.ice.state = .filling ∧ p.line.suspended = none)
    (cycle : p.defrost.state.accrues = true → p.pool.defrostSlot = none) : p.ticketsSound :=
  ⟨places, queue, outlet, claim, suspended, filling, cycle⟩

/-- The hypotheses on tickets and demands hold right after reset. -/
theorem witness_ticketsSound_reset :
    Part.reset.ticketsSound ∧ Part.reset.demandsStand ∧ Part.reset.copiesAgree := by
  refine ⟨ticketsSound_of _ ?_ ?_ ?_ ?_ ?_ ?_ ?_, ?_, ?_⟩ <;>
    first
    | decide +kernel
    | (unfold Part.ticketsPlaced; decide +kernel)
    | (unfold Part.queueOrdered; decide +kernel)
    | (unfold Part.outletServesHead; decide +kernel)
    | (unfold Part.demandsStand; decide +kernel)
    | (unfold Part.copiesAgree; decide +kernel)

/-- A busy part: a water head on the line, one more ticket behind it, a fill suspended, a cycle in HEATING with its demands,
and a record to be fetched. -/
def busy : Part :=
  let p := withLine .dispense (work 3 none)
    (hold 2 (queued .iceHold .link) (hold 3 { queued .flush .link with state := .done }
      (hold 4 (active .moldFill .iceMaker) (hold 0 (active .waterHold .link)
        (defrosting .heating cycle0 (icing .filling (rested Part.reset)))))))
  ((({ p with
      pool.queue := [0, 2]
      pool.completion := [3]
      pool.iceSlot := some 4
      pool.free := Part.reset.pool.free.drop 5
      line.suspended := some { work 5 (some 240) with ticket := 4 }
      outlet.state := .running }).raiseOwner 0).raiseOwner 1).raiseOwner 3

/-- The hypotheses on tickets and demands hold of a part at work. -/
theorem witness_ticketsSound_busy : busy.ticketsSound ∧ busy.demandsStand ∧ busy.copiesAgree := by
  refine ⟨ticketsSound_of _ ?_ ?_ ?_ ?_ ?_ ?_ ?_, ?_, ?_⟩ <;>
    first
    | decide +kernel
    | (unfold Part.ticketsPlaced; decide +kernel)
    | (unfold Part.queueOrdered; decide +kernel)
    | (unfold Part.outletServesHead; decide +kernel)
    | (unfold Part.demandsStand; decide +kernel)
    | (unfold Part.copiesAgree; decide +kernel)

theorem witness_legalParameters :
    defaultParams.pairsHold = true ∧ (∀ n ∈ List.range 46, ((Param.ofNumber (n + 1)).map fun k =>
      k.inRange (defaultParams.get k)) = some true) := by decide +kernel

end Sys2Proof.Machine.Tests
end

namespace Sys2Proof.Machine

/-! The invariants at reset, and one that RESET_END does not keep. -/

/-- The default of every parameter is in its range. -/
theorem defaultParams_inRange (k : Param) : k.inRange (defaultParams.get k) = true := by
  cases k with
  | channelClass ch => revert ch; decide +kernel
  | _ => decide +kernel

/-- Right after reset each ticket is in the free list alone, and nothing is at work. -/
theorem reset_ticketsSound : Part.reset.ticketsSound := by
  refine ⟨?_, ?_, ?_, ?_⟩
  · unfold Part.ticketsPlaced; decide +kernel
  · unfold Part.queueOrdered; decide +kernel
  · unfold Part.outletServesHead; decide +kernel
  · refine ⟨fun n h => ?_, fun w h => ?_, fun w h => ?_, fun _ => rfl⟩ <;> cases h

/-- Settles O60: the reset part is one part, whose blocks are evaluated. -/
theorem invariantsHoldAtReset : Obligations.InvariantsHoldAtReset := by
  refine ⟨?_, ?_, ?_, ?_, ?_, ⟨defaultParams_inRange, by decide +kernel⟩, ?_, ?_, reset_ticketsSound, ?_⟩
  · unfold Line.valvesSafe; decide +kernel
  · unfold Loads.withinBudget; decide +kernel
  · unfold Loads.grantsDemanded; decide +kernel
  · unfold Part.copiesAgree; decide +kernel
  · unfold Part.interlocked; decide +kernel
  · unfold Part.listsBounded; decide +kernel
  · unfold Outlet.motorsSafe; decide +kernel
  · unfold Part.demandsStand; decide +kernel

/-- While a reset lasts: a home switch read MADE, and a MOLD_FILL that waits in FILL_WAIT with its claim made. -/
def waitingFillInReset : Part :=
  { Part.reset with
    resetting := some .powerOn
    sense.home := some .made
    ice.state := .fillWait
    line.fillClaim := some 0
    pool.iceSlot := some 0
    pool.free := Part.reset.pool.free.tail
    pool.tickets := Part.reset.pool.tickets.set 0 { state := .queued, kind := some .moldFill, origin := some .iceMaker } }

theorem waitingFillInReset_sound : waitingFillInReset.ticketsSound := by
  refine ⟨?_, ?_, ?_, ?_⟩
  · unfold Part.ticketsPlaced; decide +kernel
  · unfold Part.queueOrdered; decide +kernel
  · unfold Part.outletServesHead; decide +kernel
  · refine ⟨?_, fun w h => ?_, fun w h => ?_, ?_⟩
    · decide +kernel
    · cases h
    · cases h
    · intro _; rfl

/-- RESET_END homes the ice maker whatever it was doing, and leaves the claim. -/
theorem waitingFillInReset_endReset :
    waitingFillInReset.endReset.line.fillClaim = some 0 ∧ waitingFillInReset.endReset.ice.state = .freezing := by
  decide +kernel

/-- Refutes O59: the end of a reset homes the ice maker by its home switch, from whatever state the part is in, and leaves the
claim of a fill. From a part in reset (which `ticketsSound` lets stand) whose MOLD_FILL waits in FILL_WAIT with its claim made,
RESET_END leads to FREEZING with the claim still made, which `slotsServed` forbids. No reset of the part begins so: only the
statement's soundness is too weak to say it. -/
theorem not_ticketsStayInOnePlace : ¬ Obligations.TicketsStayInOnePlace := by
  intro h
  obtain ⟨-, -, -, hclaim, -⟩ := h { part := waitingFillInReset, pending := [.resetEnd 0] }
    { part := waitingFillInReset.endReset, pending := [] } waitingFillInReset_sound rfl
  obtain ⟨hfill, hstate⟩ := waitingFillInReset_endReset
  have hwait := (hclaim 0 hfill).2
  rw [hstate] at hwait
  cases hwait

end Sys2Proof.Machine

namespace Sys2Proof.Machine

/-! The ends of the resets (R26, R184 to R188). -/

/-- RESET_END with a reset in progress. -/
theorem becomes_endReset (p : Part) (k : ResetKind) (w : List Instr) (dt : Nat) :
    Becomes (.resetEnd dt) { part := p.beginReset k, pending := w } (p.beginReset k).endReset := rfl

/-- Before the homing and the comparison of R188, the end of a reset leaves this part. -/
def Part.resetDone (p : Part) (k : ResetKind) : Part :=
  { p.beginReset k with
    resetting := none
    clock := ⟨0, 0⟩
    link.pendingSet := Notice.restarted.bit
    sense.scan := Part.reset.sense.scan
    ice.homingDeadline := some ((p.beginReset k).supervision.params.ejectLimit * second) }

theorem endReset_beginReset (p : Part) (k : ResetKind) :
    (p.beginReset k).endReset = (p.resetDone k).compareTarget := by
  cases k <;> simp [Part.endReset, Part.resetDone, Part.homeNow, Part.beginReset, Part.afterReset, Part.afterRestart, Part.afterLineReset, Part.afterPowerOn, Part.reset]

/-- The comparison of R188 finds the credit at the target after a RESTART alone. -/
theorem resetDone_compareTarget (p : Part) (k : ResetKind) :
    (p.resetDone k).compareTarget =
      if k = .restart ∧ p.defrost.target ≤ p.defrost.credit then (p.resetDone k).enterWanted else p.resetDone k := by
  cases k with
  | powerOn => rfl
  | lineReset => rfl
  | restart =>
    have hdef : (p.resetDone .restart).defrost.state = .accruing := rfl
    have htarget : (p.resetDone .restart).defrost.target = p.defrost.target := rfl
    have hcredit : (p.resetDone .restart).defrost.credit = p.defrost.credit := rfl
    simp only [Part.compareTarget, hdef, htarget, hcredit, true_and]

/-- The blocks other than the pool as a reset leaves them before that comparison. -/
theorem resetDone_blocks (p : Part) (k : ResetKind) :
    let q := p.resetDone k
    (q.resetting = none ∧ q.clock = ⟨0, 0⟩ ∧ q.supervision.armed = false ∧ q.supervision.silent = false) ∧
      (q.link.pendingSet = Notice.restarted.bit ∧ q.link.mask = (if k = .restart then p.link.mask else 0) ∧
        q.link.inbox = [] ∧ q.link.executing = none ∧ q.link.lastError = none ∧ q.link.receiver = .hunting) ∧
      (q.sense.door = none ∧ q.sense.waterPaddle = none ∧ q.sense.icePaddle = none ∧ q.sense.home = none ∧
        q.sense.flap = none) ∧
      q.ice.state = .homing ∧ q.defrost.iceCopy = .homing ∧ q.defrost.state = .accruing := by
  cases k <;> exact ⟨⟨rfl, rfl, rfl, rfl⟩, ⟨rfl, rfl, rfl, rfl, rfl, rfl⟩, ⟨rfl, rfl, rfl, rfl, rfl⟩, rfl, rfl, rfl⟩

/-- Every reset leaves the pool of Table 1-6's reset column. -/
theorem resetDone_pool (p : Part) (k : ResetKind) : (p.resetDone k).pool = Part.reset.pool := by
  cases k <;> rfl

/-- After a reset all tickets are FREE, and every list but the free list is empty (R26). -/
theorem reset_pool_empty :
    (∀ n : TicketNo, (Part.reset.ticket n).state = .free) ∧ Part.reset.pool.free = List.finRange 24 ∧
      Part.reset.pool.queue = [] ∧ Part.reset.pool.iceSlot = none ∧ Part.reset.pool.defrostSlot = none ∧
      Part.reset.pool.serviceSlot = none ∧ Part.reset.pool.completion = [] ∧ Part.reset.pool.starvation.link = 0 ∧
      Part.reset.pool.starvation.paddle = 0 ∧ Part.reset.pool.starvation.iceMaker = 0 ∧
      Part.reset.pool.starvation.defrost = 0 := by
  decide +kernel

/-- An event of R102 is nothing to an ice maker out of HARVEST_WAIT. -/
theorem harvestAttempt_notWaiting (p : Part) (h : p.ice.state ≠ .harvestWait) : p.harvestAttempt = p := by
  rw [Part.harvestAttempt, if_neg h]

/-- Without an ice maker in HARVEST_WAIT the entry into WANTED leaves the pool. -/
theorem enterWanted_pool (p : Part) (h : p.ice.state ≠ .harvestWait) : p.enterWanted.pool = p.pool := by
  unfold Part.enterWanted Part.setDefrostState
  rw [harvestAttempt_notWaiting]
  · rfl
  · exact h

/-- After a power-on the part is as `Part.reset` has it, but for the free-value counter. -/
theorem resetDone_powerOn (p : Part) : p.resetDone .powerOn = { Part.reset with freeCount := p.freeCount } := by
  have hdeadline : (p.beginReset .powerOn).supervision.params.ejectLimit * second = 12000000 := by
    change 12 * second = _
    rfl
  unfold Part.resetDone
  rw [hdeadline]
  rfl

theorem enterWanted_blocks (p : Part) :
    p.enterWanted.link = { p.link with pendingSet := p.link.pendingSet ||| Notice.defrostWanted.bit } ∧
    p.enterWanted.ice.state = p.ice.state ∧ p.enterWanted.defrost.iceCopy = p.defrost.iceCopy ∧
    p.enterWanted.defrost.state = .wanted := by
  unfold Part.enterWanted; simp

/-- After a POWER_ON and its RESET_END the part is the one after reset, but for the free-value counter. -/
theorem endReset_powerOn (p : Part) :
    (p.beginReset .powerOn).endReset = { State.reset.part with freeCount := p.freeCount } := by
  rw [endReset_beginReset, resetDone_compareTarget, if_neg (by simp), resetDone_powerOn]
  rfl

/-- The pool after the end of a reset of any kind. -/
theorem endReset_pool (p : Part) (k : ResetKind) : (p.beginReset k).endReset.pool = Part.reset.pool := by
  obtain ⟨-, -, -, hice, -, -⟩ := resetDone_blocks p k
  rw [endReset_beginReset, resetDone_compareTarget, ← resetDone_pool p k]
  split
  · exact enterWanted_pool _ (by rw [hice]; decide)
  · rfl

/-- Settles O14. -/
theorem resetsEnd : Obligations.ResetsEnd := by
  refine ⟨fun p k w dt => ⟨_, becomes_endReset p k w dt, ?_⟩, fun p k w dt => ⟨_, becomes_endReset p k w dt, ?_⟩,
    fun s dt dt' => ⟨_, rfl, ?_⟩⟩
  · obtain ⟨hpart, hlink, hsense, hice, hcopy, hdef⟩ := resetDone_blocks p k
    obtain ⟨wlink, wice, wcopy, wdef⟩ := enterWanted_blocks (p.resetDone k)
    rw [endReset_beginReset, resetDone_compareTarget]
    split
    · simp [wlink, wice, wcopy, wdef, hpart, hlink, hsense, hice, hcopy]
    · simp [hpart, hlink, hsense, hice, hcopy, hdef]
  · simp only [Part.ticket, endReset_pool]
    exact reset_pool_empty
  · exact congrArg (fun q : Part => Host.Outcome.next (⟨q, s.pending⟩ : State)) (endReset_powerOn s.part)

end Sys2Proof.Machine

namespace Sys2Proof.Machine

/-! Auto-retire, record by record (R13, R14). -/

/-- The records that auto-retire may take, in queue order (R14). -/
def Part.retirables (p : Part) : List TicketNo := p.pool.completion.filter fun n => (p.ticket n).retirable

theorem oldestRetirable_eq_head (p : Part) : p.oldestRetirable = p.retirables.head? := by
  rw [Part.oldestRetirable, Part.retirables, List.head?_filter]

/-- A retirement empties the ticket's record. -/
theorem ticket_retire_self (p : Part) (n : TicketNo) : (p.retire n).ticket n = {} := by
  rw [Part.ticket, (retire_pool n p).2.2.1]
  simp

/-- A retirement sets COMPLETIONS_DROPPED and no other notice. -/
theorem isPending_retire (p : Part) (n : TicketNo) (k : Notice) :
    (p.retire n).isPending k = (decide (k = .completionsDropped) || p.isPending k) := by
  have hlink : (p.retire n).link = (p.notify .completionsDropped).link := by
    unfold Part.retire Part.joinFree
    rw [iceAttempt_link]
    rfl
  rw [Part.isPending, hlink, ← isPending_notify]
  rfl

/-- After a retirement of the oldest, the others are left to retire. -/
theorem retirables_retire (p : Part) (n : TicketNo) (rest : List TicketNo) (hd : p.pool.completion.Nodup)
    (h : p.retirables = n :: rest) : (p.retire n).retirables = rest := by
  have hrest : rest = p.retirables.erase n := by rw [h, List.erase_cons_head]
  have hnodup : p.retirables.Nodup := hd.filter _
  rw [hrest, hnodup.erase_eq_filter, Part.retirables, Part.retirables, (retire_pool n p).2.1, hd.erase_eq_filter,
    List.filter_filter, List.filter_filter]
  refine List.filter_congr fun m _ => ?_
  by_cases hm : m = n
  · simp [hm]
  · rw [ticket_retire p n m hm, Bool.and_comm]

/-- With no ticket twice in the completion queue, up to `k` retirements take exactly the oldest retirable records, as many
as bring the free count to 4 (R13, R14). -/
theorem retireUpTo_exact (k : Nat) (p : Part) (hd : p.pool.completion.Nodup) :
    let q := p.retireUpTo k
    let retired := p.retirables.take (min k (4 - p.pool.free.length))
    q.pool.free = p.pool.free ++ retired ∧ q.pool.completion = (p.pool.completion.filter fun n => n ∉ retired) ∧
      (∀ n ∈ retired, q.ticket n = {}) ∧ (∀ n ∉ retired, q.ticket n = p.ticket n) ∧
      (∀ x : Notice, q.isPending x = true ↔ p.isPending x = true ∨ (x = .completionsDropped ∧ retired ≠ [])) := by
  induction k generalizing p with
  | zero => simp [Part.retireUpTo]
  | succ k ih =>
    by_cases hfew : p.pool.free.length < 4
    · cases hr : p.retirables with
      | nil => simp [Part.retireUpTo, oldestRetirable_eq_head, hr]
      | cons n rest =>
        have hstep : p.retireUpTo (k + 1) = (p.retire n).retireUpTo k := by
          rw [Part.retireUpTo, if_pos hfew, oldestRetirable_eq_head, hr]
          rfl
        obtain ⟨hfree, hcompletion, -, -, -, -, -⟩ := retire_pool n p
        have hnodup : (p.retire n).pool.completion.Nodup := hcompletion ▸ hd.erase n
        have htake : (n :: rest).take (min (k + 1) (4 - p.pool.free.length)) =
            n :: (p.retire n).retirables.take (min k (4 - (p.retire n).pool.free.length)) := by
          rw [retirables_retire p n rest hd hr, hfree, List.length_append, List.length_singleton]
          rw [show min (k + 1) (4 - p.pool.free.length) = min k (4 - (p.pool.free.length + 1)) + 1 by omega]
          rfl
        obtain ⟨ifree, icompletion, iin, iout, ipend⟩ := ih (p.retire n) hnodup
        simp only [hstep, htake]
        refine ⟨by rw [ifree, hfree]; simp, ?_, ?_, ?_, ?_⟩
        · rw [icompletion, hcompletion, hd.erase_eq_filter, List.filter_filter]
          exact List.filter_congr fun m _ => by by_cases hm : m = n <;> simp [hm]
        · intro m hm
          rcases List.mem_cons.1 hm with rfl | hm
          · by_cases hin : m ∈ (p.retire m).retirables.take (min k (4 - (p.retire m).pool.free.length))
            · exact iin m hin
            · rw [iout m hin, ticket_retire_self]
          · exact iin m hm
        · intro m hm
          rw [List.mem_cons, not_or] at hm
          rw [iout m hm.2, ticket_retire p n m hm.1]
        · intro x
          rw [ipend x, isPending_retire]
          by_cases hx : x = .completionsDropped <;> simp [hx]
    · rw [retireUpTo_enough _ p (Nat.not_lt.1 hfew), Nat.sub_eq_zero_of_le (Nat.not_lt.1 hfew)]
      simp

/-- Auto-retire as R14 has it: four retirements are enough. -/
theorem autoRetire_exact (p : Part) (hd : p.pool.completion.Nodup) :
    let q := p.autoRetire
    let retired := p.retirables.take (4 - p.pool.free.length)
    q.pool.free = p.pool.free ++ retired ∧ q.pool.completion = (p.pool.completion.filter fun n => n ∉ retired) ∧
      (∀ n ∈ retired, q.ticket n = {}) ∧ (∀ n ∉ retired, q.ticket n = p.ticket n) ∧
      (∀ x : Notice, q.isPending x = true ↔ p.isPending x = true ∨ (x = .completionsDropped ∧ retired ≠ [])) := by
  have h := retireUpTo_exact 4 p hd
  rwa [Nat.min_eq_right (Nat.sub_le 4 _)] at h

end Sys2Proof.Machine

namespace Sys2Proof.Machine

/-! Draws, and the ends of LINK tickets (R7, R8, R12). -/

/-- What a granted draw leaves for auto-retire to judge. -/
def Part.takeHead (p : Part) (n : TicketNo) (rest : List TicketNo) (t : Ticket) : Part :=
  { p with pool.free := rest, pool.tickets := p.pool.tickets.set n t }

theorem ticket_takeHead (p : Part) (n m : TicketNo) (rest : List TicketNo) (t : Ticket) :
    (p.takeHead n rest t).ticket m = if m = n then t else p.ticket m := by
  simp only [Part.ticket, Part.takeHead, Fin.getElem_fin, Vector.getElem_set, Fin.ext_iff, eq_comm]

/-- A ticket outside the completion queue keeps its record in an auto-retire. -/
theorem ticket_autoRetire (p : Part) (n : TicketNo) (h : n ∉ p.pool.completion) : p.autoRetire.ticket n = p.ticket n := by
  obtain ⟨-, -, -, -, -, houtside, -⟩ := retireUpTo_pool 4 p
  exact houtside n h

/-- Everything a granted draw does to the pool. -/
theorem draw_pool (p : Part) (kind : TicketKind) (o : Origin) (tag : Option Byte) (r : Request) (n : TicketNo)
    (rest : List TicketNo) (hf : p.pool.free = n :: rest) (ht : o.threshold ≤ p.pool.free.length) :
    let d := p.draw kind o tag r
    d.1 = some n ∧ rest <+: d.2.pool.free ∧ d.2.pool.queue = p.pool.queue ∧ d.2.pool.iceSlot = p.pool.iceSlot ∧
      d.2.pool.defrostSlot = p.pool.defrostSlot ∧ d.2.pool.serviceSlot = p.pool.serviceSlot ∧
      (p.iceWants = none → d.2.pool.starvation = p.pool.starvation) ∧
      (n ∉ p.pool.completion → d.2.ticket n = Ticket.drawn kind o tag r) := by
  have hd : p.draw kind o tag r = (some n, (p.takeHead n rest (.drawn kind o tag r)).autoRetire) :=
    draw_granted p kind o tag r n rest hf ht
  obtain ⟨-, -, hprefix, -, -, -, hqueue, hice, hdefrost, hservice⟩ :=
    retireUpTo_pool 4 (p.takeHead n rest (.drawn kind o tag r))
  rw [hd]
  refine ⟨rfl, hprefix, hqueue, hice, hdefrost, hservice, fun hw => ?_, fun hn => ?_⟩
  · exact retireUpTo_starvation 4 _ ((iceWants_congr p _ rfl rfl rfl rfl).trans hw)
  · exact (ticket_autoRetire (p.takeHead n rest _) n hn).trans ((ticket_takeHead ..).trans (if_pos rfl))

/-- Where nothing is twice in the completion queue, the free list after a granted draw. -/
theorem draw_free (p : Part) (kind : TicketKind) (o : Origin) (tag : Option Byte) (r : Request) (n : TicketNo)
    (rest : List TicketNo) (hf : p.pool.free = n :: rest) (ht : o.threshold ≤ p.pool.free.length)
    (hn : n ∉ p.pool.completion) (hd : p.pool.completion.Nodup) :
    (p.draw kind o tag r).2.pool.free = rest ++ p.retirables.take (4 - rest.length) := by
  have hsame : (p.takeHead n rest (.drawn kind o tag r)).retirables = p.retirables :=
    List.filter_congr fun m hm => by rw [ticket_takeHead, if_neg fun h => hn (by rwa [← h])]
  rw [draw_granted p kind o tag r n rest hf ht, ← hsame]
  exact (autoRetire_exact (p.takeHead n rest (.drawn kind o tag r)) hd).1

/-- The end of a LINK ticket's work, in the pool (R12). -/
theorem finish_link_pool (p : Part) (n : TicketNo) (o : TicketOutcome) (h : (p.ticket n).origin = some .link) :
    (p.finish n o).pool =
      { p.pool.leaveHolder n with
        completion := p.pool.completion ++ [n]
        tickets := p.pool.tickets.set n (p.pool.tickets[n].finished p.clock.partSeconds o) } := by
  rw [finish_link p n o h]
  rfl

theorem emptied_ne (n : TicketNo) (slot : Option TicketNo) : emptied n slot ≠ some n := by
  unfold emptied; split
  · simp
  · assumption

/-- The end of a LINK ticket's work, in the records (R12). -/
theorem ticket_finish_link (p : Part) (n m : TicketNo) (o : TicketOutcome) (h : (p.ticket n).origin = some .link) :
    (p.finish n o).ticket m = if m = n then (p.ticket n).finished p.clock.partSeconds o else p.ticket m := by
  rw [finish_link p n o h, ticket_toCompletion]

/-- Settles O24: the exact list that auto-retire takes is `autoRetire_exact`, a draw is `draw_pool`. -/
theorem ticketsAreDrawnAndEnded : Obligations.TicketsAreDrawnAndEnded := by
  refine ⟨fun p kind o tag r => ⟨fun n rest ht hf => ?_, fun ht => ?_⟩, fun p => ?_, fun p n o hlink => ?_⟩
  · replace ht : o.threshold ≤ p.pool.free.length := by cases o <;> exact ht
    obtain ⟨hone, hprefix, -, -, -, -, hstarve, hrecord⟩ := draw_pool p kind o tag r n rest hf ht
    exact ⟨hone, hprefix, hstarve, fun hn hd => draw_free p kind o tag r n rest hf ht hn hd, hrecord⟩
  · replace ht : p.pool.free.length < o.threshold := by cases o <;> exact ht
    rw [draw_refused p kind o tag r ht]
    cases o <;> exact ⟨rfl, rfl, rfl, rfl⟩
  · obtain ⟨hend, hsub, hprefix, hkept, hfour, -, hqueue, hice, hdefrost, hservice⟩ := retireUpTo_pool 4 p
    refine ⟨fun hd => ?_, retireUpTo_enough 4 p, fun hfew => ?_, hsub, hprefix, fun n hn hlink =>
      hkept n hn (link_not_retirable _ hlink)⟩
    · obtain ⟨hfree, hcompletion, hin, hout, hpend⟩ := autoRetire_exact p hd
      exact ⟨hfree, hcompletion, hin, hout, hpend, hqueue, hice, hdefrost, hservice⟩
    · change p.pool.free.length < 4 → p.autoRetire.pool.free.length ≤ 4 at hfour
      rcases hend with (h : 4 ≤ p.autoRetire.pool.free.length) | h | (h : p.autoRetire.pool.free.length = _)
      · exact .inl (Nat.le_antisymm (hfour hfew) h)
      · refine .inr fun n hn => ?_
        have hno : ¬(p.autoRetire.ticket n).retirable = true := List.find?_eq_none.1 h n hn
        simpa [Ticket.retirable, not_or, and_assoc] using hno
      · exact .inl (Nat.le_antisymm (hfour hfew) (by omega))
  · have hself : (p.finish n o).ticket n = (p.ticket n).finished p.clock.partSeconds o := by
      rw [ticket_finish_link p n n o hlink, if_pos rfl]
    have hpool := finish_link_pool p n o hlink
    refine ⟨by rw [hpool]; rfl, ?_, ?_, ?_, by rw [hpool], by rw [hself]; rfl, by rw [hself]; rfl, by rw [hself]; rfl,
      by rw [hself]; rfl, fun m hm => by rw [ticket_finish_link p n m o hlink, if_neg hm], by rw [hpool]; rfl, ?_⟩
    iterate 3 rw [hpool]; exact emptied_ne n _
    rw [finish_link p n o hlink, Part.toCompletion, isPending_notify]
    rfl

end Sys2Proof.Machine

namespace Sys2Proof.Machine

/-! The ice maker's draw (R102). -/

/-- The waiting ice maker's draw where the pool grants it: what it wants is drawn, and takes its place. -/
theorem redraw_granted (p : Part) (kind : TicketKind) (n : TicketNo) (rest : List TicketNo)
    (hf : p.pool.free = n :: rest) (hfour : 4 ≤ p.pool.free.length) (hw : p.iceWants = some kind) :
    p.redraw =
      if kind = .harvest then (p.draw kind .iceMaker none {}).2.enterHarvestHeat n
      else (p.draw kind .iceMaker none {}).2.claimFill n := by
  have hone : (p.draw kind .iceMaker none {}).1 = some n := (draw_pool p kind .iceMaker none {} n rest hf hfour).1
  rw [Part.redraw, if_pos hfour, hw]
  rcases hd : p.draw kind .iceMaker none {} with ⟨m, q⟩
  rw [hd] at hone
  cases hone
  simp only [hd]

/-- A HARVEST's entry into HARVEST_HEAT: its record, and the ice maker's own. -/
theorem enterHarvestHeat_spec (p : Part) (n : TicketNo) :
    let q := p.enterHarvestHeat n
    q.pool.iceSlot = some n ∧ q.ice.state = .harvestHeat ∧ q.defrost.iceCopy = .harvestHeat ∧
      q.ice.notedSensor = false ∧ q.ice.attempts = 0 ∧ q.ice.heatStart = some p.clock.partSeconds ∧
      q.loads.heaters[(2 : HeaterNo)].ownerDemand = true ∧
      q.ticket n =
        { p.ticket n with
          state := .active
          progress := { startTime := some p.clock.partSeconds, sensor := p.ice.notedSensor } } := by
  refine ⟨rfl, rfl, rfl, rfl, rfl, rfl, ?_, ?_⟩
  · have hloads : (p.enterHarvestHeat n).loads = p.loads.update 2 Heater.raiseOwner := rfl
    rw [hloads, heaters_update, if_pos rfl]
    exact (raiseOwner_spec _).1
  · change (Part.updateTicket n _ (Part.activate n { p with pool.iceSlot := some n })).ticket n = _
    rw [ticket_updateTicket, if_pos rfl, Part.activate, ticket_updateTicket, if_pos rfl]
    rfl

/-- Settles O29. -/
theorem iceMakerDrawsWhenItCan : Obligations.IceMakerDrawsWhenItCan := by
  intro s dt n rest hr p hf hfour hn hslot
  have hdraw (kind : TicketKind) := draw_pool p kind .iceMaker none {} n rest hf hfour
  refine ⟨fun hst => ?_, fun hst hbeam hroom hprep hheating hdwell => ?_⟩
  · have hw : p.iceWants = some .moldFill := by simp [Part.iceWants, hst, hslot]
    obtain ⟨-, -, -, -, -, -, -, hrecord⟩ := hdraw .moldFill
    obtain ⟨-, -, hloads, hice, -, -⟩ := draw_frame .moldFill .iceMaker none {} p
    refine ⟨(p.draw .moldFill .iceMaker none {}).2.claimFill n, ?_, rfl, rfl, ?_⟩
    · rw [Becomes, exec, execInternalRedraw, take_next s dt _ hr, redraw_granted _ _ n rest hf hfour hw]
      rfl
    · have hticket : ((p.draw .moldFill .iceMaker none {}).2.claimFill n).ticket n = _ := hrecord hn
      rw [hticket]
      exact ⟨rfl, rfl, rfl, hice, hloads⟩
  · have hholds : p.ice.defrostCopy.holdsHarvest = false := by
      cases hc : p.ice.defrostCopy <;> simp_all [DefrostState.holdsHarvest]
    have hw : p.iceWants = some .harvest := by simp [Part.iceWants, hst, hslot, hbeam, hroom, hholds]
    obtain ⟨-, -, -, -, -, -, -, hrecord⟩ := hdraw .harvest
    obtain ⟨⟨hclock, -⟩, hline, hloads, hice, -, -⟩ := draw_frame .harvest .iceMaker none {} p
    obtain ⟨gslot, gstate, gcopy, gnoted, gattempts, gstart, gdemand, gticket⟩ :=
      enterHarvestHeat_spec (p.draw .harvest .iceMaker none {}).2 n
    refine ⟨(p.draw .harvest .iceMaker none {}).2.enterHarvestHeat n, ?_, gstate, gcopy, gslot, ?_, ?_, ?_, ?_, gnoted,
      gattempts, by rw [gstart, hclock], gdemand, ?_⟩
    · have hst' : (s.later dt).ice.state = .harvestWait := hst
      rw [Becomes, exec, execHarvestStart, take_next s dt _ hr, if_pos hst', redraw_granted _ _ n rest hf hfour hw]
      rfl
    all_goals simp [gticket, hrecord hn, hclock, hice, hline, Ticket.drawn]

end Sys2Proof.Machine

namespace Sys2Proof.Machine

/-! Each operation keeps the parameters legal and the lists bounded: one rule per operation, as the frames of the model have it. -/

/-- R9: no starvation count passes 255. -/
def Starvation.bounded (c : Starvation) : Prop :=
  c.link ≤ 255 ∧ c.paddle ≤ 255 ∧ c.iceMaker ≤ 255 ∧ c.defrost ≤ 255

/-- R31, R34: every ring holds at most 4 values and every run of good values at most 7. -/
def channelsBounded (cs : Vector Channel 6) : Prop :=
  ∀ ch : ChannelNo, cs[ch].ring.length ≤ 4 ∧ cs[ch].goodRun.length ≤ 7

/-- What leads from `p` to `q` keeps the parameters legal, and each list within its bound (R9, R31, R34, R170, R174 to
R176, R194). -/
@[simp] abbrev Part.StaysBounded (q p : Part) : Prop :=
  (p.supervision.params.legal → q.supervision.params.legal) ∧
    (p.link.inbox.length ≤ 4 → q.link.inbox.length ≤ 4) ∧ (p.defrost.log.length ≤ 8 → q.defrost.log.length ≤ 8) ∧
    (channelsBounded p.sense.channels → channelsBounded q.sense.channels) ∧
    (p.pool.starvation.bounded → q.pool.starvation.bounded)

theorem Part.StaysBounded.refl (p : Part) : p.StaysBounded p := ⟨id, id, id, id, id⟩

theorem Part.StaysBounded.trans {p q r : Part} (h : r.StaysBounded q) (g : q.StaysBounded p) : r.StaysBounded p := by
  obtain ⟨hp, hi, hl, hc, hs⟩ := h
  obtain ⟨gp, gi, gl, gc, gs⟩ := g
  exact ⟨hp ∘ gp, hi ∘ gi, hl ∘ gl, hc ∘ gc, hs ∘ gs⟩

/-- The bounded lists of a part, named one by one. -/
theorem listsBounded_iff (p : Part) :
    p.listsBounded ↔ p.link.inbox.length ≤ 4 ∧ p.defrost.log.length ≤ 8 ∧ channelsBounded p.sense.channels ∧
      p.pool.starvation.bounded := Iff.rfl

@[simp] theorem bump_bounded (o : Origin) (c : Starvation) (h : c.bounded) : (c.bump o).bounded := by
  obtain ⟨h1, h2, h3, h4⟩ := h
  cases o <;> simp [Starvation.bump, Starvation.bounded, *]

/-- R170: a record joins the ring of 8. -/
@[simp] theorem pushLog_bounded (log : List LogRecord) (r : LogRecord) (h : log.length ≤ 8) :
    (pushLog log r).length ≤ 8 := by
  unfold pushLog
  split <;> simp <;> omega

@[simp] theorem leaveHolder_starvation (n : TicketNo) (q : Pool) : (q.leaveHolder n).starvation = q.starvation := rfl

@[simp] theorem addCredit_log (m : Nat) (d : Defrost) : (d.addCredit m).log = d.log := rfl

@[simp] theorem notify_bounded (x : Notice) (p : Part) :
    (Part.notify x p).StaysBounded p := by
  unfold Part.notify; (try dsimp only); (repeat' split) <;> simp +contextual -implicitDefEqProofs (maxDischargeDepth := 20)

@[simp] theorem updateTicket_bounded (n : TicketNo) (f : Ticket → Ticket) (p : Part) :
    (Part.updateTicket n f p).StaysBounded p := by
  unfold Part.updateTicket; (try dsimp only); (repeat' split) <;> simp +contextual -implicitDefEqProofs (maxDischargeDepth := 20)

@[simp] theorem updateSlot_bounded (o : Option TicketNo) (f : Ticket → Ticket) (p : Part) :
    (Part.updateSlot o f p).StaysBounded p := by
  unfold Part.updateSlot; (try dsimp only); (repeat' split) <;> simp +contextual -implicitDefEqProofs (maxDischargeDepth := 20)

@[simp] theorem activate_bounded (n : TicketNo) (p : Part) :
    (Part.activate n p).StaysBounded p := by
  unfold Part.activate; (try dsimp only); (repeat' split) <;> simp +contextual -implicitDefEqProofs (maxDischargeDepth := 20)

@[simp] theorem starve_bounded (o : Origin) (p : Part) :
    (Part.starve o p).StaysBounded p := by
  unfold Part.starve; (try dsimp only); (repeat' split) <;> simp +contextual -implicitDefEqProofs (maxDischargeDepth := 20)

@[simp] theorem iceAttempt_bounded (p : Part) :
    (p.iceAttempt).StaysBounded p := by
  unfold Part.iceAttempt; (try dsimp only); (repeat' split) <;> simp +contextual -implicitDefEqProofs (maxDischargeDepth := 20)

@[simp] theorem harvestAttempt_bounded (p : Part) :
    (p.harvestAttempt).StaysBounded p := by
  unfold Part.harvestAttempt; (try dsimp only); (repeat' split) <;> simp +contextual -implicitDefEqProofs (maxDischargeDepth := 20)

@[simp] theorem setIceState_bounded (st : IceState) (p : Part) :
    (Part.setIceState st p).StaysBounded p := by
  unfold Part.setIceState; (try dsimp only); (repeat' split) <;> simp +contextual -implicitDefEqProofs (maxDischargeDepth := 20)

@[simp] theorem setDefrostState_bounded (st : DefrostState) (p : Part) :
    (Part.setDefrostState st p).StaysBounded p := by
  unfold Part.setDefrostState; (try dsimp only); (repeat' split) <;> simp +contextual -implicitDefEqProofs (maxDischargeDepth := 20)

@[simp] theorem joinFree_bounded (n : TicketNo) (p : Part) :
    (Part.joinFree n p).StaysBounded p := by
  unfold Part.joinFree; (try dsimp only); (repeat' split) <;> simp +contextual -implicitDefEqProofs (maxDischargeDepth := 20)

@[simp] theorem retire_bounded (n : TicketNo) (p : Part) :
    (Part.retire n p).StaysBounded p := by
  unfold Part.retire; (try dsimp only); (repeat' split) <;> simp +contextual -implicitDefEqProofs (maxDischargeDepth := 20)

@[simp] theorem retireUpTo_bounded (k : Nat) (p : Part) :
    (Part.retireUpTo k p).StaysBounded p := by
  induction k generalizing p with
  | zero => exact .refl p
  | succ k ih =>
    unfold Part.retireUpTo
    (repeat' split) <;> simp +contextual -implicitDefEqProofs (maxDischargeDepth := 20) [ih]

@[simp] theorem autoRetire_bounded (p : Part) :
    (p.autoRetire).StaysBounded p := by
  unfold Part.autoRetire; (try dsimp only); (repeat' split) <;> simp +contextual -implicitDefEqProofs (maxDischargeDepth := 20)

@[simp] theorem draw_bounded (k : TicketKind) (o : Origin) (t : Option Byte) (r : Request) (p : Part) :
    (p.draw k o t r).2.StaysBounded p := by
  unfold Part.draw; (repeat' split) <;> simp +contextual -implicitDefEqProofs (maxDischargeDepth := 20)

@[simp] theorem toCompletion_bounded (n : TicketNo) (o : TicketOutcome) (p : Part) :
    (Part.toCompletion n o p).StaysBounded p := by
  unfold Part.toCompletion; (try dsimp only); (repeat' split) <;> simp +contextual -implicitDefEqProofs (maxDischargeDepth := 20)

@[simp] theorem finish_bounded (n : TicketNo) (o : TicketOutcome) (p : Part) :
    (Part.finish n o p).StaysBounded p := by
  unfold Part.finish; (try dsimp only); (repeat' split) <;> simp +contextual -implicitDefEqProofs (maxDischargeDepth := 20)

@[simp] theorem finishSlot_bounded (s : Option TicketNo) (o : TicketOutcome) (p : Part) :
    (Part.finishSlot s o p).StaysBounded p := by
  unfold Part.finishSlot; (try dsimp only); (repeat' split) <;> simp +contextual -implicitDefEqProofs (maxDischargeDepth := 20)

@[simp] theorem raiseOwner_bounded (n : HeaterNo) (p : Part) :
    (Part.raiseOwner n p).StaysBounded p := by
  unfold Part.raiseOwner; (try dsimp only); (repeat' split) <;> simp +contextual -implicitDefEqProofs (maxDischargeDepth := 20)

@[simp] theorem dropOwner_bounded (n : HeaterNo) (p : Part) :
    (Part.dropOwner n p).StaysBounded p := by
  unfold Part.dropOwner; (try dsimp only); (repeat' split) <;> simp +contextual -implicitDefEqProofs (maxDischargeDepth := 20)

@[simp] theorem dropTest_bounded (n : HeaterNo) (p : Part) :
    (Part.dropTest n p).StaysBounded p := by
  unfold Part.dropTest; (try dsimp only); (repeat' split) <;> simp +contextual -implicitDefEqProofs (maxDischargeDepth := 20)

@[simp] theorem updateCycle_bounded (f : Cycle → Cycle) (p : Part) :
    (Part.updateCycle f p).StaysBounded p := by
  unfold Part.updateCycle; (try dsimp only); (repeat' split) <;> simp +contextual -implicitDefEqProofs (maxDischargeDepth := 20)

@[simp] theorem fillCompletion_bounded (p : Part) :
    (p.fillCompletion).StaysBounded p := by
  unfold Part.fillCompletion; (try dsimp only); (repeat' split) <;> simp +contextual -implicitDefEqProofs (maxDischargeDepth := 20)

@[simp] theorem enterWanted_bounded (p : Part) :
    (p.enterWanted).StaysBounded p := by
  unfold Part.enterWanted; (try dsimp only); (repeat' split) <;> simp +contextual -implicitDefEqProofs (maxDischargeDepth := 20)

@[simp] theorem compareTarget_bounded (p : Part) :
    (p.compareTarget).StaysBounded p := by
  unfold Part.compareTarget; (try dsimp only); (repeat' split) <;> simp +contextual -implicitDefEqProofs (maxDischargeDepth := 20)

@[simp] theorem flagDefrostSensor_bounded (p : Part) :
    (p.flagDefrostSensor).StaysBounded p := by
  unfold Part.flagDefrostSensor; (try dsimp only); (repeat' split) <;> simp +contextual -implicitDefEqProofs (maxDischargeDepth := 20)

@[simp] theorem enterHeating_bounded (p : Part) :
    (p.enterHeating).StaysBounded p := by
  unfold Part.enterHeating; (try dsimp only); (repeat' split) <;> simp +contextual -implicitDefEqProofs (maxDischargeDepth := 20)

@[simp] theorem prepWait_bounded (p : Part) :
    (p.prepWait).StaysBounded p := by
  unfold Part.prepWait; (try dsimp only); (repeat' split) <;> simp +contextual -implicitDefEqProofs (maxDischargeDepth := 20)

@[simp] theorem enterPrep_bounded (forced ungranted : Bool) (p : Part) :
    (Part.enterPrep forced ungranted p).StaysBounded p := by
  unfold Part.enterPrep; (try dsimp only); (repeat' split) <;> simp +contextual -implicitDefEqProofs (maxDischargeDepth := 20)

@[simp] theorem enterDeferred_bounded (m : Nat) (p : Part) :
    (Part.enterDeferred m p).StaysBounded p := by
  unfold Part.enterDeferred; (try dsimp only); (repeat' split) <;> simp +contextual -implicitDefEqProofs (maxDischargeDepth := 20)

@[simp] theorem endDefer_bounded (p : Part) :
    (p.endDefer).StaysBounded p := by
  unfold Part.endDefer; (try dsimp only); (repeat' split) <;> simp +contextual -implicitDefEqProofs (maxDischargeDepth := 20)

@[simp] theorem endHeating_bounded (r : EndReason) (p : Part) :
    (Part.endHeating r p).StaysBounded p := by
  unfold Part.endHeating; (try dsimp only); (repeat' split) <;> simp +contextual -implicitDefEqProofs (maxDischargeDepth := 20)

@[simp] theorem endDwell_bounded (p : Part) :
    (p.endDwell).StaysBounded p := by
  unfold Part.endDwell; (try dsimp only); (repeat' split) <;> simp +contextual -implicitDefEqProofs (maxDischargeDepth := 20)

@[simp] theorem writeLog_bounded (r : EndReason) (t : Nat) (p : Part) :
    (Part.writeLog r t p).StaysBounded p := by
  unfold Part.writeLog; (try dsimp only); (repeat' split) <;> simp +contextual -implicitDefEqProofs (maxDischargeDepth := 20)

@[simp] theorem endRecover_bounded (p : Part) :
    (p.endRecover).StaysBounded p := by
  unfold Part.endRecover; (try dsimp only); (repeat' split) <;> simp +contextual -implicitDefEqProofs (maxDischargeDepth := 20)

@[simp] theorem abortPrep_bounded (p : Part) :
    (p.abortPrep).StaysBounded p := by
  unfold Part.abortPrep; (try dsimp only); (repeat' split) <;> simp +contextual -implicitDefEqProofs (maxDischargeDepth := 20)

@[simp] theorem writeResetRecord_bounded (p : Part) :
    (p.writeResetRecord).StaysBounded p := by
  unfold Part.writeResetRecord; (try dsimp only); (repeat' split) <;> simp +contextual -implicitDefEqProofs (maxDischargeDepth := 20)

@[simp] theorem compareHeatLimit_bounded (p : Part) :
    (p.compareHeatLimit).StaysBounded p := by
  unfold Part.compareHeatLimit; (try dsimp only); (repeat' split) <;> simp +contextual -implicitDefEqProofs (maxDischargeDepth := 20)

@[simp] theorem evapReading_bounded (e : Bool) (p : Part) :
    (Part.evapReading e p).StaysBounded p := by
  unfold Part.evapReading; (try dsimp only); (repeat' split) <;> simp +contextual -implicitDefEqProofs (maxDischargeDepth := 20)

@[simp] theorem compareWantLimit_bounded (p : Part) :
    (p.compareWantLimit).StaysBounded p := by
  unfold Part.compareWantLimit; (try dsimp only); (repeat' split) <;> simp +contextual -implicitDefEqProofs (maxDischargeDepth := 20)

@[simp] theorem clampTarget_bounded (p : Part) :
    (p.clampTarget).StaysBounded p := by
  unfold Part.clampTarget; (try dsimp only); (repeat' split) <;> simp +contextual -implicitDefEqProofs (maxDischargeDepth := 20)

@[simp] theorem openLine_bounded (u : LineUser) (n : TicketNo) (p : Part) :
    (Part.openLine u n p).StaysBounded p := by
  unfold Part.openLine; (try dsimp only); (repeat' split) <;> simp +contextual -implicitDefEqProofs (maxDischargeDepth := 20)

@[simp] theorem grantFill_bounded (n : TicketNo) (p : Part) :
    (Part.grantFill n p).StaysBounded p := by
  unfold Part.grantFill; (try dsimp only); (repeat' split) <;> simp +contextual -implicitDefEqProofs (maxDischargeDepth := 20)

@[simp] theorem pauseLine_bounded (p : Part) :
    (p.pauseLine).StaysBounded p := by
  unfold Part.pauseLine; (try dsimp only); (repeat' split) <;> simp +contextual -implicitDefEqProofs (maxDischargeDepth := 20)

@[simp] theorem resumeLine_bounded (p : Part) :
    (p.resumeLine).StaysBounded p := by
  unfold Part.resumeLine; (try dsimp only); (repeat' split) <;> simp +contextual -implicitDefEqProofs (maxDischargeDepth := 20)

@[simp] theorem updateHead_bounded (f : Ticket → Ticket) (p : Part) :
    (Part.updateHead f p).StaysBounded p := by
  unfold Part.updateHead; (try dsimp only); (repeat' split) <;> simp +contextual -implicitDefEqProofs (maxDischargeDepth := 20)

@[simp] theorem activateHead_bounded (n : TicketNo) (p : Part) :
    (Part.activateHead n p).StaysBounded p := by
  unfold Part.activateHead; (try dsimp only); (repeat' split) <;> simp +contextual -implicitDefEqProofs (maxDischargeDepth := 20)

@[simp] theorem grantDispense_bounded (n : TicketNo) (p : Part) :
    (Part.grantDispense n p).StaysBounded p := by
  unfold Part.grantDispense; (try dsimp only); (repeat' split) <;> simp +contextual -implicitDefEqProofs (maxDischargeDepth := 20)

@[simp] theorem tellEnding_bounded (u : LineUser) (o : TicketOutcome) (p : Part) :
    (Part.tellEnding u o p).StaysBounded p := by
  unfold Part.tellEnding; (try dsimp only); (repeat' split) <;> simp +contextual -implicitDefEqProofs (maxDischargeDepth := 20)

@[simp] theorem endWork_bounded (r : EndingReason) (p : Part) :
    (Part.endWork r p).StaysBounded p := by
  unfold Part.endWork; (try dsimp only); (repeat' split) <;> simp +contextual -implicitDefEqProofs (maxDischargeDepth := 20)

@[simp] theorem suspendFill_bounded (n : TicketNo) (p : Part) :
    (Part.suspendFill n p).StaysBounded p := by
  unfold Part.suspendFill; (try dsimp only); (repeat' split) <;> simp +contextual -implicitDefEqProofs (maxDischargeDepth := 20)

@[simp] theorem resumeFill_bounded (w : Work) (p : Part) :
    (Part.resumeFill w p).StaysBounded p := by
  unfold Part.resumeFill; (try dsimp only); (repeat' split) <;> simp +contextual -implicitDefEqProofs (maxDischargeDepth := 20)

@[simp] theorem judgeFill_bounded (p : Part) :
    (p.judgeFill).StaysBounded p := by
  unfold Part.judgeFill; (try dsimp only); (repeat' split) <;> simp +contextual -implicitDefEqProofs (maxDischargeDepth := 20)

@[simp] theorem giveLine_bounded (p : Part) :
    (p.giveLine).StaysBounded p := by
  unfold Part.giveLine; (try dsimp only); (repeat' split) <;> simp +contextual -implicitDefEqProofs (maxDischargeDepth := 20)

@[simp] theorem writeAmounts_bounded (w : Work) (p : Part) :
    (Part.writeAmounts w p).StaysBounded p := by
  unfold Part.writeAmounts; (try dsimp only); (repeat' split) <;> simp +contextual -implicitDefEqProofs (maxDischargeDepth := 20)

@[simp] theorem compareOpenLimit_bounded (p : Part) :
    (p.compareOpenLimit).StaysBounded p := by
  unfold Part.compareOpenLimit; (try dsimp only); (repeat' split) <;> simp +contextual -implicitDefEqProofs (maxDischargeDepth := 20)

@[simp] theorem compareNoFlow_bounded (p : Part) :
    (p.compareNoFlow).StaysBounded p := by
  unfold Part.compareNoFlow; (try dsimp only); (repeat' split) <;> simp +contextual -implicitDefEqProofs (maxDischargeDepth := 20)

@[simp] theorem judgeFilter_bounded (p : Part) :
    (p.judgeFilter).StaysBounded p := by
  unfold Part.judgeFilter; (try dsimp only); (repeat' split) <;> simp +contextual -implicitDefEqProofs (maxDischargeDepth := 20)

@[simp] theorem filterPulse_bounded (p : Part) :
    (p.filterPulse).StaysBounded p := by
  unfold Part.filterPulse; (try dsimp only); (repeat' split) <;> simp +contextual -implicitDefEqProofs (maxDischargeDepth := 20)

@[simp] theorem filterSecond_bounded (p : Part) :
    (p.filterSecond).StaysBounded p := by
  unfold Part.filterSecond; (try dsimp only); (repeat' split) <;> simp +contextual -implicitDefEqProofs (maxDischargeDepth := 20)

@[simp] theorem setLeakLatch_bounded (p : Part) :
    (p.setLeakLatch).StaysBounded p := by
  unfold Part.setLeakLatch; (try dsimp only); (repeat' split) <;> simp +contextual -implicitDefEqProofs (maxDischargeDepth := 20)

@[simp] theorem leakPulse_bounded (p : Part) :
    (p.leakPulse).StaysBounded p := by
  unfold Part.leakPulse; (try dsimp only); (repeat' split) <;> simp +contextual -implicitDefEqProofs (maxDischargeDepth := 20)

@[simp] theorem checkTarget_bounded (p : Part) :
    (p.checkTarget).StaysBounded p := by
  unfold Part.checkTarget; (try dsimp only); (repeat' split) <;> simp +contextual -implicitDefEqProofs (maxDischargeDepth := 20)

@[simp] theorem creditPulse_bounded (p : Part) :
    (p.creditPulse).StaysBounded p := by
  unfold Part.creditPulse; (try dsimp only); (repeat' split) <;> simp +contextual -implicitDefEqProofs (maxDischargeDepth := 20)

@[simp] theorem endDryRetry_bounded (p : Part) :
    (p.endDryRetry).StaysBounded p := by
  unfold Part.endDryRetry; (try dsimp only); (repeat' split) <;> simp +contextual -implicitDefEqProofs (maxDischargeDepth := 20)

@[simp] theorem clearLeakLatch_bounded (p : Part) :
    (p.clearLeakLatch).StaysBounded p := by
  unfold Part.clearLeakLatch; (try dsimp only); (repeat' split) <;> simp +contextual -implicitDefEqProofs (maxDischargeDepth := 20)

@[simp] theorem setStock_bounded (n : Nat) (p : Part) :
    (Part.setStock n p).StaysBounded p := by
  unfold Part.setStock; (try dsimp only); (repeat' split) <;> simp +contextual -implicitDefEqProofs (maxDischargeDepth := 20)

@[simp] theorem reportAuger_bounded (ms : Nat) (p : Part) :
    (Part.reportAuger ms p).StaysBounded p := by
  unfold Part.reportAuger; (try dsimp only); (repeat' split) <;> simp +contextual -implicitDefEqProofs (maxDischargeDepth := 20)

@[simp] theorem enterIceFault_bounded (p : Part) :
    (p.enterIceFault).StaysBounded p := by
  unfold Part.enterIceFault; (try dsimp only); (repeat' split) <;> simp +contextual -implicitDefEqProofs (maxDischargeDepth := 20)

@[simp] theorem enterFreezing_bounded (p : Part) :
    (p.enterFreezing).StaysBounded p := by
  unfold Part.enterFreezing; (try dsimp only); (repeat' split) <;> simp +contextual -implicitDefEqProofs (maxDischargeDepth := 20)

@[simp] theorem enterFillWait_bounded (p : Part) :
    (p.enterFillWait).StaysBounded p := by
  unfold Part.enterFillWait; (try dsimp only); (repeat' split) <;> simp +contextual -implicitDefEqProofs (maxDischargeDepth := 20)

@[simp] theorem enterParked_bounded (p : Part) :
    (p.enterParked).StaysBounded p := by
  unfold Part.enterParked; (try dsimp only); (repeat' split) <;> simp +contextual -implicitDefEqProofs (maxDischargeDepth := 20)

@[simp] theorem homingSucceeds_bounded (p : Part) :
    (p.homingSucceeds).StaysBounded p := by
  unfold Part.homingSucceeds; (try dsimp only); (repeat' split) <;> simp +contextual -implicitDefEqProofs (maxDischargeDepth := 20)

@[simp] theorem homeNow_bounded (p : Part) :
    (p.homeNow).StaysBounded p := by
  unfold Part.homeNow; (try dsimp only); (repeat' split) <;> simp +contextual -implicitDefEqProofs (maxDischargeDepth := 20)

@[simp] theorem enterHoming_bounded (p : Part) :
    (p.enterHoming).StaysBounded p := by
  unfold Part.enterHoming; (try dsimp only); (repeat' split) <;> simp +contextual -implicitDefEqProofs (maxDischargeDepth := 20)

@[simp] theorem driveEjector_bounded (p : Part) :
    (p.driveEjector).StaysBounded p := by
  unfold Part.driveEjector; (try dsimp only); (repeat' split) <;> simp +contextual -implicitDefEqProofs (maxDischargeDepth := 20)

@[simp] theorem beginAttempt_bounded (p : Part) :
    (p.beginAttempt).StaysBounded p := by
  unfold Part.beginAttempt; (try dsimp only); (repeat' split) <;> simp +contextual -implicitDefEqProofs (maxDischargeDepth := 20)

@[simp] theorem endHeat_bounded (m : Bool) (p : Part) :
    (Part.endHeat m p).StaysBounded p := by
  unfold Part.endHeat; (try dsimp only); (repeat' split) <;> simp +contextual -implicitDefEqProofs (maxDischargeDepth := 20)

@[simp] theorem compareMoldLimit_bounded (p : Part) :
    (p.compareMoldLimit).StaysBounded p := by
  unfold Part.compareMoldLimit; (try dsimp only); (repeat' split) <;> simp +contextual -implicitDefEqProofs (maxDischargeDepth := 20)

@[simp] theorem endFreeze_bounded (b : Bool) (p : Part) :
    (Part.endFreeze b p).StaysBounded p := by
  unfold Part.endFreeze; (try dsimp only); (repeat' split) <;> simp +contextual -implicitDefEqProofs (maxDischargeDepth := 20)

@[simp] theorem takeFreeze_bounded (p : Part) :
    (p.takeFreeze).StaysBounded p := by
  unfold Part.takeFreeze; (try dsimp only); (repeat' split) <;> simp +contextual -implicitDefEqProofs (maxDischargeDepth := 20)

@[simp] theorem takeFaultFreeze_bounded (p : Part) :
    (p.takeFaultFreeze).StaysBounded p := by
  unfold Part.takeFaultFreeze; (try dsimp only); (repeat' split) <;> simp +contextual -implicitDefEqProofs (maxDischargeDepth := 20)

@[simp] theorem freezeReading_bounded (p : Part) :
    (p.freezeReading).StaysBounded p := by
  unfold Part.freezeReading; (try dsimp only); (repeat' split) <;> simp +contextual -implicitDefEqProofs (maxDischargeDepth := 20)

@[simp] theorem heatReading_bounded (e : Bool) (p : Part) :
    (Part.heatReading e p).StaysBounded p := by
  unfold Part.heatReading; (try dsimp only); (repeat' split) <;> simp +contextual -implicitDefEqProofs (maxDischargeDepth := 20)

@[simp] theorem moldReading_bounded (e : Bool) (p : Part) :
    (Part.moldReading e p).StaysBounded p := by
  unfold Part.moldReading; (try dsimp only); (repeat' split) <;> simp +contextual -implicitDefEqProofs (maxDischargeDepth := 20)

@[simp] theorem afterFill_bounded (o : TicketOutcome) (l : Bool) (p : Part) :
    (Part.afterFill o l p).StaysBounded p := by
  unfold Part.afterFill; (try dsimp only); (repeat' split) <;> simp +contextual -implicitDefEqProofs (maxDischargeDepth := 20)

@[simp] theorem fillEnded_bounded (r : EndingReason) (w : Work) (p : Part) :
    (Part.fillEnded r w p).StaysBounded p := by
  unfold Part.fillEnded; (try dsimp only); (repeat' split) <;> simp +contextual -implicitDefEqProofs (maxDischargeDepth := 20)

@[simp] theorem ejectSucceeds_bounded (p : Part) :
    (p.ejectSucceeds).StaysBounded p := by
  unfold Part.ejectSucceeds; (try dsimp only); (repeat' split) <;> simp +contextual -implicitDefEqProofs (maxDischargeDepth := 20)

@[simp] theorem endEjectorTest_bounded (n : TicketNo) (o : TicketOutcome) (p : Part) :
    (Part.endEjectorTest n o p).StaysBounded p := by
  unfold Part.endEjectorTest; (try dsimp only); (repeat' split) <;> simp +contextual -implicitDefEqProofs (maxDischargeDepth := 20)

@[simp] theorem startEjectorTest_bounded (p : Part) :
    (p.startEjectorTest).StaysBounded p := by
  unfold Part.startEjectorTest; (try dsimp only); (repeat' split) <;> simp +contextual -implicitDefEqProofs (maxDischargeDepth := 20)

@[simp] theorem abandonEjectorTest_bounded (n : TicketNo) (o : TicketOutcome) (p : Part) :
    (Part.abandonEjectorTest n o p).StaysBounded p := by
  unfold Part.abandonEjectorTest; (try dsimp only); (repeat' split) <;> simp +contextual -implicitDefEqProofs (maxDischargeDepth := 20)

@[simp] theorem attemptSucceeds_bounded (p : Part) :
    (p.attemptSucceeds).StaysBounded p := by
  unfold Part.attemptSucceeds; (try dsimp only); (repeat' split) <;> simp +contextual -implicitDefEqProofs (maxDischargeDepth := 20)

@[simp] theorem attemptFails_bounded (p : Part) :
    (p.attemptFails).StaysBounded p := by
  unfold Part.attemptFails; (try dsimp only); (repeat' split) <;> simp +contextual -implicitDefEqProofs (maxDischargeDepth := 20)

@[simp] theorem homeChanged_bounded (c : Contact) (p : Part) :
    (Part.homeChanged c p).StaysBounded p := by
  unfold Part.homeChanged; (try dsimp only); (repeat' split) <;> simp +contextual -implicitDefEqProofs (maxDischargeDepth := 20)

@[simp] theorem homeFirstRead_bounded (p : Part) :
    (p.homeFirstRead).StaysBounded p := by
  unfold Part.homeFirstRead; (try dsimp only); (repeat' split) <;> simp +contextual -implicitDefEqProofs (maxDischargeDepth := 20)

@[simp] theorem homingFails_bounded (p : Part) :
    (p.homingFails).StaysBounded p := by
  unfold Part.homingFails; (try dsimp only); (repeat' split) <;> simp +contextual -implicitDefEqProofs (maxDischargeDepth := 20)

@[simp] theorem endIceSettle_bounded (p : Part) :
    (p.endIceSettle).StaysBounded p := by
  unfold Part.endIceSettle; (try dsimp only); (repeat' split) <;> simp +contextual -implicitDefEqProofs (maxDischargeDepth := 20)

@[simp] theorem beamChanged_bounded (p : Part) :
    (p.beamChanged).StaysBounded p := by
  unfold Part.beamChanged; (try dsimp only); (repeat' split) <;> simp +contextual -implicitDefEqProofs (maxDischargeDepth := 20)

@[simp] theorem capacityChanged_bounded (p : Part) :
    (p.capacityChanged).StaysBounded p := by
  unfold Part.capacityChanged; (try dsimp only); (repeat' split) <;> simp +contextual -implicitDefEqProofs (maxDischargeDepth := 20)

@[simp] theorem enterHarvestHeat_bounded (n : TicketNo) (p : Part) :
    (Part.enterHarvestHeat n p).StaysBounded p := by
  unfold Part.enterHarvestHeat; (try dsimp only); (repeat' split) <;> simp +contextual -implicitDefEqProofs (maxDischargeDepth := 20)

@[simp] theorem claimFill_bounded (n : TicketNo) (p : Part) :
    (Part.claimFill n p).StaysBounded p := by
  unfold Part.claimFill; (try dsimp only); (repeat' split) <;> simp +contextual -implicitDefEqProofs (maxDischargeDepth := 20)

@[simp] theorem redraw_bounded (p : Part) :
    (p.redraw).StaysBounded p := by
  unfold Part.redraw
  split
  next =>
    cases p.iceWants with
    | none => exact .refl p
    | some kind =>
      have hd := draw_bounded kind .iceMaker none {} p
      dsimp only
      generalize p.draw kind .iceMaker none {} = d at hd ⊢
      rcases d with ⟨_ | n, q⟩
      · exact hd
      · refine .trans ?_ hd
        by_cases hk : kind = .harvest <;> simp +contextual -implicitDefEqProofs (maxDischargeDepth := 20) [hk]
  next => exact .refl p

@[simp] theorem parkFilling_bounded (p : Part) :
    (p.parkFilling).StaysBounded p := by
  unfold Part.parkFilling; (try dsimp only); (repeat' split) <;> simp +contextual -implicitDefEqProofs (maxDischargeDepth := 20)

@[simp] theorem parkFillWait_bounded (p : Part) :
    (p.parkFillWait).StaysBounded p := by
  unfold Part.parkFillWait; (try dsimp only); (repeat' split) <;> simp +contextual -implicitDefEqProofs (maxDischargeDepth := 20)

@[simp] theorem idleOutlet_bounded (p : Part) :
    (p.idleOutlet).StaysBounded p := by
  unfold Part.idleOutlet; (try dsimp only); (repeat' split) <;> simp +contextual -implicitDefEqProofs (maxDischargeDepth := 20)

@[simp] theorem finishHead_bounded (o : TicketOutcome) (p : Part) :
    (Part.finishHead o p).StaysBounded p := by
  unfold Part.finishHead; (try dsimp only); (repeat' split) <;> simp +contextual -implicitDefEqProofs (maxDischargeDepth := 20)

@[simp] theorem finishUnstarted_bounded (o : TicketOutcome) (p : Part) :
    (Part.finishUnstarted o p).StaysBounded p := by
  unfold Part.finishUnstarted; (try dsimp only); (repeat' split) <;> simp +contextual -implicitDefEqProofs (maxDischargeDepth := 20)

@[simp] theorem leaveClosed_bounded (p : Part) :
    (p.leaveClosed).StaysBounded p := by
  unfold Part.leaveClosed; (try dsimp only); (repeat' split) <;> simp +contextual -implicitDefEqProofs (maxDischargeDepth := 20)

@[simp] theorem beginOpening_bounded (p : Part) :
    (p.beginOpening).StaysBounded p := by
  unfold Part.beginOpening; (try dsimp only); (repeat' split) <;> simp +contextual -implicitDefEqProofs (maxDischargeDepth := 20)

@[simp] theorem beginClosing_bounded (p : Part) :
    (p.beginClosing).StaysBounded p := by
  unfold Part.beginClosing; (try dsimp only); (repeat' split) <;> simp +contextual -implicitDefEqProofs (maxDischargeDepth := 20)

@[simp] theorem startDuct_bounded (p : Part) :
    (p.startDuct).StaysBounded p := by
  unfold Part.startDuct; (try dsimp only); (repeat' split) <;> simp +contextual -implicitDefEqProofs (maxDischargeDepth := 20)

@[simp] theorem flapCloses_bounded (p : Part) :
    (p.flapCloses).StaysBounded p := by
  unfold Part.flapCloses; (try dsimp only); (repeat' split) <;> simp +contextual -implicitDefEqProofs (maxDischargeDepth := 20)

@[simp] theorem stopAuger_bounded (p : Part) :
    (p.stopAuger).StaysBounded p := by
  unfold Part.stopAuger; (try dsimp only); (repeat' split) <;> simp +contextual -implicitDefEqProofs (maxDischargeDepth := 20)

@[simp] theorem endRun_bounded (p : Part) :
    (p.endRun).StaysBounded p := by
  unfold Part.endRun; (try dsimp only); (repeat' split) <;> simp +contextual -implicitDefEqProofs (maxDischargeDepth := 20)

@[simp] theorem stopping_bounded (o : TicketOutcome) (p : Part) :
    (Part.stopping o p).StaysBounded p := by
  unfold Part.stopping; (try dsimp only); (repeat' split) <;> simp +contextual -implicitDefEqProofs (maxDischargeDepth := 20)

@[simp] theorem stopRun_bounded (o : TicketOutcome) (p : Part) :
    (Part.stopRun o p).StaysBounded p := by
  unfold Part.stopRun; (try dsimp only); (repeat' split) <;> simp +contextual -implicitDefEqProofs (maxDischargeDepth := 20)

@[simp] theorem enterClosing_bounded (p : Part) :
    (p.enterClosing).StaysBounded p := by
  unfold Part.enterClosing; (try dsimp only); (repeat' split) <;> simp +contextual -implicitDefEqProofs (maxDischargeDepth := 20)

@[simp] theorem abandonOpening_bounded (o : TicketOutcome) (p : Part) :
    (Part.abandonOpening o p).StaysBounded p := by
  unfold Part.abandonOpening; (try dsimp only); (repeat' split) <;> simp +contextual -implicitDefEqProofs (maxDischargeDepth := 20)

@[simp] theorem stopChuteTest_bounded (o : TicketOutcome) (p : Part) :
    (Part.stopChuteTest o p).StaysBounded p := by
  unfold Part.stopChuteTest; (try dsimp only); (repeat' split) <;> simp +contextual -implicitDefEqProofs (maxDischargeDepth := 20)

@[simp] theorem stopDelivery_bounded (o : TicketOutcome) (p : Part) :
    (Part.stopDelivery o p).StaysBounded p := by
  unfold Part.stopDelivery; (try dsimp only); (repeat' split) <;> simp +contextual -implicitDefEqProofs (maxDischargeDepth := 20)

@[simp] theorem stopHead_bounded (o : TicketOutcome) (p : Part) :
    (Part.stopHead o p).StaysBounded p := by
  unfold Part.stopHead; (try dsimp only); (repeat' split) <;> simp +contextual -implicitDefEqProofs (maxDischargeDepth := 20)

@[simp] theorem claimDispense_bounded (n : TicketNo) (p : Part) :
    (Part.claimDispense n p).StaysBounded p := by
  unfold Part.claimDispense; (try dsimp only); (repeat' split) <;> simp +contextual -implicitDefEqProofs (maxDischargeDepth := 20)

@[simp] theorem startWater_bounded (n : TicketNo) (p : Part) :
    (Part.startWater n p).StaysBounded p := by
  unfold Part.startWater; (try dsimp only); (repeat' split) <;> simp +contextual -implicitDefEqProofs (maxDischargeDepth := 20)

@[simp] theorem startFlap_bounded (n : TicketNo) (p : Part) :
    (Part.startFlap n p).StaysBounded p := by
  unfold Part.startFlap; (try dsimp only); (repeat' split) <;> simp +contextual -implicitDefEqProofs (maxDischargeDepth := 20)

@[simp] theorem startHead_bounded (n : TicketNo) (b : Bool) (p : Part) :
    (Part.startHead n b p).StaysBounded p := by
  unfold Part.startHead; (try dsimp only); (repeat' split) <;> simp +contextual -implicitDefEqProofs (maxDischargeDepth := 20)

@[simp] theorem startOne_bounded (pr : Option Paddle) (p : Part) :
    (Part.startOne pr p).StaysBounded p := by
  unfold Part.startOne; (try dsimp only); (repeat' split) <;> simp +contextual -implicitDefEqProofs (maxDischargeDepth := 20)

@[simp] theorem startUpTo_bounded (k : Nat) (p : Part) :
    (Part.startUpTo k p).StaysBounded p := by
  induction k generalizing p with
  | zero => exact .refl p
  | succ k ih =>
    unfold Part.startUpTo
    split <;> simp +contextual -implicitDefEqProofs (maxDischargeDepth := 20) [ih]

@[simp] theorem startHeads_bounded (p : Part) :
    (p.startHeads).StaysBounded p := by
  unfold Part.startHeads; (try dsimp only); (repeat' split) <;> simp +contextual -implicitDefEqProofs (maxDischargeDepth := 20)

@[simp] theorem paddleDraw_bounded (pad : Paddle) (p : Part) :
    (Part.paddleDraw pad p).StaysBounded p := by
  unfold Part.paddleDraw
  have hd := draw_bounded (paddleKind pad) .paddle none (p.paddleRequest pad) p
  generalize p.draw (paddleKind pad) .paddle none (p.paddleRequest pad) = d at hd ⊢
  rcases d with ⟨_ | n, q⟩
  · exact hd
  · refine .trans ?_ hd
    simp +contextual -implicitDefEqProofs (maxDischargeDepth := 20)

@[simp] theorem judgePress_bounded (pad : Paddle) (p : Part) :
    (Part.judgePress pad p).StaysBounded p := by
  unfold Part.judgePress; (try dsimp only); (repeat' split) <;> simp +contextual -implicitDefEqProofs (maxDischargeDepth := 20)

@[simp] theorem judgeRelease_bounded (pad : Paddle) (p : Part) :
    (Part.judgeRelease pad p).StaysBounded p := by
  unfold Part.judgeRelease; (try dsimp only); (repeat' split) <;> simp +contextual -implicitDefEqProofs (maxDischargeDepth := 20)

@[simp] theorem driveForward_bounded (p : Part) :
    (p.driveForward).StaysBounded p := by
  unfold Part.driveForward; (try dsimp only); (repeat' split) <;> simp +contextual -implicitDefEqProofs (maxDischargeDepth := 20)

@[simp] theorem setRunTarget_bounded (p : Part) :
    (p.setRunTarget).StaysBounded p := by
  unfold Part.setRunTarget; (try dsimp only); (repeat' split) <;> simp +contextual -implicitDefEqProofs (maxDischargeDepth := 20)

@[simp] theorem enterRunning_bounded (p : Part) :
    (p.enterRunning).StaysBounded p := by
  unfold Part.enterRunning; (try dsimp only); (repeat' split) <;> simp +contextual -implicitDefEqProofs (maxDischargeDepth := 20)

@[simp] theorem openingSucceeds_bounded (p : Part) :
    (p.openingSucceeds).StaysBounded p := by
  unfold Part.openingSucceeds; (try dsimp only); (repeat' split) <;> simp +contextual -implicitDefEqProofs (maxDischargeDepth := 20)

@[simp] theorem openingFails_bounded (p : Part) :
    (p.openingFails).StaysBounded p := by
  unfold Part.openingFails; (try dsimp only); (repeat' split) <;> simp +contextual -implicitDefEqProofs (maxDischargeDepth := 20)

@[simp] theorem flapFalls_bounded (p : Part) :
    (p.flapFalls).StaysBounded p := by
  unfold Part.flapFalls; (try dsimp only); (repeat' split) <;> simp +contextual -implicitDefEqProofs (maxDischargeDepth := 20)

@[simp] theorem flapChanged_bounded (c : Contact) (p : Part) :
    (Part.flapChanged c p).StaysBounded p := by
  unfold Part.flapChanged; (try dsimp only); (repeat' split) <;> simp +contextual -implicitDefEqProofs (maxDischargeDepth := 20)

@[simp] theorem flapFirstRead_bounded (p : Part) :
    (p.flapFirstRead).StaysBounded p := by
  unfold Part.flapFirstRead; (try dsimp only); (repeat' split) <;> simp +contextual -implicitDefEqProofs (maxDischargeDepth := 20)

@[simp] theorem endClosing_bounded (b : Bool) (p : Part) :
    (Part.endClosing b p).StaysBounded p := by
  unfold Part.endClosing; (try dsimp only); (repeat' split) <;> simp +contextual -implicitDefEqProofs (maxDischargeDepth := 20)

@[simp] theorem judgeClosing_bounded (p : Part) :
    (p.judgeClosing).StaysBounded p := by
  unfold Part.judgeClosing; (try dsimp only); (repeat' split) <;> simp +contextual -implicitDefEqProofs (maxDischargeDepth := 20)

@[simp] theorem jam_bounded (p : Part) :
    (p.jam).StaysBounded p := by
  unfold Part.jam; (try dsimp only); (repeat' split) <;> simp +contextual -implicitDefEqProofs (maxDischargeDepth := 20)

@[simp] theorem endReverse_bounded (p : Part) :
    (p.endReverse).StaysBounded p := by
  unfold Part.endReverse; (try dsimp only); (repeat' split) <;> simp +contextual -implicitDefEqProofs (maxDischargeDepth := 20)

@[simp] theorem compareRunning_bounded (p : Part) :
    (p.compareRunning).StaysBounded p := by
  unfold Part.compareRunning; (try dsimp only); (repeat' split) <;> simp +contextual -implicitDefEqProofs (maxDischargeDepth := 20)

@[simp] theorem tachSeen_bounded (p : Part) :
    (p.tachSeen).StaysBounded p := by
  unfold Part.tachSeen; (try dsimp only); (repeat' split) <;> simp +contextual -implicitDefEqProofs (maxDischargeDepth := 20)

@[simp] theorem startPause_bounded (p : Part) :
    (p.startPause).StaysBounded p := by
  unfold Part.startPause; (try dsimp only); (repeat' split) <;> simp +contextual -implicitDefEqProofs (maxDischargeDepth := 20)

@[simp] theorem doorOpens_bounded (p : Part) :
    (p.doorOpens).StaysBounded p := by
  unfold Part.doorOpens; (try dsimp only); (repeat' split) <;> simp +contextual -implicitDefEqProofs (maxDischargeDepth := 20)

@[simp] theorem resumeHead_bounded (p : Part) :
    (p.resumeHead).StaysBounded p := by
  unfold Part.resumeHead; (try dsimp only); (repeat' split) <;> simp +contextual -implicitDefEqProofs (maxDischargeDepth := 20)

@[simp] theorem doorCloses_bounded (p : Part) :
    (p.doorCloses).StaysBounded p := by
  unfold Part.doorCloses; (try dsimp only); (repeat' split) <;> simp +contextual -implicitDefEqProofs (maxDischargeDepth := 20)

@[simp] theorem pauseOver_bounded (p : Part) :
    (p.pauseOver).StaysBounded p := by
  unfold Part.pauseOver; (try dsimp only); (repeat' split) <;> simp +contextual -implicitDefEqProofs (maxDischargeDepth := 20)

@[simp] theorem cancelQueued_bounded (n : TicketNo) (o : TicketOutcome) (p : Part) :
    (Part.cancelQueued n o p).StaysBounded p := by
  unfold Part.cancelQueued; (try dsimp only); (repeat' split) <;> simp +contextual -implicitDefEqProofs (maxDischargeDepth := 20)

@[simp] theorem loseLink_bounded (n : TicketNo) (p : Part) :
    (p.loseLink n).StaysBounded p := by
  unfold Part.loseLink; (try dsimp only); (repeat' split) <;> simp +contextual -implicitDefEqProofs (maxDischargeDepth := 20)

@[simp] theorem loseQueue_bounded (p : Part) :
    (p.loseQueue).StaysBounded p := by
  unfold Part.loseQueue
  generalize p.pool.queue = l
  induction l generalizing p with
  | nil => exact .refl p
  | cons n l ih => exact (ih (p.loseLink n)).trans (loseLink_bounded n p)

@[simp] theorem settle_bounded (p : Part) :
    (p.settle).StaysBounded p := by
  unfold Part.settle; (try dsimp only); (repeat' split) <;> simp +contextual -implicitDefEqProofs (maxDischargeDepth := 20)

@[simp] theorem reportWork_bounded (p : Part) :
    (p.reportWork).StaysBounded p := by
  unfold Part.reportWork; (try dsimp only); (repeat' split) <;> simp +contextual -implicitDefEqProofs (maxDischargeDepth := 20)

@[simp] theorem endLineSettle_bounded (p : Part) :
    (p.endLineSettle).StaysBounded p := by
  unfold Part.endLineSettle; (try dsimp only); (repeat' split) <;> simp +contextual -implicitDefEqProofs (maxDischargeDepth := 20)

@[simp] theorem handReading_bounded (ch : ChannelNo) (e : Bool) (p : Part) :
    (Part.handReading ch e p).StaysBounded p := by
  unfold Part.handReading; (try dsimp only); (repeat' split) <;> simp +contextual -implicitDefEqProofs (maxDischargeDepth := 20)

@[simp] theorem handClass_bounded (c : CurveClass) (p : Part) :
    (Part.handClass c p).StaysBounded p := by
  unfold Part.handClass
  generalize List.filter _ _ = l
  induction l generalizing p with
  | nil => exact .refl p
  | cons ch l ih => exact (ih (p.handReading ch false)).trans (handReading_bounded ch false p)

@[simp] theorem endServiceTest_bounded (o : TicketOutcome) (p : Part) :
    (Part.endServiceTest o p).StaysBounded p := by
  unfold Part.endServiceTest; (try dsimp only); (repeat' split) <;> simp +contextual -implicitDefEqProofs (maxDischargeDepth := 20)

@[simp] theorem endDuct_bounded (p : Part) :
    (p.endDuct).StaysBounded p := by
  unfold Part.endDuct; (try dsimp only); (repeat' split) <;> simp +contextual -implicitDefEqProofs (maxDischargeDepth := 20)

@[simp] theorem judgeGrant_bounded (p : Part) :
    (p.judgeGrant).StaysBounded p := by
  unfold Part.judgeGrant; (try dsimp only); (repeat' split) <;> simp +contextual -implicitDefEqProofs (maxDischargeDepth := 20)

@[simp] theorem judgeResume_bounded (p : Part) :
    (p.judgeResume).StaysBounded p := by
  unfold Part.judgeResume; (try dsimp only); (repeat' split) <;> simp +contextual -implicitDefEqProofs (maxDischargeDepth := 20)

@[simp] theorem startHeaterTest_bounded (h : HeaterNo) (p : Part) :
    (Part.startHeaterTest h p).StaysBounded p := by
  unfold Part.startHeaterTest; (try dsimp only); (repeat' split) <;> simp +contextual -implicitDefEqProofs (maxDischargeDepth := 20)

end Sys2Proof.Machine

namespace Sys2Proof.Machine

/-! The advance of the part seconds count. -/

@[simp] theorem reach_bounded (t : Nat) (p : Part) :
    (Part.reach t p).StaysBounded p := by
  exact .refl p

@[simp] theorem countSecond_bounded (p : Part) :
    p.countSecond.StaysBounded p := by
  unfold Part.countSecond; (try dsimp only); (repeat' split) <;> simp +contextual -implicitDefEqProofs (maxDischargeDepth := 20)

@[simp] theorem endRunTest_bounded (p : Part) :
    p.endRunTest.StaysBounded p := by
  unfold Part.endRunTest; (try dsimp only); (repeat' split) <;> simp +contextual -implicitDefEqProofs (maxDischargeDepth := 20)

@[simp] theorem countDenied_bounded (r : Option SlotResult) (slot : Option TicketNo) (p : Part) :
    (Part.countDenied r slot p).StaysBounded p := by
  unfold Part.countDenied; (try dsimp only); (repeat' split) <;> simp +contextual -implicitDefEqProofs (maxDischargeDepth := 20)

@[simp] theorem handTestResult_bounded (p : Part) :
    p.handTestResult.StaysBounded p := by
  unfold Part.handTestResult; (try dsimp only); (repeat' split) <;> simp +contextual -implicitDefEqProofs (maxDischargeDepth := 20)

@[simp] theorem handResults_bounded (p : Part) :
    p.handResults.StaysBounded p := by
  unfold Part.handResults; (try dsimp only); (repeat' split) <;> simp +contextual -implicitDefEqProofs (maxDischargeDepth := 20)

@[simp] theorem boundary_bounded (p : Part) :
    p.boundary.StaysBounded p := by
  unfold Part.boundary; (try dsimp only); (repeat' split) <;> simp +contextual -implicitDefEqProofs (maxDischargeDepth := 20)

@[simp] theorem compressorSecond_log (d : Defrost) : d.compressorSecond.log = d.log := by
  unfold Defrost.compressorSecond; (repeat' split) <;> rfl

@[simp] theorem doorSecond_log (o : Bool) (w : Nat) (d : Defrost) : (d.doorSecond o w).log = d.log := by
  unfold Defrost.doorSecond; (repeat' split) <;> rfl

@[simp] theorem frostSecond_bounded (p : Part) :
    p.frostSecond.StaysBounded p := by
  unfold Part.frostSecond; (try dsimp only); (repeat' split) <;> simp +contextual -implicitDefEqProofs (maxDischargeDepth := 20)

@[simp] theorem advanceSecond_bounded (p : Part) :
    p.advanceSecond.StaysBounded p := by
  unfold Part.advanceSecond; (try dsimp only); (repeat' split) <;> simp +contextual -implicitDefEqProofs (maxDischargeDepth := 20)

/-! The Sense Unit. -/

/-- R31: a full ring gives up its oldest value. -/
theorem pushRing_bounded (ring : List Nat) (raw : Nat) (h : ring.length ≤ 4) : (pushRing ring raw).length ≤ 4 := by
  unfold pushRing
  split <;> simp <;> omega

/-- R31, R33, R34: a conversion keeps the ring of its channel within 4 values and the run of good values within 7. -/
theorem convert_bounded (raw : Nat) (c : Channel) (hr : c.ring.length ≤ 4) (hg : c.goodRun.length ≤ 7) :
    (c.convert raw).ring.length ≤ 4 ∧ (c.convert raw).goodRun.length ≤ 7 := by
  unfold Channel.convert
  dsimp only
  split
  · exact ⟨pushRing_bounded _ raw hr, hg⟩
  · unfold Channel.recover
    split
    next hfew =>
      simp only [List.length_append, List.length_singleton] at hfew ⊢
      exact ⟨hr, by omega⟩
    next => simp; omega
  · unfold Channel.bad
    split <;> simp <;> omega
  · simp [hr]

@[simp] theorem set_convert_bounded (cs : Vector Channel 6) (ch : ChannelNo) (raw : Nat) (h : channelsBounded cs) :
    channelsBounded (cs.set ch.val (cs[ch.val].convert raw)) := by
  intro c
  simp only [Fin.getElem_fin, Vector.getElem_set]
  split
  · exact convert_bounded raw _ (h ch).1 (h ch).2
  · exact h c

@[simp] theorem convertChannel_bounded (ch : ChannelNo) (raw : Nat) (p : Part) :
    (Part.convertChannel ch raw p).StaysBounded p := by
  unfold Part.convertChannel; (try dsimp only); (repeat' split) <;> simp +contextual -implicitDefEqProofs (maxDischargeDepth := 20)

@[simp] theorem endConversion_bounded (raw : BitVec 16) (p : Part) :
    (Part.endConversion raw p).StaysBounded p := by
  unfold Part.endConversion; (try dsimp only); (repeat' split) <;> simp +contextual -implicitDefEqProofs (maxDischargeDepth := 20)

@[simp] theorem countFlow_bounded (p : Part) :
    p.countFlow.StaysBounded p := by
  unfold Part.countFlow; (try dsimp only); (repeat' split) <;> simp +contextual -implicitDefEqProofs (maxDischargeDepth := 20)

@[simp] theorem countTach_bounded (p : Part) :
    p.countTach.StaysBounded p := by
  unfold Part.countTach; (try dsimp only); (repeat' split) <;> simp +contextual -implicitDefEqProofs (maxDischargeDepth := 20)

@[simp] theorem endFlowPeriod_bounded (p : Part) :
    p.endFlowPeriod.StaysBounded p := by
  unfold Part.endFlowPeriod; (try dsimp only); (repeat' split) <;> simp +contextual -implicitDefEqProofs (maxDischargeDepth := 20)

@[simp] theorem setPaddle_channels (st : PaddleState) (pad : Paddle) (s : Sense) :
    (s.setPaddle st pad).channels = s.channels := by
  cases pad <;> rfl

@[simp] theorem tellPaddle_channels (now : Nat) (st : PaddleState) (pad : Paddle) (s : Sense) :
    (s.tellPaddle now st pad).channels = s.channels := by
  cases pad <;> rfl

@[simp] theorem tellDoor_bounded (d : Door) (p : Part) :
    (Part.tellDoor d p).StaysBounded p := by
  unfold Part.tellDoor; (try dsimp only); (repeat' split) <;> simp +contextual -implicitDefEqProofs (maxDischargeDepth := 20)

@[simp] theorem tellPaddle_bounded (pad : Paddle) (st : PaddleState) (p : Part) :
    (Part.tellPaddle pad st p).StaysBounded p := by
  unfold Part.tellPaddle; (try dsimp only); (repeat' split) <;> simp +contextual -implicitDefEqProofs (maxDischargeDepth := 20)

@[simp] theorem tellHome_bounded (c : Contact) (p : Part) :
    (Part.tellHome c p).StaysBounded p := by
  unfold Part.tellHome; (try dsimp only); (repeat' split) <;> simp +contextual -implicitDefEqProofs (maxDischargeDepth := 20)

@[simp] theorem tellFlap_bounded (c : Contact) (p : Part) :
    (Part.tellFlap c p).StaysBounded p := by
  unfold Part.tellFlap; (try dsimp only); (repeat' split) <;> simp +contextual -implicitDefEqProofs (maxDischargeDepth := 20)

@[simp] theorem tellBeam_bounded (l : BeamLevel) (p : Part) :
    (Part.tellBeam l p).StaysBounded p := by
  unfold Part.tellBeam; (try dsimp only); (repeat' split) <;> simp +contextual -implicitDefEqProofs (maxDischargeDepth := 20)

@[simp] theorem doorBecomes_bounded (d : Door) (p : Part) :
    (Part.doorBecomes d p).StaysBounded p := by
  unfold Part.doorBecomes; (try dsimp only); (repeat' split) <;> simp +contextual -implicitDefEqProofs (maxDischargeDepth := 20)

@[simp] theorem paddleBecomes_bounded (pad : Paddle) (st : PaddleState) (p : Part) :
    (Part.paddleBecomes pad st p).StaysBounded p := by
  unfold Part.paddleBecomes; (try dsimp only); (repeat' split) <;> simp +contextual -implicitDefEqProofs (maxDischargeDepth := 20)

@[simp] theorem homeBecomes_bounded (c : Contact) (p : Part) :
    (Part.homeBecomes c p).StaysBounded p := by
  unfold Part.homeBecomes; (try dsimp only); (repeat' split) <;> simp +contextual -implicitDefEqProofs (maxDischargeDepth := 20)

@[simp] theorem flapBecomes_bounded (c : Contact) (p : Part) :
    (Part.flapBecomes c p).StaysBounded p := by
  unfold Part.flapBecomes; (try dsimp only); (repeat' split) <;> simp +contextual -implicitDefEqProofs (maxDischargeDepth := 20)

@[simp] theorem beamBecomes_bounded (l : BeamLevel) (p : Part) :
    (Part.beamBecomes l p).StaysBounded p := by
  unfold Part.beamBecomes; (try dsimp only); (repeat' split) <;> simp +contextual -implicitDefEqProofs (maxDischargeDepth := 20)

theorem takeDue_bounded {α : Type} (due : Option α) (become : α → Part → Part) (p : Part)
    (h : ∀ v, (become v p).StaysBounded p) : (takeDue due become p).StaysBounded p := by
  cases due with
  | none => exact .refl p
  | some v => exact h v

@[simp] theorem doorTold_bounded (d : Door) (p : Part) :
    (p.doorTold d).StaysBounded p :=
  (tellDoor_bounded d _).trans (takeDue_bounded _ _ p fun v => doorBecomes_bounded v p)

@[simp] theorem paddleTold_bounded (pad : Paddle) (st : PaddleState) (p : Part) :
    (p.paddleTold pad st).StaysBounded p :=
  (tellPaddle_bounded pad st _).trans (takeDue_bounded _ _ p fun v => paddleBecomes_bounded pad v p)

@[simp] theorem homeTold_bounded (c : Contact) (p : Part) :
    (p.homeTold c).StaysBounded p :=
  (tellHome_bounded c _).trans (takeDue_bounded _ _ p fun v => homeBecomes_bounded v p)

@[simp] theorem flapTold_bounded (c : Contact) (p : Part) :
    (p.flapTold c).StaysBounded p :=
  (tellFlap_bounded c _).trans (takeDue_bounded _ _ p fun v => flapBecomes_bounded v p)

@[simp] theorem beamTold_bounded (l : BeamLevel) (p : Part) :
    (p.beamTold l).StaysBounded p :=
  (tellBeam_bounded l _).trans (takeDue_bounded _ _ p fun v => beamBecomes_bounded v p)

@[simp] theorem firstRead_bounded (r : FirstReading) (p : Part) :
    (Part.firstRead r p).StaysBounded p := by
  unfold Part.firstRead; (try dsimp only); (repeat' split) <;> simp +contextual -implicitDefEqProofs (maxDischargeDepth := 20)

@[simp] theorem press_bounded (pad : Paddle) (p : Part) :
    (Part.press pad p).StaysBounded p := by
  unfold Part.press; (try dsimp only); (repeat' split) <;> simp +contextual -implicitDefEqProofs (maxDischargeDepth := 20)

@[simp] theorem unpress_bounded (pad : Paddle) (p : Part) :
    (Part.unpress pad p).StaysBounded p := by
  unfold Part.unpress; (try dsimp only); (repeat' split) <;> simp +contextual -implicitDefEqProofs (maxDischargeDepth := 20)

@[simp] theorem doorOpening_bounded (p : Part) :
    p.doorOpening.StaysBounded p := by
  unfold Part.doorOpening; (try dsimp only); (repeat' split) <;> simp +contextual -implicitDefEqProofs (maxDischargeDepth := 20)

@[simp] theorem doorClosing_bounded (p : Part) :
    p.doorClosing.StaysBounded p := by
  unfold Part.doorClosing; (try dsimp only); (repeat' split) <;> simp +contextual -implicitDefEqProofs (maxDischargeDepth := 20)

@[simp] theorem homeSwitch_bounded (c : Contact) (p : Part) :
    (Part.homeSwitch c p).StaysBounded p := by
  unfold Part.homeSwitch; (try dsimp only); (repeat' split) <;> simp +contextual -implicitDefEqProofs (maxDischargeDepth := 20)

@[simp] theorem flapSwitch_bounded (c : Contact) (p : Part) :
    (Part.flapSwitch c p).StaysBounded p := by
  unfold Part.flapSwitch; (try dsimp only); (repeat' split) <;> simp +contextual -implicitDefEqProofs (maxDischargeDepth := 20)

@[simp] theorem beamAt_bounded (level : BeamLevel) (p : Part) :
    (Part.beamAt level p).StaysBounded p := by
  unfold Part.beamAt; (try dsimp only); (repeat' split) <;> simp +contextual -implicitDefEqProofs (maxDischargeDepth := 20)

/-! Supervision: the silence timer and an accepted parameter. -/

@[simp] theorem endLinkWork_bounded (p : Part) :
    p.endLinkWork.StaysBounded p := by
  unfold Part.endLinkWork; (try dsimp only); (repeat' split) <;> simp +contextual -implicitDefEqProofs (maxDischargeDepth := 20)

@[simp] theorem expireSilence_bounded (p : Part) :
    p.expireSilence.StaysBounded p := by
  unfold Part.expireSilence; (try dsimp only); (repeat' split) <;> simp +contextual -implicitDefEqProofs (maxDischargeDepth := 20)

@[simp] theorem compareSilence_bounded (p : Part) :
    p.compareSilence.StaysBounded p := by
  unfold Part.compareSilence; (try dsimp only); (repeat' split) <;> simp +contextual -implicitDefEqProofs (maxDischargeDepth := 20)

@[simp] theorem reloadSilence_bounded (p : Part) :
    p.reloadSilence.StaysBounded p := by
  unfold Part.reloadSilence; (try dsimp only); (repeat' split) <;> simp +contextual -implicitDefEqProofs (maxDischargeDepth := 20)

@[simp] theorem paramChanged_bounded (k : Param) (p : Part) :
    (Part.paramChanged k p).StaysBounded p := by
  unfold Part.paramChanged; (try dsimp only); (repeat' split) <;> simp +contextual -implicitDefEqProofs (maxDischargeDepth := 20)

/-- A value in range lies between the bounds of Table 8-1. -/
theorem bounds_of_inRange (k : Param) (v : Int) (h : k.inRange v = true) : k.spec.lo ≤ v ∧ v ≤ k.spec.hi := by
  simp only [Param.inRange, Bool.and_eq_true, decide_eq_true_eq] at h
  exact h.1.1

/-- The value just stored is read back, where it is in range (R174, R175). -/
theorem get_set_self (ps : Params) (k : Param) (v : Int) (h : k.inRange v = true) : (ps.set v k).get k = v := by
  obtain ⟨hlo, hhi⟩ := bounds_of_inRange k v h
  cases k with
  | channelClass ch =>
    have hv : v = 0 ∨ v = 1 := by simp only [Param.spec] at hlo hhi; omega
    rcases hv with rfl | rfl <;> simp [Params.get, Params.set, CurveClass.ofCode, CurveClass.code]
  | iceForm =>
    have hv : v = 0 ∨ v = 1 := by simp only [Param.spec] at hlo hhi; omega
    rcases hv with rfl | rfl <;> simp [Params.get, Params.set, Form.ofCode, Form.code]
  | harvestTemp | releaseTemp | waterColdLimit | terminateTemp | fanStartTemp => rfl
  | _ =>
    have hv : 0 ≤ v := by simp only [Param.spec] at hlo; omega
    exact Int.toNat_of_nonneg hv

/-- A parameter stored leaves every other one as it was. -/
theorem get_set_of_ne (ps : Params) (j k : Param) (v : Int) (h : j ≠ k) : (ps.set v k).get j = ps.get j := by
  cases k with
  | channelClass ch =>
    cases j with
    | channelClass c =>
      have hc : ch.val ≠ c.val := fun h' => h (by rw [Fin.ext h'])
      simp only [Params.get, Params.set, Fin.getElem_fin, Vector.getElem_set, if_neg hc]
    | _ => rfl
  | _ => cases j <;> first | rfl | exact absurd rfl h

/-- The pair conditions read the five paired parameters alone (R176). -/
theorem pairsHold_set (ps : Params) (k : Param) (v : Int) (h : k.paired = false) :
    (ps.set v k).pairsHold = ps.pairsHold := by
  cases k with
  | defrostMinH | defrostMaxH | defrostStartH | shortHeat | longHeat => cases h
  | _ => rfl

end Sys2Proof.Machine

namespace Sys2Proof.Machine

/-! The owners of the command kinds. -/

@[simp] theorem refuse_snd (s : Status) (p : Part) : (refuse s p).2 = p := rfl

@[simp] theorem accept_snd (p : Part) : (accept p).2 = p := rfl

/-- What R175 has judged before a value is accepted: its range, and the pair conditions where it has a part in them. -/
theorem judged_of_not_refused (k : Param) (v : Int) (p : Part) (h : p.paramRefusal k v = none) :
    k.inRange v = true ∧ (k.paired = true → (p.supervision.params.set v k).pairsHold = true) := by
  unfold Part.paramRefusal at h
  split at h
  · cases h
  split at h
  · cases h
  split at h
  · cases h
  rename_i hrange hpairs
  refine ⟨by simpa using hrange, fun hk => ?_⟩
  simpa [hk] using hpairs

/-- R174 to R176: a value that is not refused leaves the store legal. -/
theorem set_legal (k : Param) (v : Int) (p : Part) (h : p.paramRefusal k v = none)
    (hl : p.supervision.params.legal) : (p.supervision.params.set v k).legal := by
  obtain ⟨hrange, hpairs⟩ := judged_of_not_refused k v p h
  obtain ⟨hr, hp⟩ := hl
  constructor
  · intro j
    by_cases hj : j = k
    · rw [hj, get_set_self _ k v hrange]
      exact hrange
    · rw [get_set_of_ne _ j k v hj]
      exact hr j
  · cases hk : k.paired with
    | true => exact hpairs hk
    | false => rw [pairsHold_set _ k v hk, hp]

theorem acceptParam_bounded (k : Param) (v : Int) (p : Part) (h : p.paramRefusal k v = none) :
    (p.acceptParam k v).StaysBounded p :=
  (paramChanged_bounded k _).trans ⟨set_legal k v p h, id, id, id, id⟩

@[simp] theorem takeSetParam_bounded (payload : List Byte) (p : Part) :
    (p.takeSetParam payload).2.StaysBounded p := by
  unfold Part.takeSetParam
  split
  next n hi lo =>
    split
    next => exact .refl p
    next k _ =>
      split
      next => exact .refl p
      next hn =>
        dsimp only
        exact (settle_bounded _).trans (acceptParam_bounded k (readInt16 hi lo) p hn)
  next => exact .refl p

@[simp] theorem setCurve_channels (c : CurveClass) (t : List CurvePoint) (s : Sense) :
    (s.setCurve c t).channels = s.channels := by
  cases c <;> rfl

@[simp] theorem takePing_bounded (payload : List Byte) (p : Part) :
    (p.takePing payload).2.StaysBounded p := by
  unfold Part.takePing; (repeat' split) <;> simp +contextual -implicitDefEqProofs (maxDischargeDepth := 20)

@[simp] theorem takeStatus_bounded (payload : List Byte) (p : Part) :
    (p.takeStatus payload).2.StaysBounded p := by
  unfold Part.takeStatus; (repeat' split) <;> simp +contextual -implicitDefEqProofs (maxDischargeDepth := 20)

@[simp] theorem takeReadNotices_bounded (payload : List Byte) (p : Part) :
    (p.takeReadNotices payload).2.StaysBounded p := by
  unfold Part.takeReadNotices; (repeat' split) <;> simp +contextual -implicitDefEqProofs (maxDischargeDepth := 20)

@[simp] theorem takeSetNoticeMask_bounded (payload : List Byte) (p : Part) :
    (p.takeSetNoticeMask payload).2.StaysBounded p := by
  unfold Part.takeSetNoticeMask; (repeat' split) <;> simp +contextual -implicitDefEqProofs (maxDischargeDepth := 20)

@[simp] theorem takeRestart_bounded (payload : List Byte) (p : Part) :
    (p.takeRestart payload).2.StaysBounded p := by
  unfold Part.takeRestart; (repeat' split) <;> simp +contextual -implicitDefEqProofs (maxDischargeDepth := 20)

@[simp] theorem takeGetParam_bounded (payload : List Byte) (p : Part) :
    (p.takeGetParam payload).2.StaysBounded p := by
  unfold Part.takeGetParam; (repeat' split) <;> simp +contextual -implicitDefEqProofs (maxDischargeDepth := 20)

@[simp] theorem takeLockLimits_bounded (payload : List Byte) (p : Part) :
    (p.takeLockLimits payload).2.StaysBounded p := by
  unfold Part.takeLockLimits; (repeat' split) <;> simp +contextual -implicitDefEqProofs (maxDischargeDepth := 20)

@[simp] theorem takeLoadCurve_bounded (payload : List Byte) (p : Part) :
    (p.takeLoadCurve payload).2.StaysBounded p := by
  unfold Part.takeLoadCurve; (repeat' split) <;> simp +contextual -implicitDefEqProofs (maxDischargeDepth := 20)

@[simp] theorem takeGetCurve_bounded (payload : List Byte) (p : Part) :
    (p.takeGetCurve payload).2.StaysBounded p := by
  unfold Part.takeGetCurve; (repeat' split) <;> simp +contextual -implicitDefEqProofs (maxDischargeDepth := 20)

@[simp] theorem takeGetLoads_bounded (payload : List Byte) (p : Part) :
    (p.takeGetLoads payload).2.StaysBounded p := by
  unfold Part.takeGetLoads; (repeat' split) <;> simp +contextual -implicitDefEqProofs (maxDischargeDepth := 20)

@[simp] theorem takeSetRotation_bounded (payload : List Byte) (p : Part) :
    (p.takeSetRotation payload).2.StaysBounded p := by
  unfold Part.takeSetRotation; (repeat' split) <;> simp +contextual -implicitDefEqProofs (maxDischargeDepth := 20)

@[simp] theorem placeLink_bounded (n : TicketNo) (kind : TicketKind) (r : Request) (p : Part) :
    (Part.placeLink n kind r p).StaysBounded p := by
  unfold Part.placeLink; (try dsimp only); (repeat' split) <;> simp +contextual -implicitDefEqProofs (maxDischargeDepth := 20)

@[simp] theorem takeSubmit_bounded (tag : Byte) (payload : List Byte) (p : Part) :
    (p.takeSubmit tag payload).2.StaysBounded p := by
  unfold Part.takeSubmit
  split
  next =>
    split
    next => exact .refl p
    next kind r _ =>
      split
      next => exact .refl p
      next =>
        have hd := draw_bounded kind .link (some tag) r p
        generalize p.draw kind .link (some tag) r = d at hd ⊢
        rcases d with ⟨_ | n, q⟩
        · exact hd
        · dsimp only
          exact ((settle_bounded _).trans (placeLink_bounded n kind r q)).trans hd
  next => exact .refl p

@[simp] theorem fetchUpTo_bounded (k : Nat) (p : Part) : (p.fetchUpTo k).2.StaysBounded p := by
  induction k generalizing p with
  | zero => exact .refl p
  | succ k ih =>
    unfold Part.fetchUpTo
    split
    next => exact .refl p
    next n rest _ => exact (ih _).trans (joinFree_bounded n { p with pool.completion := rest })

@[simp] theorem takeSetLoad_bounded (payload : List Byte) (p : Part) :
    (p.takeSetLoad payload).2.StaysBounded p := by
  unfold Part.takeSetLoad
  split
  · split
    · dsimp only
      split <;> exact .refl p
    · exact .refl p
  · exact .refl p

@[simp] theorem takeCancel_bounded (payload : List Byte) (p : Part) :
    (p.takeCancel payload).2.StaysBounded p := by
  unfold Part.takeCancel
  split
  · split
    · dsimp only
      (repeat' split) <;> simp +contextual -implicitDefEqProofs (maxDischargeDepth := 20)
    · exact .refl p
  · exact .refl p

@[simp] theorem takeFetch_bounded (payload : List Byte) (p : Part) :
    (p.takeFetch payload).2.StaysBounded p := by
  unfold Part.takeFetch
  split
  next c =>
    split
    next => exact .refl p
    next =>
      dsimp only
      exact (settle_bounded _).trans (fetchUpTo_bounded c.toNat p)
  next => exact .refl p

@[simp] theorem takeTicketInfo_bounded (payload : List Byte) (p : Part) :
    (p.takeTicketInfo payload).2.StaysBounded p := by
  unfold Part.takeTicketInfo
  split
  · split
    · dsimp only
      split <;> exact .refl p
    · exact .refl p
  · exact .refl p

@[simp] theorem takePoolStatus_bounded (payload : List Byte) (p : Part) :
    (p.takePoolStatus payload).2.StaysBounded p := by
  unfold Part.takePoolStatus; (repeat' split) <;> simp +contextual -implicitDefEqProofs (maxDischargeDepth := 20) [Starvation.bounded]

@[simp] theorem takeReadSensors_bounded (payload : List Byte) (p : Part) :
    (p.takeReadSensors payload).2.StaysBounded p := by
  unfold Part.takeReadSensors; (repeat' split) <;> simp +contextual -implicitDefEqProofs (maxDischargeDepth := 20)

@[simp] theorem takeClearLeak_bounded (payload : List Byte) (p : Part) :
    (p.takeClearLeak payload).2.StaysBounded p := by
  unfold Part.takeClearLeak; (repeat' split) <;> simp +contextual -implicitDefEqProofs (maxDischargeDepth := 20)

@[simp] theorem takeFilterReset_bounded (payload : List Byte) (p : Part) :
    (p.takeFilterReset payload).2.StaysBounded p := by
  unfold Part.takeFilterReset; (repeat' split) <;> simp +contextual -implicitDefEqProofs (maxDischargeDepth := 20)

@[simp] theorem takeGetTotals_bounded (payload : List Byte) (p : Part) :
    (p.takeGetTotals payload).2.StaysBounded p := by
  unfold Part.takeGetTotals; (repeat' split) <;> simp +contextual -implicitDefEqProofs (maxDischargeDepth := 20)

@[simp] theorem takeRestoreTotals_bounded (payload : List Byte) (p : Part) :
    (p.takeRestoreTotals payload).2.StaysBounded p := by
  unfold Part.takeRestoreTotals; (repeat' split) <;> simp +contextual -implicitDefEqProofs (maxDischargeDepth := 20)

theorem park_bounded (p q : Part) (h : p.park = some q) : q.StaysBounded p := by
  unfold Part.park at h
  (repeat' split at h) <;> cases h <;> simp +contextual -implicitDefEqProofs (maxDischargeDepth := 20)

theorem runIce_bounded (p q : Part) (h : p.runIce = some q) : q.StaysBounded p := by
  unfold Part.runIce at h
  (repeat' split at h) <;> cases h <;> simp +contextual -implicitDefEqProofs (maxDischargeDepth := 20)

theorem resumeIce_bounded (p q : Part) (h : p.resumeIce = some q) : q.StaysBounded p := by
  unfold Part.resumeIce at h
  split at h <;> cases h
  exact enterHoming_bounded p

theorem harvestNow_bounded (p q : Part) (h : p.harvestNow = some q) : q.StaysBounded p := by
  unfold Part.harvestNow at h
  split at h <;> cases h
  exact endFreeze_bounded false p

theorem answerIce_bounded (taken : Option Part) (p : Part) (h : ∀ q, taken = some q → q.StaysBounded p) :
    (p.answerIce taken).2.StaysBounded p := by
  cases taken with
  | none => exact .refl p
  | some q => exact (settle_bounded q).trans (h q rfl)

@[simp] theorem takeIceControl_bounded (payload : List Byte) (p : Part) :
    (p.takeIceControl payload).2.StaysBounded p := by
  unfold Part.takeIceControl
  repeat' split
  · exact answerIce_bounded _ p (park_bounded p)
  · exact answerIce_bounded _ p (runIce_bounded p)
  · exact answerIce_bounded _ p (resumeIce_bounded p)
  · exact answerIce_bounded _ p (harvestNow_bounded p)
  · exact .refl p
  · exact .refl p

theorem go_bounded (p q : Part) (h : p.go = some q) : q.StaysBounded p := by
  unfold Part.go at h
  split at h <;> cases h <;> exact enterPrep_bounded false false p

theorem defer_bounded (m : Nat) (p q : Part) (h : p.defer m = some q) : q.StaysBounded p := by
  unfold Part.defer at h
  split at h <;> cases h
  exact enterDeferred_bounded m p

theorem force_bounded (p q : Part) (h : p.force = some q) : q.StaysBounded p := by
  unfold Part.force at h
  split at h <;> cases h <;> exact enterPrep_bounded true false p

theorem abort_bounded (p q : Part) (h : p.abort = some q) : q.StaysBounded p := by
  unfold Part.abort at h
  split at h <;> cases h
  · exact abortPrep_bounded p
  · exact endHeating_bounded .aborted p

theorem answerDefrost_bounded (taken : Option Part) (p : Part) (h : ∀ q, taken = some q → q.StaysBounded p) :
    (p.answerDefrost taken).2.StaysBounded p := by
  cases taken with
  | none => exact .refl p
  | some q => exact (settle_bounded q).trans (h q rfl)

@[simp] theorem refuseDefrost_snd (s : Status) (p : Part) : (p.refuseDefrost s).2 = p := rfl

@[simp] theorem setCompressor_bounded (running : Bool) (p : Part) :
    (Part.setCompressor running p).StaysBounded p := by
  unfold Part.setCompressor; (try dsimp only); (repeat' split) <;> simp +contextual -implicitDefEqProofs (maxDischargeDepth := 20)

@[simp] theorem takeCompressor_bounded (payload : List Byte) (p : Part) :
    (p.takeCompressor payload).2.StaysBounded p := by
  unfold Part.takeCompressor; (repeat' split) <;> simp +contextual -implicitDefEqProofs (maxDischargeDepth := 20)

@[simp] theorem takeDefrostReply_bounded (payload : List Byte) (p : Part) :
    (p.takeDefrostReply payload).2.StaysBounded p := by
  unfold Part.takeDefrostReply
  repeat' split
  · exact answerDefrost_bounded _ p (go_bounded p)
  · exact .refl p
  · exact answerDefrost_bounded _ p (defer_bounded _ p)
  · exact .refl p
  · exact .refl p

@[simp] theorem takeDefrostForce_bounded (payload : List Byte) (p : Part) :
    (p.takeDefrostForce payload).2.StaysBounded p := by
  unfold Part.takeDefrostForce
  split
  · exact answerDefrost_bounded _ p (force_bounded p)
  · exact .refl p

@[simp] theorem takeDefrostAbort_bounded (payload : List Byte) (p : Part) :
    (p.takeDefrostAbort payload).2.StaysBounded p := by
  unfold Part.takeDefrostAbort
  split
  · exact answerDefrost_bounded _ p (abort_bounded p)
  · exact .refl p

@[simp] theorem takeDefrostLog_bounded (payload : List Byte) (p : Part) :
    (p.takeDefrostLog payload).2.StaysBounded p := by
  unfold Part.takeDefrostLog; (repeat' split) <;> simp +contextual -implicitDefEqProofs (maxDischargeDepth := 20)

/-! The Link Port. -/

@[simp] theorem atOnce_snd (r : Answer × Part) : (atOnce r).2 = r.2 := rfl

theorem ite_snd_bounded {c : Prop} [Decidable c] {a b : Option Answer × Part} {p : Part}
    (ha : a.2.StaysBounded p) (hb : b.2.StaysBounded p) : (if c then a else b).2.StaysBounded p := by
  split
  · exact ha
  · exact hb

@[simp] theorem takeKind_bounded (f : Frame) (p : Part) : (Part.takeKind f p).2.StaysBounded p := by
  unfold Part.takeKind
  exact ite_snd_bounded (takePing_bounded _ p) <| ite_snd_bounded (takeStatus_bounded _ p) <|
    ite_snd_bounded (takeReadNotices_bounded _ p) <| ite_snd_bounded (takeSetNoticeMask_bounded _ p) <|
    ite_snd_bounded (takeRestart_bounded _ p) <| ite_snd_bounded (takeSetParam_bounded _ p) <|
    ite_snd_bounded (takeGetParam_bounded _ p) <| ite_snd_bounded (takeLoadCurve_bounded _ p) <|
    ite_snd_bounded (takeGetCurve_bounded _ p) <| ite_snd_bounded (takeSetLoad_bounded _ p) <|
    ite_snd_bounded (takeGetLoads_bounded _ p) <| ite_snd_bounded (takeSetRotation_bounded _ p) <|
    ite_snd_bounded (takeLockLimits_bounded _ p) <| ite_snd_bounded (takeSubmit_bounded _ _ p) <|
    ite_snd_bounded (takeCancel_bounded _ p) <| ite_snd_bounded (takeFetch_bounded _ p) <|
    ite_snd_bounded (takeTicketInfo_bounded _ p) <| ite_snd_bounded (takePoolStatus_bounded _ p) <|
    ite_snd_bounded (takeReadSensors_bounded _ p) <| ite_snd_bounded (takeClearLeak_bounded _ p) <|
    ite_snd_bounded (takeFilterReset_bounded _ p) <| ite_snd_bounded (takeGetTotals_bounded _ p) <|
    ite_snd_bounded (takeRestoreTotals_bounded _ p) <| ite_snd_bounded (takeIceControl_bounded _ p) <|
    ite_snd_bounded (takeCompressor_bounded _ p) <| ite_snd_bounded (takeDefrostReply_bounded _ p) <|
    ite_snd_bounded (takeDefrostForce_bounded _ p) <| ite_snd_bounded (takeDefrostAbort_bounded _ p) <|
    ite_snd_bounded (takeDefrostLog_bounded _ p) <| .refl p

@[simp] theorem sendReply_bounded (f : Frame) (a : Answer) (p : Part) :
    (Part.sendReply f a p).StaysBounded p := by
  unfold Part.sendReply; (try dsimp only); (repeat' split) <;> simp +contextual -implicitDefEqProofs (maxDischargeDepth := 20)

@[simp] theorem execute_bounded (f : Frame) (p : Part) : (Part.execute f p).StaysBounded p := by
  have ht : (Part.takeKind f { p with link.executing := some f }).2.StaysBounded p :=
    takeKind_bounded f { p with link.executing := some f }
  unfold Part.execute
  generalize Part.takeKind f { p with link.executing := some f } = a at ht ⊢
  rcases a with ⟨_ | a, q⟩
  · exact ht
  · exact (sendReply_bounded f a q).trans ht

@[simp] theorem beginNext_bounded (p : Part) : p.beginNext.StaysBounded p := by
  unfold Part.beginNext
  split
  next f rest _ hi =>
    refine (execute_bounded f { p with link.inbox := rest }).trans ⟨id, fun h => ?_, id, id, id⟩
    rw [hi, List.length_cons] at h
    exact Nat.le_of_succ_le h
  next => exact .refl p

@[simp] theorem discard_bounded (e : LinkError) (p : Part) :
    (Part.discard e p).StaysBounded p := by
  unfold Part.discard; (try dsimp only); (repeat' split) <;> simp +contextual -implicitDefEqProofs (maxDischargeDepth := 20)

/-- R194: a frame joins the inbox only while it holds fewer than 4. -/
@[simp] theorem takeFrame_bounded (f : Frame) (p : Part) : (Part.takeFrame f p).StaysBounded p := by
  unfold Part.takeFrame
  split
  next => exact discard_bounded .overrun p
  next hfew =>
    refine (beginNext_bounded _).trans ⟨id, fun _ => ?_, id, id, id⟩
    simp only [Part.reloadSilence, List.length_append, List.length_singleton]
    omega

@[simp] theorem hostFrame_bounded (f : Frame) (p : Part) :
    (Part.hostFrame f p).StaysBounded p := by
  unfold Part.hostFrame; (try dsimp only); (repeat' split) <;> simp +contextual -implicitDefEqProofs (maxDischargeDepth := 20)

@[simp] theorem checkFrame_bounded (bytes : List Byte) (p : Part) :
    (Part.checkFrame bytes p).StaysBounded p := by
  unfold Part.checkFrame; (try dsimp only); (repeat' split) <;> simp +contextual -implicitDefEqProofs (maxDischargeDepth := 20)

@[simp] theorem gather_bounded (bytes : List Byte) (b : Byte) (p : Part) :
    (Part.gather bytes b p).StaysBounded p := by
  unfold Part.gather; (try dsimp only); (repeat' split) <;> simp +contextual -implicitDefEqProofs (maxDischargeDepth := 20)

@[simp] theorem endGap_bounded (p : Part) :
    p.endGap.StaysBounded p := by
  unfold Part.endGap; (try dsimp only); (repeat' split) <;> simp +contextual -implicitDefEqProofs (maxDischargeDepth := 20)

@[simp] theorem receive_bounded (p : Part) (b : Byte) :
    (Part.receive p b).StaysBounded p := by
  unfold Part.receive; (try dsimp only); (repeat' split) <;> simp +contextual -implicitDefEqProofs (maxDischargeDepth := 20)

@[simp] theorem receiveAll_bounded (bytes : List Byte) (p : Part) : (Part.receiveAll bytes p).StaysBounded p := by
  unfold Part.receiveAll
  induction bytes generalizing p with
  | nil => exact .refl p
  | cons b bytes ih => exact (ih _).trans (receive_bounded p b)

@[simp] theorem answerFresh_bounded (p : Part) :
    p.answerFresh.StaysBounded p := by
  unfold Part.answerFresh; (try dsimp only); (repeat' split) <;> simp +contextual -implicitDefEqProofs (maxDischargeDepth := 20)

/-! The resets. -/

/-- A reset leaves the parameters and the defrost log, or puts the default parameters and an empty log in their place. -/
@[simp] theorem beginReset_bounded (k : ResetKind) (p : Part) : (p.beginReset k).StaysBounded p := by
  obtain ⟨-, -, -, -, -, hp, ⟨hi, hl, hc, hs⟩, -⟩ := invariantsHoldAtReset
  cases k with
  | powerOn => exact ⟨fun _ => hp, fun _ => hi, fun _ => hl, fun _ => hc, fun _ => hs⟩
  | lineReset => exact ⟨fun _ => hp, fun _ => hi, fun _ => hl, fun _ => hc, fun _ => hs⟩
  | restart => exact ⟨id, fun _ => hi, id, fun _ => hc, fun _ => hs⟩

@[simp] theorem endReset_bounded (p : Part) :
    p.endReset.StaysBounded p := by
  unfold Part.endReset; (try dsimp only); (repeat' split) <;> simp +contextual -implicitDefEqProofs (maxDischargeDepth := 20)

@[simp] theorem replyEnds_bounded (p : Part) :
    p.replyEnds.StaysBounded p := by
  unfold Part.replyEnds; (try dsimp only); (repeat' split) <;> simp +contextual -implicitDefEqProofs (maxDischargeDepth := 20)

/-! The rows and the step. -/

@[simp] theorem elapse_bounded (dt : Nat) (p : Part) : (p.elapse dt).StaysBounded p := .refl p

/-- A row keeps the bounds if its effect does. -/
theorem take_bounded (s t : State) (dt : Nat) (f : Part → Part) (hf : ∀ p, (f p).StaysBounded p)
    (h : s.take dt f = .next t) : t.part.StaysBounded s.part := by
  cases h
  simp only [Part.take]
  split
  · exact .refl _
  · exact (hf _).trans (elapse_bounded dt _)

theorem onDue_bounded (due : Part → Bool) (f : Part → Part) (hf : ∀ p, (f p).StaysBounded p) (p : Part) :
    (p.onDue due f).StaysBounded p := by
  unfold Part.onDue
  split
  · exact (settle_bounded _).trans (hf p)
  · exact .refl p

end Sys2Proof.Machine

namespace Sys2Proof.Machine

/-! The bounds hold after every step. -/

/-- Every row keeps the bounds. -/
theorem exec_bounded (i : Instr) (s t : State) (h : exec i s = .next t) : t.part.StaysBounded s.part := by
  cases hr : hostRow i with
  | some r =>
    rw [exec_hostRow i s r.1 r.2 hr] at h
    exact take_bounded s t r.1 _ (hostFrame_bounded r.2) h
  | none =>
    cases i
    case powerOn => cases h; exact beginReset_bounded .powerOn s.part
    case lineReset => cases h; exact beginReset_bounded .lineReset s.part
    case resetEnd dt =>
      cases h
      dsimp only
      split
      · exact endReset_bounded s.part
      · exact elapse_bounded dt s.part
    case readSensorsFreshReply => exact take_bounded s t _ _ answerFresh_bounded h
    case frameReceived bytes => exact take_bounded s t _ _ (receiveAll_bounded bytes) h
    case replySent => exact take_bounded s t _ _ replyEnds_bounded h
    case deferTimerEnd => exact take_bounded s t _ _ (onDue_bounded _ _ endDefer_bounded) h
    case wantLimitReached => exact take_bounded s t _ _ (onDue_bounded _ _ (enterPrep_bounded false true)) h
    case silentWantLimit => exact take_bounded s t _ _ (onDue_bounded _ _ (enterPrep_bounded false true)) h
    case defrostHeatLimitExpiry => exact take_bounded s t _ _ (onDue_bounded _ _ compareHeatLimit_bounded) h
    case dwellEnd => exact take_bounded s t _ _ (onDue_bounded _ _ endDwell_bounded) h
    case recoverLimitExpiry => exact take_bounded s t _ _ (onDue_bounded _ _ endRecover_bounded) h
    case homingDeadline => exact take_bounded s t _ _ (onDue_bounded _ _ homingFails_bounded) h
    case minFreezeReached => exact take_bounded s t _ _ (onDue_bounded _ _ takeFreeze_bounded) h
    case faultFreezeTime => exact take_bounded s t _ _ (onDue_bounded _ _ takeFaultFreeze_bounded) h
    case moldHeatLimitExpiry => exact take_bounded s t _ _ (onDue_bounded _ _ compareMoldLimit_bounded) h
    case leaveHomeDeadline => exact take_bounded s t _ _ (onDue_bounded _ _ attemptFails_bounded) h
    case ejectReturnDeadline => exact take_bounded s t _ _ (onDue_bounded _ _ attemptFails_bounded) h
    case ejectRetryTimer => exact take_bounded s t _ _ (onDue_bounded _ _ beginAttempt_bounded) h
    case iceSettleEnd => exact take_bounded s t _ _ (onDue_bounded _ _ endIceSettle_bounded) h
    case lineSettleEnd => exact take_bounded s t _ _ (onDue_bounded _ _ endLineSettle_bounded) h
    case openTimeLimit => exact take_bounded s t _ _ (onDue_bounded _ _ (endWork_bounded .timeout)) h
    case noFlowExpiry => exact take_bounded s t _ _ (onDue_bounded _ _ compareNoFlow_bounded) h
    case dryRetryEnd => exact take_bounded s t _ _ (onDue_bounded _ _ endDryRetry_bounded) h
    case flapOpenDeadline => exact take_bounded s t _ _ (onDue_bounded _ _ openingFails_bounded) h
    case flapCloseEnd => exact take_bounded s t _ _ (onDue_bounded _ _ judgeClosing_bounded) h
    case runTargetReached => exact take_bounded s t _ _ (onDue_bounded _ _ (stopRun_bounded .complete)) h
    case runningTimeLimit => exact take_bounded s t _ _ (onDue_bounded _ _ (stopRun_bounded .timeout)) h
    case jamWindowExpiry => exact take_bounded s t _ _ (onDue_bounded _ _ jam_bounded) h
    case reverseEnd => exact take_bounded s t _ _ (onDue_bounded _ _ endReverse_bounded) h
    case flapHoldEnd => exact take_bounded s t _ _ (onDue_bounded _ _ enterClosing_bounded) h
    case pauseTimerEnd => exact take_bounded s t _ _ (onDue_bounded _ _ (stopDelivery_bounded .doorOpen)) h
    case chuteTestHoldEnd => exact take_bounded s t _ _ (onDue_bounded _ _ (stopChuteTest_bounded .complete)) h
    case ductTimerEnd => exact take_bounded s t _ _ (onDue_bounded _ _ endDuct_bounded) h
    case silenceExpiry => exact take_bounded s t _ _ (onDue_bounded _ _ expireSilence_bounded) h
    case gapTimeout | flowPeriodTimeout | harvestStart =>
      refine take_bounded s t _ _ (fun p => ?_) h
      split <;> simp +contextual -implicitDefEqProofs (maxDischargeDepth := 20)
    case partSecondsAdvance | conversionEnd | switchFirstReading | paddlePress | paddleRelease | doorOpening
        | doorClosing | homeSwitchChange | flapSwitchChange | beamFilterChange | flowPulse | tachPulse
        | internalRedraw | lineGrant | fillResume | headStart | defrostHeatingStart =>
      refine take_bounded s t _ _ (fun p => ?_) h
      simp +contextual -implicitDefEqProofs (maxDischargeDepth := 20)
    all_goals cases hr

/-- Settles O57: every row keeps the bounds, block by block, and the tick lets time pass alone. -/
theorem settingsAndListsStayBounded : Obligations.SettingsAndListsStayBounded := by
  have key (s t : State) (h : step s = .next t) : t.part.StaysBounded s.part := by
    unfold step at h
    split at h
    next =>
      cases h
      unfold State.tick
      split
      · exact .refl _
      · exact .refl _
      · exact elapse_bounded 1 s.part
    next i rest _ => exact exec_bounded i { s with pending := rest } t h
  refine ⟨fun s t hl h => (key s t h).1 hl, fun s t hb h => ?_⟩
  obtain ⟨-, hi, hl, hc, hs⟩ := key s t h
  obtain ⟨bi, bl, bc, bs⟩ := (listsBounded_iff s.part).1 hb
  exact (listsBounded_iff t.part).2 ⟨hi bi, hl bl, hc bc, hs bs⟩

end Sys2Proof.Machine

namespace Sys2Proof.Machine

/-! The answers of the pool's commands on an idle link: what the owner gives is the reply. -/

theorem answers_submit (s : State) (dt : Nat) (tag : Byte) (payload : List Byte) (st : Status) (data : List Byte)
    (q : Part) (hs : s.linkIdle) (hl : payload.length ≤ 64)
    (hk : (s.heard (.submit dt tag payload)).takeSubmit tag payload = (⟨st, data⟩, q)) (hq : q.link.inbox = []) :
    Answers (.submit dt tag payload) s st data q := by
  refine answers_of_takeKind _ s dt ⟨0x20, tag, payload⟩ st data q hs rfl hl ?_ hq
  change atOnce (Part.takeSubmit tag payload (s.heard _)) = _
  rw [hk]
  rfl

theorem answers_cancel (s : State) (dt : Nat) (tag : Byte) (payload : List Byte) (st : Status) (data : List Byte)
    (q : Part) (hs : s.linkIdle) (hl : payload.length ≤ 64)
    (hk : (s.heard (.cancel dt tag payload)).takeCancel payload = (⟨st, data⟩, q)) (hq : q.link.inbox = []) :
    Answers (.cancel dt tag payload) s st data q := by
  refine answers_of_takeKind _ s dt ⟨0x21, tag, payload⟩ st data q hs rfl hl ?_ hq
  change atOnce (Part.takeCancel payload (s.heard _)) = _
  rw [hk]
  rfl

theorem answers_fetch (s : State) (dt : Nat) (tag : Byte) (payload : List Byte) (st : Status) (data : List Byte)
    (q : Part) (hs : s.linkIdle) (hl : payload.length ≤ 64)
    (hk : (s.heard (.fetch dt tag payload)).takeFetch payload = (⟨st, data⟩, q)) (hq : q.link.inbox = []) :
    Answers (.fetch dt tag payload) s st data q := by
  refine answers_of_takeKind _ s dt ⟨0x22, tag, payload⟩ st data q hs rfl hl ?_ hq
  change atOnce (Part.takeFetch payload (s.heard _)) = _
  rw [hk]
  rfl

theorem answers_ticketInfo (s : State) (dt : Nat) (tag : Byte) (payload : List Byte) (st : Status) (data : List Byte)
    (q : Part) (hs : s.linkIdle) (hl : payload.length ≤ 64)
    (hk : (s.heard (.ticketInfo dt tag payload)).takeTicketInfo payload = (⟨st, data⟩, q)) (hq : q.link.inbox = []) :
    Answers (.ticketInfo dt tag payload) s st data q := by
  refine answers_of_takeKind _ s dt ⟨0x23, tag, payload⟩ st data q hs rfl hl ?_ hq
  change atOnce (Part.takeTicketInfo payload (s.heard _)) = _
  rw [hk]
  rfl

theorem answers_poolStatus (s : State) (dt : Nat) (tag : Byte) (payload : List Byte) (st : Status) (data : List Byte)
    (q : Part) (hs : s.linkIdle) (hl : payload.length ≤ 64)
    (hk : (s.heard (.poolStatus dt tag payload)).takePoolStatus payload = (⟨st, data⟩, q)) (hq : q.link.inbox = []) :
    Answers (.poolStatus dt tag payload) s st data q := by
  refine answers_of_takeKind _ s dt ⟨0x24, tag, payload⟩ st data q hs rfl hl ?_ hq
  change atOnce (Part.takePoolStatus payload (s.heard _)) = _
  rw [hk]
  rfl

/-! The bytes of the fields. -/

/-- A two-byte count, most significant byte first (R204). -/
theorem nat16_eq (n : Nat) : nat16 n = [byte (n / 256), byte n] := by
  have hi : (BitVec.ofNat 16 n).extractLsb' 8 8 = BitVec.ofNat 8 (n / 256) := by
    apply BitVec.eq_of_toNat_eq
    simp [BitVec.extractLsb'_toNat, Nat.shiftRight_eq_div_pow]
    omega
  have lo : (BitVec.ofNat 16 n).extractLsb' 0 8 = BitVec.ofNat 8 n := by
    apply BitVec.eq_of_toNat_eq
    simp [BitVec.extractLsb'_toNat]
  rw [nat16, be16, hi, lo]
  rfl

end Sys2Proof.Machine

namespace Sys2Proof.Machine

/-! What POOL_STATUS and TICKET_INFO show (R24, R25). -/

/-- The two bytes that stand for the amount of a request (log 15). -/
def Request.amountBytes (free : BitVec 16) (r : Request) : List Byte := (r.amount.map nat16).getD (be16 free)

theorem amountBytes_length (free : BitVec 16) (r : Request) : (r.amountBytes free).length = 2 := by
  unfold Request.amountBytes
  cases r.amount <;> rfl

/-- Where TICKET_INFO finds a ticket that is not FREE (R24). -/
theorem place_spec (p : Part) (n : TicketNo) :
    (n ∈ p.pool.queue → p.place n = [0, byte (p.pool.queue.idxOf n + 1)]) ∧
    (n ∉ p.pool.queue →
      (p.pool.iceSlot = some n → p.place n = [1, 0xFF]) ∧
      (p.pool.iceSlot ≠ some n →
        (p.pool.defrostSlot = some n → p.place n = [2, 0xFF]) ∧
        (p.pool.defrostSlot ≠ some n →
          (p.pool.serviceSlot = some n → p.place n = [3, 0xFF]) ∧
          (p.pool.serviceSlot ≠ some n → n ∈ p.pool.completion →
            p.place n = [4, byte (p.pool.completion.idxOf n + 1)])))) := by
  unfold Part.place
  refine ⟨fun hq => ?_, fun hq => ⟨fun hi => ?_, fun hi => ⟨fun hd => ?_, fun hd => ⟨fun hs => ?_, fun hs _ => ?_⟩⟩⟩⟩
  · rw [if_pos (List.contains_iff_mem.2 hq)]
    rfl
  all_goals rw [if_neg fun h => hq (List.contains_iff_mem.1 h)]
  · rw [if_pos hi]
    rfl
  · rw [if_neg hi, if_pos hd]
    rfl
  · rw [if_neg hi, if_neg hd, if_pos hs]
    rfl
  · rw [if_neg hi, if_neg hd, if_neg hs]
    rfl

/-- What TICKET_INFO answers, by the number (R24). -/
theorem takeTicketInfo_spec (p : Part) (b : Byte) :
    (23 < b.toNat → p.takeTicketInfo [b] = refuse .range p) ∧
    ∀ n : TicketNo, b.toNat = n.val →
      ((p.ticket n).state = .free → p.takeTicketInfo [b] = refuse .notFound p) ∧
      ((p.ticket n).state ≠ .free → p.takeTicketInfo [b] = (⟨.ok, p.ticketInfo n⟩, p.spendFree)) := by
  constructor
  · intro hb
    have hlt : ¬b.toNat < 24 := by omega
    simp only [Part.takeTicketInfo, dif_neg hlt]
  · intro n hn
    have hlt : b.toNat < 24 := hn ▸ n.isLt
    have hfin : (⟨b.toNat, hlt⟩ : TicketNo) = n := Fin.ext hn
    simp only [Part.takeTicketInfo, dif_pos hlt, hfin]
    exact ⟨fun h => if_pos h, fun h => if_neg h⟩

/-- The reply data of POOL_STATUS, and the starvation counts that its clear flag clears (R25). -/
theorem takePoolStatus_spec (p : Part) (c : Byte) :
    p.takePoolStatus [c] = (⟨.ok, p.poolData⟩, if c.getLsbD 0 then { p with pool.starvation := {} } else p) := rfl

/-- Settles O28. -/
theorem poolIsShown : Obligations.PoolIsShown := by
  refine ⟨⟨?_, by decide, by decide⟩, ?_⟩
  · intro s dt tag b hs i q two time temp bit
    have hin : q.link.inbox = [] := heard_inbox i s dt ⟨0x23, tag, [b]⟩ hs rfl
    have answer (st : Status) (data : List Byte) (t : Part) (hk : q.takeTicketInfo [b] = (⟨st, data⟩, t))
        (ht : t.link.inbox = []) : Answers i s st data t :=
      answers_ticketInfo s dt tag [b] st data t hs (by simp) hk ht
    obtain ⟨hrange, hnumber⟩ := takeTicketInfo_spec q b
    refine ⟨fun hb => answer _ _ _ (hrange hb) hin, ?_⟩
    intro n hn t r g
    obtain ⟨hfree, hheld⟩ := hnumber n hn
    refine ⟨fun h => answer _ _ _ (hfree h) hin, fun h => ?_⟩
    have htwo (k : Nat) : two k = nat16 k := (nat16_eq k).symm
    have htime (k : Option Nat) : time k = optTime k := by cases k <;> rfl
    have htemp (k : Option Int) : temp k = optTemp k := by cases k <;> rfl
    have hform : (r.form.map fun f => if f = .cubed then (0 : Byte) else 1) = r.form.map fun f => byte f.code :=
      Option.map_congr fun f _ => by cases f <;> rfl
    obtain ⟨hqueue, hslots⟩ := place_spec q n
    refine ⟨q.place n, r.amountBytes (Config.freeAbsentAmount q.freeCount), ?_, amountBytes_length _ r, ?_, hqueue, hslots⟩
    · refine answer _ _ q.spendFree ((hheld h).trans ?_) hin
      congr 2
      simp only [htwo, htime, htemp, hform, Part.ticketInfo, Ticket.identity, Request.bytes, Progress.bytes,
        List.append_assoc, List.cons_append, List.nil_append]
      rfl
    · intro a ha
      simp only [Request.amountBytes, ha, htwo]
      rfl
  · intro s dt tag c hs i q data
    have hin : q.link.inbox = [] := heard_inbox i s dt ⟨0x24, tag, [c]⟩ hs rfl
    refine ⟨fun hc => ?_, fun hc => ?_⟩
    all_goals
      refine answers_poolStatus s dt tag [c] .ok data _ hs (by simp) ((takePoolStatus_spec q c).trans ?_) hin
      rw [hc]
      rfl

end Sys2Proof.Machine

namespace Sys2Proof.Machine

/-! FETCH takes the oldest records (R13, R23). -/

/-- A ticket joins the tail of the free list, emptied; the other records and the completion queue stay. -/
theorem joinFree_pool (p : Part) (n : TicketNo) :
    (p.joinFree n).pool.free = p.pool.free ++ [n] ∧ (p.joinFree n).pool.completion = p.pool.completion ∧
      ∀ m : TicketNo, (p.joinFree n).ticket m = if m = n then {} else p.ticket m := by
  refine ⟨?_, ?_, fun m => ?_⟩
  · rw [Part.joinFree, iceAttempt_pool]
  · rw [Part.joinFree, iceAttempt_pool]
  · rw [Part.joinFree, ticket_iceAttempt]
    simp only [Part.ticket, Fin.getElem_fin, Vector.getElem_set, Fin.ext_iff, eq_comm]

@[simp] theorem fetchUpTo_inbox (k : Nat) (p : Part) : (p.fetchUpTo k).2.link.inbox = p.link.inbox := by
  induction k generalizing p with
  | zero => rfl
  | succ k ih =>
    unfold Part.fetchUpTo
    split
    next => rfl
    next n rest _ =>
      obtain ⟨⟨-, -, -, -, -, -, hinbox, -⟩, -⟩ := joinFree_frame n { p with pool.completion := rest }
      exact (ih _).trans hinbox

/-- With no ticket twice in the completion queue, the records that leave it, oldest first, and where their tickets go. -/
theorem fetchUpTo_pool (k : Nat) (p : Part) (hd : p.pool.completion.Nodup) :
    let taken := p.pool.completion.take k
    let (records, q) := p.fetchUpTo k
    records = taken.map (fun n => (p.ticket n).completionRecord n) ∧ q.pool.completion = p.pool.completion.drop k ∧
      q.pool.free = p.pool.free ++ taken ∧ (∀ n ∈ taken, q.ticket n = {}) ∧
      (∀ n : TicketNo, n ∉ taken → q.ticket n = p.ticket n) := by
  induction k generalizing p with
  | zero => exact ⟨rfl, rfl, (List.append_nil _).symm, fun n hn => absurd hn (List.not_mem_nil), fun n _ => rfl⟩
  | succ k ih =>
    cases hc : p.pool.completion with
    | nil =>
      simp [Part.fetchUpTo, hc]
    | cons n rest =>
      rw [hc, List.nodup_cons] at hd
      obtain ⟨hn, hrest⟩ := hd
      obtain ⟨jfree, jcompletion, jticket⟩ := joinFree_pool { p with pool.completion := rest } n
      have hother (m : TicketNo) (hm : m ≠ n) : (Part.joinFree n { p with pool.completion := rest }).ticket m = p.ticket m :=
        (jticket m).trans (if_neg hm)
      obtain ⟨irecords, icompletion, ifree, iin, iout⟩ := ih (Part.joinFree n { p with pool.completion := rest })
        (by rwa [jcompletion])
      simp only [jcompletion] at irecords icompletion ifree iin iout
      simp only [Part.fetchUpTo, hc, List.take_succ_cons, List.drop_succ_cons, List.map_cons, List.mem_cons]
      refine ⟨?_, icompletion, ?_, ?_, ?_⟩
      · rw [irecords]
        congr 1
        refine List.map_congr_left fun m hm => ?_
        rw [hother m fun h => hn (h ▸ List.mem_of_mem_take hm)]
      · rw [ifree, jfree, List.append_assoc, List.singleton_append]
      · intro m hm
        by_cases hmt : m ∈ rest.take k
        · exact iin m hmt
        · obtain rfl : m = n := by simpa [hmt] using hm
          rw [iout m hmt, jticket, if_pos rfl]
      · intro m hm
        rw [not_or] at hm
        rw [iout m hm.2, hother m hm.1]

/-! The completion record (Table 9-8). -/

theorem nat16_length (n : Nat) : (nat16 n).length = 2 := rfl

theorem optTime_length (t : Option Nat) : (optTime t).length = 4 := by cases t <;> rfl

theorem optTemp_length (t : Option Int) : (optTemp t).length = 2 := by cases t <;> rfl

theorem extra_length (t : Ticket) : t.extra.length = 2 := by
  unfold Ticket.extra
  repeat' split
  all_goals simp only [nat16_length, optTemp_length]

theorem completionRecord_length (n : TicketNo) (t : Ticket) : (t.completionRecord n).length = 20 := by
  simp [Ticket.completionRecord, Ticket.identity, nat16_length, optTime_length, extra_length]

/-- What FETCH answers, by the count (R23). -/
theorem takeFetch_spec (p : Part) (c : Byte) :
    ((c.toNat < 1 ∨ 3 < c.toNat) → p.takeFetch [c] = refuse .range p) ∧
    (1 ≤ c.toNat → c.toNat ≤ 3 →
      p.takeFetch [c] =
        (⟨.ok, byte (p.fetchUpTo c.toNat).1.length :: (p.fetchUpTo c.toNat).1.flatten⟩,
          (p.fetchUpTo c.toNat).2.settle)) := by
  refine ⟨fun h => if_pos h, fun h1 h3 => ?_⟩
  have hin : ¬(c.toNat < 1 ∨ 3 < c.toNat) := by omega
  exact if_neg hin

/-- Settles O27. -/
theorem fetchTakesTheOldest : Obligations.FetchTakesTheOldest := by
  refine ⟨?_, by decide, by decide, by decide, by decide⟩
  intro s dt tag c hs i q two time extra record
  have hin : q.link.inbox = [] := heard_inbox i s dt ⟨0x22, tag, [c]⟩ hs rfl
  have htwo (k : Nat) : two k = nat16 k := (nat16_eq k).symm
  have htime (k : Option Nat) : time k = optTime k := by cases k <;> rfl
  have hextra (t : Ticket) : (t.kind.map (extra t.request t.progress)).getD [0, 0] = t.extra := by
    obtain ⟨state, kind, origin, tag, request, progress⟩ := t
    cases kind with
    | none => rfl
    | some k =>
      cases k with
      | waterPortion | flush | moldFill | harvest | defrostCycle => exact htwo _
      | waterHold =>
        change extra request progress .waterHold = optTemp progress.tankTemp
        cases ht : progress.tankTemp <;> simp only [extra, ht] <;> rfl
      | icePortion | iceHold => rfl
      | loadTest =>
        obtain ⟨amount, form, awaitPaddle, latch, coldOnly, load, seconds⟩ := request
        cases load with
        | none => rfl
        | some l =>
          cases l with
          | heater h => exact htwo _
          | ejector | chute | auger => rfl
  have hrecord (n : TicketNo) : record n = (q.ticket n).completionRecord n := by
    simp only [record, htwo, htime, hextra]
    rfl
  obtain ⟨hrange, hcount⟩ := takeFetch_spec q c
  refine ⟨fun hc => ?_, fun h1 h3 hd => ?_, fun n => ?_⟩
  · exact answers_fetch s dt tag [c] .range [] q hs (by simp) (hrange hc) hin
  · obtain ⟨records, completion, free, emptied, others⟩ := fetchUpTo_pool c.toNat q hd
    refine ⟨(q.fetchUpTo c.toNat).2, ?_, completion, free, emptied, others⟩
    refine answers_fetch s dt tag [c] .ok _ _ hs (by simp) ((hcount h1 h3).trans ?_) ?_
    · rw [records, List.length_map, ← List.flatMap_def]
      rw [funext hrecord]
    · obtain ⟨-, -, -, -, -, -, hinbox, -⟩ := settle_frame (q.fetchUpTo c.toNat).2
      rw [hinbox, fetchUpTo_inbox, hin]
  · rw [hrecord, completionRecord_length]

end Sys2Proof.Machine

namespace Sys2Proof.Machine

/-! What a SUBMIT payload names (R18, R205). -/

theorem present_reserved (b : Byte) : b.extractLsb' 4 4 ≠ 0 ↔ ¬b.toNat < 16 := by
  rw [ne_eq, ← BitVec.toNat_inj, BitVec.extractLsb'_toNat, Nat.shiftRight_eq_div_pow]
  change ¬_ = 0 ↔ _
  omega

theorem flags_reserved (b : Byte) : b.extractLsb' 3 5 ≠ 0 ↔ ¬b.toNat < 8 := by
  rw [ne_eq, ← BitVec.toNat_inj, BitVec.extractLsb'_toNat, Nat.shiftRight_eq_div_pow]
  change ¬_ = 0 ↔ _
  omega

theorem flags_clear_iff (b : Byte) (h : b.toNat < 8) :
    b.toNat = 0 ↔ b.getLsbD 0 = false ∧ b.getLsbD 1 = false ∧ b.getLsbD 2 = false := by
  simp only [BitVec.getLsbD, Nat.testBit, Nat.shiftRight_eq_div_pow]
  generalize b.toNat = k at h
  interval_cases k <;> decide

/-- The form of a code that names one. -/
def namedForm (b : Byte) : Form := if b = 0 then .cubed else .crushed

/-- The load of a code that names one. -/
def namedLoad (b : Byte) : Load :=
  if h : b.toNat < 5 then .heater ⟨b.toNat, h⟩ else if b = 5 then .ejector else if b = 6 then .chute else .auger

theorem formOf_eq (b : Byte) : formOf b = if b.toNat ≤ 1 then some (namedForm b) else none := by
  unfold formOf namedForm
  by_cases h0 : b = 0
  · simp [h0]
  · by_cases h1 : b = 1
    · simp [h1]
    · have hb : ¬b.toNat ≤ 1 := by bv_omega
      rw [if_neg h0, if_neg h1, if_neg hb]

theorem loadOfCode_eq (b : Byte) : Load.ofCode b = if b.toNat ≤ 7 then some (namedLoad b) else none := by
  unfold Load.ofCode namedLoad
  by_cases h : b.toNat < 5
  · have hb : b.toNat ≤ 7 := by omega
    simp [h, hb]
  · by_cases h5 : b = 5
    · simp [h5]
    by_cases h6 : b = 6
    · simp [h6]
    by_cases h7 : b = 7
    · simp [h7]
    have hb : ¬b.toNat ≤ 7 := by bv_omega
    rw [dif_neg h, if_neg h5, if_neg h6, if_neg h7, if_neg hb]

theorem submitKind_eq (b : Byte) (kind : TicketKind) (hk : 1 ≤ b.toNat ∧ b.toNat ≤ 6) (hc : kind.code = b) :
    submitKind b = some kind := by
  subst hc
  cases kind <;> revert hk <;> decide

theorem submitKind_total (b : Byte) (hk : 1 ≤ b.toNat ∧ b.toNat ≤ 6) : ∃ kind : TicketKind, kind.code = b := by
  have hb : b = BitVec.ofNat 8 b.toNat := by simp
  generalize b.toNat = k at hk hb
  subst hb
  obtain ⟨h1, h6⟩ := hk
  interval_cases k
  exacts [⟨.waterPortion, rfl⟩, ⟨.waterHold, rfl⟩, ⟨.icePortion, rfl⟩, ⟨.iceHold, rfl⟩, ⟨.flush, rfl⟩, ⟨.loadTest, rfl⟩]

theorem submitKind_none (b : Byte) (hk : ¬(1 ≤ b.toNat ∧ b.toNat ≤ 6)) : submitKind b = none := by
  unfold submitKind
  (repeat' split) <;> first | rfl | (subst_vars; exact absurd (by decide) hk)

/-- The request of a SUBMIT payload's fields, `has` telling which of the optional ones are present (R205). -/
def submitted (has : Nat → Bool) (amount secs : Nat) (form flags load : Byte) : Request where
  amount := if has 0 then some amount else none
  form := if has 1 then some (namedForm form) else none
  awaitPaddle := flags.getLsbD 0
  latch := flags.getLsbD 1
  coldOnly := flags.getLsbD 2
  load := if has 2 then some (namedLoad load) else none
  seconds := if has 3 then some secs else none

/-- The checks of R18, field by field. -/
theorem suits_iff (has : Nat → Bool) (amount secs : Nat) (form flags load : Byte) (kind : TicketKind) :
    (submitted has amount secs form flags load).suits kind = true ↔
      has 0 = kind.carriesAmount ∧ (has 0 = true → amountInRange kind amount = true) ∧ has 1 = kind.carriesForm ∧
        has 2 = (kind == .loadTest) ∧ has 3 = (kind == .loadTest && !(has 2 && namedLoad load == .ejector)) ∧
        (has 3 = true → 1 ≤ secs ∧ secs ≤ 60) ∧
        (kind.carriesFlags = true ∨ (flags.getLsbD 0 = false ∧ flags.getLsbD 1 = false)) ∧
        (kind.carriesCold = true ∨ flags.getLsbD 2 = false) := by
  simp only [Request.suits, submitted, carriesSeconds, Bool.and_eq_true, Bool.or_eq_true, Bool.not_eq_true', beq_iff_eq,
    Bool.or_eq_false_iff, and_assoc]
  cases has 0 <;> cases has 1 <;> cases has 2 <;> cases has 3 <;> simp

end Sys2Proof.Machine

namespace Sys2Proof.Machine

/-! SUBMIT: the payload (R18, Table 9-7). -/

/-- The fields of a SUBMIT payload that R18 and Table 9-7 let stand: `k` is its kind's code. -/
def SubmitValid (k : Nat) (has : Nat → Bool) (amount secs : Nat) (present form flags load : Byte) : Prop :=
  1 ≤ k ∧ k ≤ 6 ∧ present.toNat < 16 ∧ flags.toNat < 8 ∧ (has 0 = true ↔ k = 1 ∨ k = 3 ∨ k = 5) ∧
    ((k = 1 ∨ k = 5) → 10 ≤ amount ∧ amount ≤ 4000) ∧ (k = 3 → 1 ≤ amount ∧ amount ≤ 200) ∧
    (has 1 = true ↔ k = 3 ∨ k = 4) ∧ (has 1 = true → form.toNat ≤ 1) ∧ (has 2 = true ↔ k = 6) ∧
    (has 2 = true → load.toNat ≤ 7) ∧ (has 3 = true ↔ k = 6 ∧ load.toNat ≠ 5) ∧
    (has 3 = true → 1 ≤ secs ∧ secs ≤ 60) ∧ ((k = 3 ∨ k = 4) → flags.getLsbD 2 = false) ∧
    (k = 6 → flags.toNat = 0)

theorem namedLoad_ejector (b : Byte) : namedLoad b = .ejector ↔ b.toNat = 5 := by
  have h5 : b = 5 ↔ b.toNat = 5 := by rw [← BitVec.toNat_inj]; rfl
  rw [← h5]
  unfold namedLoad
  split
  next h => exact ⟨fun hl => Load.noConfusion hl, fun hb => absurd (h5.1 hb) (by omega)⟩
  next =>
    split
    next hb => exact ⟨fun _ => hb, fun _ => rfl⟩
    next hb =>
      refine ⟨fun hl => ?_, fun h => absurd h hb⟩
      split at hl <;> cases hl

/-- What the fields are, whatever the kind: a kind's code, no reserved bit, and a form and a load where one is named. -/
def fieldsRead (k : Nat) (has : Nat → Bool) (present form flags load : Byte) : Prop :=
  (1 ≤ k ∧ k ≤ 6) ∧ present.toNat < 16 ∧ flags.toNat < 8 ∧ (has 1 = true → form.toNat ≤ 1) ∧
    (has 2 = true → load.toNat ≤ 7)

/-- With its fields read, a payload is valid where the kind carries its fields (R18). -/
theorem submitValid_iff (kind : TicketKind) (has : Nat → Bool) (amount secs : Nat) (present form flags load : Byte)
    (hr : fieldsRead kind.code.toNat has present form flags load) :
    SubmitValid kind.code.toNat has amount secs present form flags load ↔
      (submitted has amount secs form flags load).suits kind = true := by
  obtain ⟨hk, hp, hf, hform, hload⟩ := hr
  rw [suits_iff, SubmitValid, flags_clear_iff flags hf]
  have he : (namedLoad load == .ejector) = decide (load.toNat = 5) := by
    rw [beq_eq_decide]
    exact decide_eq_decide.2 (namedLoad_ejector load)
  have hl : (kind == .loadTest) = decide (kind = .loadTest) := beq_eq_decide _ _
  have h3 : (has 3 = true ↔ load.toNat ≠ 5) ↔ has 3 = !decide (load.toNat = 5) := by cases has 3 <;> simp
  rw [he, hl]
  cases kind <;> simp_all [TicketKind.code, TicketKind.carriesAmount, TicketKind.carriesForm, TicketKind.carriesFlags,
    TicketKind.carriesCold, amountInRange, and_assoc]

/-- The kind and the request that a payload of 8 bytes names, and the payloads that are refused RANGE (R18, R205). -/
theorem submitRequest_spec (code present a1 a0 form flags load secs : Byte) (has : Nat → Bool)
    (hhas : ∀ j, present.getLsbD j = has j) :
    let valid := SubmitValid code.toNat has (read16 a1 a0) secs.toNat present form flags load
    let r := submitRequest [code, present, a1, a0, form, flags, load, secs]
    (¬valid → r = none) ∧
    ∀ kind : TicketKind, valid → kind.code = code →
      r = some (kind, submitted has (read16 a1 a0) secs.toNat form flags load) := by
  intro valid r
  have hfield {α : Type} (j : Nat) (v : α) : presentField present j v = if has j then some v else none := by
    rw [presentField, hhas]
  have hread (kind : TicketKind) (h : fieldsRead code.toNat has present form flags load) (hc : kind.code = code) :
      r = if (submitted has (read16 a1 a0) secs.toNat form flags load).suits kind then
          some (kind, submitted has (read16 a1 a0) secs.toNat form flags load) else none := by
    obtain ⟨hk, hp, hf, h1, h2⟩ := h
    have hno : ¬(present.extractLsb' 4 4 ≠ 0 ∨ flags.extractLsb' 3 5 ≠ 0) := by
      rw [present_reserved, flags_reserved]
      omega
    simp only [r, submitRequest, hfield, formOf_eq, loadOfCode_eq]
    rw [if_neg hno, submitKind_eq code kind hk hc]
    cases hb1 : has 1 <;> cases hb2 : has 2 <;> simp [submitted, hb1, hb2, h1, h2]
  constructor
  · intro hv
    by_cases h : fieldsRead code.toNat has present form flags load
    · obtain ⟨kind, hc⟩ := submitKind_total code h.1
      subst hc
      rw [hread kind h rfl, if_neg fun hs => hv ((submitValid_iff kind has _ _ present form flags load h).2 hs)]
    · simp only [fieldsRead, not_and_or, Classical.not_imp] at h
      simp only [r, submitRequest, hfield, formOf_eq, loadOfCode_eq]
      split
      next => rfl
      next hno =>
        rw [present_reserved, flags_reserved, not_or, not_not, not_not] at hno
        rcases h with h | h | h | ⟨hb, h⟩ | ⟨hb, h⟩
        · rw [submitKind_none code (not_and_or.2 h)]
        · exact absurd hno.1 h
        · exact absurd hno.2 h
        · rw [if_pos hb, if_neg h]
          cases submitKind code <;> rfl
        · rw [if_pos hb, if_neg h]
          generalize (if has 1 = true then some (if form.toNat ≤ 1 then some (namedForm form) else none) else none) = f
          rcases f with _ | _ | f <;> cases submitKind code <;> rfl
  · intro kind hv hc
    have h : fieldsRead code.toNat has present form flags load := by
      obtain ⟨h1, h6, hp, hf, -, -, -, -, hform, -, hload, -⟩ := hv
      exact ⟨⟨h1, h6⟩, hp, hf, hform, hload⟩
    subst hc
    rw [hread kind h rfl, if_pos ((submitValid_iff kind has _ _ present form flags load h).1 hv)]

end Sys2Proof.Machine

namespace Sys2Proof.Machine

/-! SUBMIT: the refusals and the placing (R19, R20). -/

/-- The refusals of R19, in order. -/
theorem submitRefusal_eq (kind : TicketKind) (r : Request) (p : Part) :
    p.submitRefusal kind r =
      if (kind.isWater = true ∧ p.line.leakLatch = true) ∨
          (serviceBound kind r = true ∧ p.pool.serviceSlot.isSome = true) ∨
          (r.load = some .ejector ∧ p.ice.state ≠ .parked) then some .state
      else if serviceBound kind r = false ∧ 7 ≤ p.pool.queue.length then some .queueFull
      else none := by
  unfold Part.submitRefusal
  by_cases hw : kind.isWater = true ∧ p.line.leakLatch = true
  · simp [hw]
  by_cases hs : serviceBound kind r = true ∧ p.pool.serviceSlot.isSome = true
  · simp [hs]
  by_cases he : r.load = some .ejector ∧ p.ice.state ≠ .parked
  · simp [he]
  · simp [hw, hs, he]

/-! What SUBMIT answers, step by step (R18 to R20). -/

theorem takeSubmit_badLength (tag : Byte) (payload : List Byte) (p : Part) (h : payload.length ≠ 8) :
    p.takeSubmit tag payload = refuse .badLength p := if_neg h

theorem takeSubmit_range (tag : Byte) (payload : List Byte) (p : Part) (hl : payload.length = 8)
    (h : submitRequest payload = none) : p.takeSubmit tag payload = refuse .range p := by
  rw [Part.takeSubmit, if_pos hl, h]

theorem takeSubmit_refused (tag : Byte) (payload : List Byte) (p : Part) (kind : TicketKind) (r : Request) (st : Status)
    (hl : payload.length = 8) (h : submitRequest payload = some (kind, r)) (hs : p.submitRefusal kind r = some st) :
    p.takeSubmit tag payload = refuse st p := by
  simp only [Part.takeSubmit, if_pos hl, h, hs]

theorem takeSubmit_noTicket (tag : Byte) (payload : List Byte) (p : Part) (kind : TicketKind) (r : Request)
    (hl : payload.length = 8) (h : submitRequest payload = some (kind, r)) (hs : p.submitRefusal kind r = none)
    (hf : p.pool.free.length < 4) : p.takeSubmit tag payload = refuse .noTicket (p.starve .link) := by
  simp only [Part.takeSubmit, if_pos hl, h, hs]
  rw [draw_refused p kind .link (some tag) r hf]

theorem takeSubmit_placed (tag : Byte) (payload : List Byte) (p : Part) (kind : TicketKind) (r : Request) (n : TicketNo)
    (rest : List TicketNo) (hl : payload.length = 8) (h : submitRequest payload = some (kind, r))
    (hs : p.submitRefusal kind r = none) (hf : p.pool.free = n :: rest) (hfour : 4 ≤ p.pool.free.length) :
    p.takeSubmit tag payload =
      (⟨.ok, [byte n.val]⟩, ((p.draw kind .link (some tag) r).2.placeLink n kind r).settle) := by
  obtain ⟨hone, -⟩ := draw_pool p kind .link (some tag) r n rest hf hfour
  simp only [Part.takeSubmit, if_pos hl, h, hs]
  generalize p.draw kind .link (some tag) r = d at hone ⊢
  obtain ⟨m, q⟩ := d
  cases hone
  rfl

/-! Where a LINK ticket is placed (R17, R20, R63, R117). -/

theorem placeLink_queue (n : TicketNo) (kind : TicketKind) (r : Request) (p : Part) (h : serviceBound kind r = false) :
    p.placeLink n kind r = { p with pool.queue := p.pool.queue ++ [n] } := by
  simp [Part.placeLink, h]

theorem placeLink_service (n : TicketNo) (kind : TicketKind) (r : Request) (p : Part) (h : serviceBound kind r = true) :
    let q := p.placeLink n kind r
    q.pool.serviceSlot = some n ∧ q.pool.queue = p.pool.queue ∧ q.pool.free = p.pool.free ∧
      q.ticket n = { p.ticket n with state := .active, progress := { startTime := some p.clock.partSeconds } } := by
  have hticket : (Part.activate n { p with pool.serviceSlot := some n }).ticket n =
      { p.ticket n with state := .active, progress := { startTime := some p.clock.partSeconds } } := by
    rw [Part.activate, ticket_updateTicket, if_pos rfl]
    rfl
  simp only [Part.placeLink, if_pos h]
  split <;> exact ⟨rfl, rfl, rfl, hticket⟩

theorem placeLink_heater (n : TicketNo) (kind : TicketKind) (r : Request) (p : Part) (h : HeaterNo)
    (hs : serviceBound kind r = true) (hload : r.load = some (.heater h)) :
    (p.placeLink n kind r).loads.heaters[h].testDemand = true := by
  have hloads : (p.placeLink n kind r).loads.heaters = (p.loads.update h Heater.raiseTest).heaters := by
    simp only [Part.placeLink, if_pos hs, hload]
    rfl
  simp only [hloads, heaters_update, if_true]
  exact (raiseTest_spec _).1

theorem placeLink_ejector (n : TicketNo) (kind : TicketKind) (r : Request) (p : Part) (hs : serviceBound kind r = true)
    (hload : r.load = some .ejector) :
    let q := p.placeLink n kind r
    q.ice.ejector = true ∧ q.ice.state = p.ice.state ∧
      q.ice.returnDeadline = some (p.clock.now + p.supervision.params.ejectLimit * 1000000) := by
  simp only [Part.placeLink, if_pos hs, hload]
  exact ⟨rfl, rfl, rfl⟩

theorem placeLink_inbox (n : TicketNo) (kind : TicketKind) (r : Request) (p : Part) :
    (p.placeLink n kind r).link.inbox = p.link.inbox := by
  unfold Part.placeLink
  repeat' split
  all_goals rfl

/-! Which of R19's cases a valid payload falls under. -/

theorem code_loadTest (kind : TicketKind) : kind.code.toNat = 6 ↔ kind = .loadTest := by
  cases kind <;> decide

theorem isWater_iff (kind : TicketKind) :
    kind.isWater = true ↔ kind.code.toNat = 1 ∨ kind.code.toNat = 2 ∨ kind.code.toNat = 5 := by
  cases kind <;> decide

theorem namedLoad_heater (b : Byte) (h : HeaterNo) (hb : b.toNat = h.val) : namedLoad b = .heater h := by
  have hlt : b.toNat < 5 := hb ▸ h.isLt
  rw [namedLoad, dif_pos hlt]
  exact congrArg Load.heater (Fin.ext hb)

theorem namedLoad_service (b : Byte) : (namedLoad b ≠ .chute ∧ namedLoad b ≠ .auger) ↔ b.toNat ≤ 5 := by
  by_cases hlt : b.toNat < 5
  · rw [namedLoad_heater b ⟨b.toNat, hlt⟩ rfl]
    exact ⟨fun _ => by omega, fun _ => ⟨Load.noConfusion, Load.noConfusion⟩⟩
  by_cases h5 : b.toNat = 5
  · rw [(namedLoad_ejector b).2 h5, h5]
    decide
  · have hb : ¬b = 5 := fun h => h5 (by rw [h]; rfl)
    rw [namedLoad, dif_neg hlt, if_neg hb]
    refine ⟨fun h => ?_, fun h => by omega⟩
    split at h
    · exact absurd rfl h.1
    · exact absurd rfl h.2

/-- A kind and a load that a valid payload names: which of R19's cases they fall under. -/
theorem submitted_cases (kind : TicketKind) (has : Nat → Bool) (amount secs : Nat) (present form flags load : Byte)
    (hv : SubmitValid kind.code.toNat has amount secs present form flags load) :
    let k := kind.code.toNat
    let r := submitted has amount secs form flags load
    (serviceBound kind r = true ↔ k = 6 ∧ load.toNat ≤ 5) ∧ (r.load = some .ejector ↔ k = 6 ∧ load.toNat = 5) ∧
      ∀ h : HeaterNo, k = 6 → load.toNat = h.val → r.load = some (.heater h) := by
  intro k r
  obtain ⟨-, -, -, -, -, -, -, -, -, hload, -⟩ := hv
  by_cases hk : k = 6
  · have hr : r.load = some (namedLoad load) := if_pos (hload.2 hk)
    have hkind : kind = .loadTest := (code_loadTest kind).1 hk
    refine ⟨?_, ?_, fun h _ hb => ?_⟩
    · simp only [hk, true_and, ← namedLoad_service, serviceBound, hr, hkind, beq_self_eq_true, Bool.true_and,
        Bool.and_eq_true, bne_iff_ne, ne_eq, Option.some.injEq]
    · simp only [hk, true_and, hr, Option.some.injEq, namedLoad_ejector]
    · rw [hr, namedLoad_heater load h hb]
  · have hr : r.load = none := if_neg fun h => hk (hload.1 h)
    have hkind : (kind == .loadTest) = false := beq_eq_false_iff_ne.2 fun h => hk ((code_loadTest kind).2 h)
    refine ⟨?_, ?_, fun _ h => absurd h hk⟩
    · simp only [hk, false_and, serviceBound, hkind, Bool.false_and, Bool.false_eq_true]
    · simp only [hk, false_and, hr, reduceCtorEq]

/-- Settles O25. -/
theorem submitPlacesALinkTicket : Obligations.SubmitPlacesALinkTicket := by
  constructor
  · intro s dt tag payload hs hl h8
    exact answers_submit s dt tag payload .badLength [] _ hs hl (takeSubmit_badLength tag payload _ h8)
      (heard_inbox _ s dt ⟨0x20, tag, payload⟩ hs rfl)
  intro s dt tag code present a1 a0 form flags load secs hs i q k has amount valid r
  have hin : q.link.inbox = [] := heard_inbox i s dt ⟨0x20, tag, _⟩ hs rfl
  have answer (st : Status) (data : List Byte) (t : Part)
      (hk : q.takeSubmit tag [code, present, a1, a0, form, flags, load, secs] = (⟨st, data⟩, t))
      (ht : t.link.inbox = []) : Answers i s st data t :=
    answers_submit s dt tag _ st data t hs (by simp) hk ht
  obtain ⟨hrange, hnamed⟩ := submitRequest_spec code present a1 a0 form flags load secs has fun _ => rfl
  refine ⟨fun hv => answer _ _ _ (takeSubmit_range tag _ q rfl (hrange hv)) hin, ?_⟩
  intro kind hv hc water service ejector
  have hreq := hnamed kind hv hc
  subst hc
  obtain ⟨hservice, hejector, hheater⟩ := submitted_cases kind has amount secs.toNat present form flags load hv
  have hrefusal : q.submitRefusal kind r =
      if (water ∧ q.line.leakLatch = true) ∨ (service ∧ q.pool.serviceSlot.isSome = true) ∨
          (ejector ∧ q.ice.state ≠ .parked) then some .state
      else if ¬service ∧ 7 ≤ q.pool.queue.length then some .queueFull else none := by
    have hbound : serviceBound kind r = false ↔ ¬service := by rw [← Bool.not_eq_true]; exact not_congr hservice
    rw [submitRefusal_eq]
    exact if_congr (or_congr (and_congr_left' (isWater_iff kind))
      (or_congr (and_congr_left' hservice) (and_congr_left' hejector))) rfl (if_congr (and_congr_left' hbound) rfl rfl)
  split
  next h =>
    rw [if_pos h] at hrefusal
    exact answer _ _ _ (takeSubmit_refused tag _ q kind r .state rfl hreq hrefusal) hin
  next h =>
    rw [if_neg h] at hrefusal
    split
    next h' =>
      rw [if_pos h'] at hrefusal
      exact answer _ _ _ (takeSubmit_refused tag _ q kind r .queueFull rfl hreq hrefusal) hin
    next h' =>
      rw [if_neg h'] at hrefusal
      split
      next hfew => exact answer _ _ _ (takeSubmit_noTicket tag _ q kind r rfl hreq hrefusal hfew) hin
      next hfour =>
        intro n rest hf hn
        replace hfour : 4 ≤ q.pool.free.length := Nat.not_lt.1 hfour
        obtain ⟨-, hprefix, hqueue, -, -, hslot, -, hticket⟩ := draw_pool q kind .link (some tag) r n rest hf hfour
        obtain ⟨⟨hclock, -, -, hsup, -, -, hinbox, -⟩, -, -, hice, -⟩ := draw_frame kind .link (some tag) r q
        have hplaced := takeSubmit_placed tag _ q kind r n rest rfl hreq hrefusal hf hfour
        generalize (q.draw kind .link (some tag) r).2 = d at *
        replace hticket := hticket hn
        refine ⟨d.placeLink n kind r, answer _ _ _ hplaced ?_, ?_⟩
        · obtain ⟨-, -, -, -, -, -, hsettle, -⟩ := settle_frame (d.placeLink n kind r)
          rw [hsettle, placeLink_inbox, hinbox, hin]
        by_cases hb : service
        · have hbound : serviceBound kind r = true := hservice.2 hb
          obtain ⟨pslot, pqueue, pfree, pticket⟩ := placeLink_service n kind r d hbound
          rw [pfree, pticket, hticket, pslot, pqueue, hqueue, hclock]
          refine ⟨rfl, rfl, rfl, rfl, hprefix, fun h => absurd hb h, fun _ => ⟨rfl, rfl, rfl, rfl⟩, fun h _ hh => ?_,
            fun he => ?_⟩
          · exact placeLink_heater n kind r d h hbound (hheater h hb.1 hh)
          · obtain ⟨peject, pstate, preturn⟩ := placeLink_ejector n kind r d hbound (hejector.2 he)
            have hparked : q.ice.state = .parked := by
              by_contra hp
              exact h (.inr (.inr ⟨he, hp⟩))
            rw [peject, pstate, preturn, hice, hclock, hsup]
            exact ⟨rfl, hparked, rfl⟩
        · have hbound : serviceBound kind r = false := Bool.eq_false_iff.2 fun h => hb (hservice.1 h)
          rw [placeLink_queue n kind r d hbound]
          have hrecord : Part.ticket { d with pool.queue := d.pool.queue ++ [n] } n = _ := hticket
          rw [hrecord]
          exact ⟨rfl, rfl, rfl, rfl, hprefix, fun _ => ⟨rfl, by rw [hqueue], hslot⟩, fun h => absurd h hb,
            fun _ h => absurd h hb, fun he => absurd ⟨he.1, he.2.le⟩ hb⟩

end Sys2Proof.Machine

namespace Sys2Proof.Machine

/-! A paddle judged PRESSED (R41). -/

/-- The Sense Unit once a paddle's level has stood at PRESSED for its debounce time. -/
def Sense.pressed (pad : Paddle) (s : Sense) : Sense :=
  match pad with
  | .water => { s with waterPaddle := some .pressed, waterPin.level := some .pressed }
  | .ice => { s with icePaddle := some .pressed, icePin.level := some .pressed }

theorem paddleBecomes_pressed (pad : Paddle) (p : Part) (h : p.sense.paddle pad = some .released) :
    p.paddleBecomes pad .pressed = Part.judgePress pad { p with sense := p.sense.setPaddle .pressed pad } := by
  simp only [Part.paddleBecomes, h]

theorem pressed_eq (pad : Paddle) (s : Sense) (now : Nat)
    (h : (s.paddlePin pad).stood now paddleTime .pressed) :
    s.pressed pad = (s.tellPaddle now .pressed pad).setPaddle .pressed pad := by
  have ht := (tell_eq_told now PaddleState.pressed (s.paddlePin pad)).trans (told_of_stood now paddleTime PaddleState.pressed _ h)
  cases pad <;> simp_all [Sense.pressed, Sense.tellPaddle, Sense.setPaddle, Sense.paddlePin]

theorem pressed_same (pad : Paddle) (s : Sense) (h : (s.paddlePin pad).level = some .pressed) :
    s.pressed pad = s.setPaddle .pressed pad := by
  have hpin : { s.paddlePin pad with level := some .pressed } = s.paddlePin pad := by rw [← h]
  cases pad
  · exact congrArg (fun pin => { s with waterPaddle := some .pressed, waterPin := pin }) hpin
  · exact congrArg (fun pin => { s with icePaddle := some .pressed, icePin := pin }) hpin

theorem tellPaddle_same (pad : Paddle) (st : PaddleState) (p : Part)
    (h : (p.sense.paddlePin pad).level = some st) : p.tellPaddle pad st = p := by
  have hs : p.sense.tellPaddle p.clock.now st pad = p.sense := by
    cases pad
    · have ht : p.sense.waterPin.tell p.clock.now st = p.sense.waterPin := tell_same _ _ _ h
      rw [Sense.tellPaddle, ht]
    · have ht : p.sense.icePin.tell p.clock.now st = p.sense.icePin := tell_same _ _ _ h
      rw [Sense.tellPaddle, ht]
  rw [Part.tellPaddle, hs]

/-- R41, R125: a RELEASED paddle whose pin has stood at PRESSED for 30 ms is a press, whether a row or the pin's own time
brings it (log 9). -/
theorem press_judged (pad : Paddle) (p : Part) (hrel : p.sense.paddle pad = some .released)
    (hst : (p.sense.paddlePin pad).stood p.clock.now paddleTime .pressed) :
    p.press pad = Part.judgePress pad { p with sense := p.sense.pressed pad } := by
  rcases hst.1 with hl | hl
  · have hquiet : (p.sense.paddlePin pad).quiet p.clock.now paddleTime (p.sense.paddle pad) := by
      intro v hv
      rw [hl] at hv
      cases hv
    have hheld : Part.paddleHeld pad .pressed (p.tellPaddle pad .pressed) = true := by
      change Pin.held _ _ _ ((p.sense.tellPaddle _ _ _).paddlePin pad) = true
      rw [paddlePin_tellPaddle]
      exact (held_tell _ _ _ _ (by decide)).2 hst
    have hstate : (p.tellPaddle pad .pressed).sense.paddle pad = some .released := by
      rw [← hrel]
      cases pad <;> rfl
    rw [Part.press, paddleTold_quiet pad .pressed p hquiet]
    simp only [hstate, hheld, and_self, if_true]
    rw [paddleBecomes_pressed pad _ hstate, pressed_eq pad p.sense _ hst]
    rfl
  · have hearned : (p.sense.paddlePin pad).earned p.clock.now paddleTime (p.sense.paddle pad) .pressed :=
      ⟨hl, by rw [hrel]; decide, hst.2⟩
    have hsense : (p.paddleBecomes pad .pressed).sense = p.sense.setPaddle .pressed pad :=
      (paddleBecomes_frame pad .pressed p).2.2
    have hpin : ((p.paddleBecomes pad .pressed).sense.paddlePin pad).level = some .pressed := by
      rw [hsense, ← hl]
      cases pad <;> rfl
    have hstate : ¬(p.paddleBecomes pad .pressed).sense.paddle pad = some .released := by
      rw [hsense]
      cases pad <;> simp [Sense.paddle, Sense.setPaddle]
    rw [Part.press, paddleTold_earned pad .pressed .pressed p hearned, tellPaddle_same pad .pressed _ hpin]
    simp only [hstate, false_and, if_false]
    rw [paddleBecomes_pressed pad _ hrel, pressed_same pad p.sense hl]

/-! The start of the head (R123, R128, R133). -/

/-- The record of a head that becomes ACTIVE: its start notes (R123). -/
def Ticket.started (now : Nat) (byPaddle : Bool) (tank : Option Int) (t : Ticket) : Ticket :=
  { t with
    state := .active
    progress := { startTime := some now, paddleStarted := byPaddle, tankTemp := if t.isWater then tank else none } }

theorem ticket_activateHead (p : Part) (n : TicketNo) :
    (p.activateHead n).ticket n =
      (p.ticket n).started p.clock.partSeconds p.outlet.paddleStarted p.outlet.tankNote := by
  rw [Part.activateHead, ticket_updateTicket, if_pos rfl, Part.activate, ticket_updateTicket, if_pos rfl]
  rfl

theorem startHead_of_water (p : Part) (n : TicketNo) (byPaddle : Bool) (hw : (p.ticket n).isWater = true) :
    p.startHead n byPaddle = Part.startWater n { p with outlet.paddleStarted := byPaddle } := if_pos hw

theorem startHead_of_flap (p : Part) (n : TicketNo) (byPaddle : Bool) (hw : (p.ticket n).isWater = false) :
    p.startHead n byPaddle = Part.startFlap n { p with outlet.paddleStarted := byPaddle } :=
  if_neg (by rw [Bool.not_eq_true]; exact hw)

theorem startWater_anyTank (p : Part) (n : TicketNo) (hc : (p.ticket n).request.coldOnly = false) :
    p.startWater n =
      Part.claimDispense n { p with outlet.tankNote := (p.reading tank).temp, outlet.state := .lineWait } :=
  if_neg (by rw [Bool.not_eq_true]; exact hc)

theorem claimDispense_idle (p : Part) (n : TicketNo) (hleak : p.line.leakLatch = false) (hline : p.line.state = .idle) :
    p.claimDispense n = p.grantDispense n := by
  simp [Part.claimDispense, hleak, hline]

/-- A water head without COLD_ONLY starts on an IDLE line with the door CLOSED: it is granted the line (R123, R128). -/
theorem startHead_water (p : Part) (n : TicketNo) (byPaddle : Bool) (hw : (p.ticket n).isWater = true)
    (hc : (p.ticket n).request.coldOnly = false) (hleak : p.line.leakLatch = false) (hline : p.line.state = .idle)
    (hdoor : p.sense.door = some .closed) :
    let q := p.startHead n byPaddle
    q.outlet.state = .running ∧ q.pool.queue = p.pool.queue ∧ q.pool.free = p.pool.free ∧ q.sense = p.sense ∧
      q.line.owner = some .dispense ∧ q.line.dispense = true ∧
      q.ticket n = (p.ticket n).started p.clock.partSeconds byPaddle (p.reading tank).temp := by
  intro q
  let r : Part :=
    { p with outlet := { p.outlet with paddleStarted := byPaddle, tankNote := (p.reading tank).temp, state := .lineWait } }
  have hgrant : q = r.grantDispense n :=
    calc
      q = Part.startWater n { p with outlet.paddleStarted := byPaddle } := startHead_of_water p n byPaddle hw
      _ = r.claimDispense n := startWater_anyTank { p with outlet.paddleStarted := byPaddle } n hc
      _ = r.grantDispense n := claimDispense_idle r n hleak hline
  have hopen : ¬((r.openLine .dispense n).activateHead n).sense.door = some .opened := by
    change ¬p.sense.door = some .opened
    rw [hdoor]
    decide
  rw [hgrant, Part.grantDispense, if_neg hopen]
  exact ⟨rfl, rfl, rfl, rfl, rfl, rfl, ticket_activateHead (r.openLine .dispense n) n⟩

/-- A head that needs the flap starts with the chute in order: its opening is driven (R123, R130, R133). -/
theorem startHead_flap (p : Part) (n : TicketNo) (byPaddle : Bool) (hw : (p.ticket n).isWater = false)
    (hfault : p.outlet.chuteFault = false) :
    let q := p.startHead n byPaddle
    q.outlet.state = .opening ∧ q.pool.queue = p.pool.queue ∧ q.pool.free = p.pool.free ∧ q.sense = p.sense ∧
      q.outlet.flapOpenOut = true ∧
      q.ticket n = (p.ticket n).started p.clock.partSeconds byPaddle p.outlet.tankNote := by
  have hfault' : ¬p.outlet.chuteFault = true := by rw [hfault]; decide
  rw [startHead_of_flap p n byPaddle hw, Part.startFlap, if_neg hfault']
  exact ⟨rfl, rfl, rfl, rfl, rfl, ticket_activateHead { p with outlet.paddleStarted := byPaddle } n⟩

/-- The head starts where its conditions hold (R123). -/
theorem startOne_ready (p : Part) (n : TicketNo) (press : Option Paddle) (hh : p.pool.queue.head? = some n)
    (hr : p.headReady press = true) :
    p.startOne press = p.startHead n ((p.ticket n).awaits press || (p.ticket n).origin == some .paddle) := by
  have hh' : p.head = some n := hh
  simp only [Part.startOne, hh', hr, if_true]

theorem headIs_of_head (p : Part) (n : TicketNo) (f : Ticket → Bool) (hh : p.pool.queue.head? = some n) :
    p.headIs f = f (p.ticket n) := by
  simp [Part.headIs, Part.head, hh]

/-- The start conditions of a head (R123). -/
theorem headReady_of_head (p : Part) (n : TicketNo) (press : Option Paddle) (hh : p.pool.queue.head? = some n)
    (ho : p.outlet.state = .idle) (hdoor : p.sense.door = some .closed) (hq : (p.ticket n).state = .queued)
    (hp : (p.ticket n).request.awaitPaddle = false ∨ (p.ticket n).awaits press = true)
    (hmedium : ((p.ticket n).isWater = true ∧ (p.ticket n).request.coldOnly = false) ∨
      ((p.ticket n).isWater = false ∧ p.sense.flap.isSome = true ∧ p.outlet.flap = .closed)) :
    p.headReady press = true := by
  rw [Part.headReady, headIs_of_head p n _ hh]
  rcases hp with hp | hp <;> rcases hmedium with ⟨hw, hc⟩ | ⟨hw, hs, hf⟩ <;> simp [*]

end Sys2Proof.Machine

namespace Sys2Proof.Machine

/-! The draw of a paddle ticket (R11, R126). -/

theorem paddleDraw_refused (pad : Paddle) (p : Part) (hf : p.pool.free.length < 2) :
    p.paddleDraw pad = p.starve .paddle := by
  rw [Part.paddleDraw, draw_refused p _ .paddle none _ hf]

/-- A PADDLE draw that is granted: the ticket drawn stands ahead of the others, and the head is started. -/
theorem paddleDraw_granted (pad : Paddle) (p : Part) (n : TicketNo) (rest : List TicketNo) (hf : p.pool.free = n :: rest)
    (htwo : 1 ≤ rest.length) (hn : n ∉ p.pool.completion) :
    ∃ e : Part, p.paddleDraw pad = e.startOne none ∧ e.pool.queue = n :: p.pool.queue ∧
      e.ticket n = Ticket.drawn (paddleKind pad) .paddle none (p.paddleRequest pad) ∧ e.outlet = p.outlet ∧
      e.line = p.line ∧ e.sense = p.sense ∧ e.clock = p.clock := by
  have hthreshold : Origin.paddle.threshold ≤ p.pool.free.length := by
    rw [hf, List.length_cons]
    exact Nat.succ_le_succ htwo
  obtain ⟨hone, -, hqueue, -, -, -, -, hticket⟩ :=
    draw_pool p (paddleKind pad) .paddle none (p.paddleRequest pad) n rest hf hthreshold
  obtain ⟨⟨hclock, -, hsense, -⟩, hline, -, -, houtlet, -⟩ :=
    draw_frame (paddleKind pad) .paddle none (p.paddleRequest pad) p
  rw [Part.paddleDraw]
  generalize p.draw (paddleKind pad) .paddle none (p.paddleRequest pad) = d at *
  obtain ⟨m, d⟩ := d
  cases hone
  exact ⟨{ d with pool.queue := n :: d.pool.queue }, rfl, congrArg (n :: ·) hqueue, hticket hn, houtlet, hline, hsense,
    hclock⟩

/-- A WATER_HOLD drawn by the water paddle is granted an IDLE line at once, paddle-started (R126, R128). -/
theorem paddleDraw_water (p : Part) (n : TicketNo) (rest : List TicketNo) (hf : p.pool.free = n :: rest)
    (htwo : 1 ≤ rest.length) (hn : n ∉ p.pool.completion) (ho : p.outlet.state = .idle)
    (hdoor : p.sense.door = some .closed) (hleak : p.line.leakLatch = false) (hline : p.line.state = .idle) :
    let q := p.paddleDraw .water
    q.outlet.state = .running ∧ q.pool.queue = n :: p.pool.queue ∧ q.sense = p.sense ∧
      q.line.owner = some .dispense ∧ q.line.dispense = true ∧
      ∃ tank : Option Int, q.ticket n =
        (Ticket.drawn .waterHold .paddle none {}).started p.clock.partSeconds true tank := by
  obtain ⟨e, hdraw, equeue, eticket, eoutlet, eline, esense, eclock⟩ := paddleDraw_granted .water p n rest hf htwo hn
  have hhead : e.pool.queue.head? = some n := by rw [equeue]; rfl
  have hwater : (e.ticket n).isWater = true := by rw [eticket]; rfl
  have hcold : (e.ticket n).request.coldOnly = false := by rw [eticket]; rfl
  have hready : e.headReady none = true :=
    headReady_of_head e n none hhead (by rw [eoutlet, ho]) (by rw [esense, hdoor]) (by rw [eticket]; rfl)
      (.inl (by rw [eticket]; rfl)) (.inl ⟨hwater, hcold⟩)
  have hnoted : ((e.ticket n).awaits none || (e.ticket n).origin == some .paddle) = true := by rw [eticket]; rfl
  obtain ⟨qstate, qqueue, -, qsense, qowner, qdispense, qticket⟩ :=
    startHead_water e n true hwater hcold (by rw [eline, hleak]) (by rw [eline, hline]) (by rw [esense, hdoor])
  intro q
  have hq : q = e.startHead n true := by rw [← hnoted, ← startOne_ready e n none hhead hready, ← hdraw]
  rw [hq]
  exact ⟨qstate, qqueue.trans equeue, qsense.trans esense, qowner, qdispense, _, by rw [qticket, eticket, eclock]; rfl⟩

/-- An ICE_HOLD drawn by the ice paddle opens a CLOSED flap, paddle-started (R126, R133). -/
theorem paddleDraw_ice (p : Part) (n : TicketNo) (rest : List TicketNo) (hf : p.pool.free = n :: rest)
    (htwo : 1 ≤ rest.length) (hn : n ∉ p.pool.completion) (ho : p.outlet.state = .idle)
    (hdoor : p.sense.door = some .closed) (hfault : p.outlet.chuteFault = false) (hflap : p.outlet.flap = .closed)
    (hread : p.sense.flap.isSome = true) :
    let q := p.paddleDraw .ice
    q.outlet.state = .opening ∧ q.pool.queue = n :: p.pool.queue ∧ q.sense = p.sense ∧ q.outlet.flapOpenOut = true ∧
      ∃ tank : Option Int, q.ticket n =
        (Ticket.drawn .iceHold .paddle none { form := some p.supervision.params.iceForm }).started
          p.clock.partSeconds true tank := by
  obtain ⟨e, hdraw, equeue, eticket, eoutlet, eline, esense, eclock⟩ := paddleDraw_granted .ice p n rest hf htwo hn
  have hhead : e.pool.queue.head? = some n := by rw [equeue]; rfl
  have hwater : (e.ticket n).isWater = false := by rw [eticket]; rfl
  have hready : e.headReady none = true :=
    headReady_of_head e n none hhead (by rw [eoutlet, ho]) (by rw [esense, hdoor]) (by rw [eticket]; rfl)
      (.inl (by rw [eticket]; rfl)) (.inr ⟨hwater, by rw [esense, hread], by rw [eoutlet, hflap]⟩)
  have hnoted : ((e.ticket n).awaits none || (e.ticket n).origin == some .paddle) = true := by rw [eticket]; rfl
  obtain ⟨qstate, qqueue, -, qsense, qopen, qticket⟩ := startHead_flap e n true hwater (by rw [eoutlet, hfault])
  intro q
  have hq : q = e.startHead n true := by rw [← hnoted, ← startOne_ready e n none hhead hready, ← hdraw]
  rw [hq]
  exact ⟨qstate, qqueue.trans equeue, qsense.trans esense, qopen, _, by rw [qticket, eticket, eclock]; rfl⟩

/-! The table of R125, in order. -/

theorem judgePress_ignored (pad : Paddle) (p : Part) (h : p.outlet.state ≠ .idle ∨ p.sense.door ≠ some .closed) :
    p.judgePress pad = p := by
  unfold Part.judgePress
  rcases h with h | h
  · rw [if_pos h]
  · rw [if_pos h, ite_self]

theorem judgePress_starts (pad : Paddle) (p : Part) (ho : p.outlet.state = .idle) (hdoor : p.sense.door = some .closed)
    (hawaits : p.headIs (Ticket.awaits (some pad)) = true) (hready : p.headReady (some pad) = true) :
    p.judgePress pad = p.startOne (some pad) := by
  simp [Part.judgePress, ho, hdoor, hawaits, hready]

/-- A press that no head awaits is ignored where the queue is full or a paddle ticket waits, and draws else. -/
theorem judgePress_draws (pad : Paddle) (p : Part) (ho : p.outlet.state = .idle) (hdoor : p.sense.door = some .closed)
    (hawaits : p.headIs (Ticket.awaits (some pad)) = false) :
    p.judgePress pad = if 8 ≤ p.pool.queue.length ∨ p.waitingPaddleHead = true then p else p.paddleDraw pad := by
  by_cases h8 : 8 ≤ p.pool.queue.length <;> by_cases hw : p.waitingPaddleHead = true <;>
    simp [Part.judgePress, ho, hdoor, hawaits, h8, hw]

theorem headIs_nil (p : Part) (f : Ticket → Bool) (h : p.pool.queue = []) : p.headIs f = false := by
  simp [Part.headIs, Part.head, h]

theorem isWater_of_kind (t : Ticket)
    (h : t.kind = some .waterPortion ∨ t.kind = some .waterHold ∨ t.kind = some .flush) : t.isWater = true := by
  rcases h with h | h | h <;> simp [Ticket.isWater, h]

theorem isIce_of_kind (t : Ticket) (h : t.kind = some .icePortion ∨ t.kind = some .iceHold) :
    t.isIce = true ∧ t.isWater = false := by
  rcases h with h | h <;> rw [Ticket.isIce, Ticket.isWater, h] <;> decide

/-- A water head that awaits the water paddle starts at its press (R125). -/
theorem judgePress_waterHead (p : Part) (m : TicketNo) (hh : p.pool.queue.head? = some m) (ho : p.outlet.state = .idle)
    (hdoor : p.sense.door = some .closed) (hq : (p.ticket m).state = .queued)
    (ha : (p.ticket m).request.awaitPaddle = true) (hw : (p.ticket m).isWater = true)
    (hc : (p.ticket m).request.coldOnly = false) :
    p.judgePress .water = p.startHead m true := by
  have hawaits : (p.ticket m).awaits (some .water) = true := by simp [Ticket.awaits, ha, Ticket.paddle, hw]
  have hready := headReady_of_head p m (some .water) hh ho hdoor hq (.inr hawaits) (.inl ⟨hw, hc⟩)
  rw [judgePress_starts .water p ho hdoor (by rw [headIs_of_head p m _ hh, hawaits]) hready,
    startOne_ready p m _ hh hready, hawaits, Bool.true_or]

/-- An ice head that awaits the ice paddle starts at its press (R125). -/
theorem judgePress_iceHead (p : Part) (m : TicketNo) (hh : p.pool.queue.head? = some m) (ho : p.outlet.state = .idle)
    (hdoor : p.sense.door = some .closed) (hq : (p.ticket m).state = .queued)
    (ha : (p.ticket m).request.awaitPaddle = true) (hi : (p.ticket m).isIce = true) (hw : (p.ticket m).isWater = false)
    (hs : p.sense.flap.isSome = true) (hf : p.outlet.flap = .closed) :
    p.judgePress .ice = p.startHead m true := by
  have hawaits : (p.ticket m).awaits (some .ice) = true := by simp [Ticket.awaits, ha, Ticket.paddle, hi, hw]
  have hready := headReady_of_head p m (some .ice) hh ho hdoor hq (.inr hawaits) (.inr ⟨hw, hs, hf⟩)
  rw [judgePress_starts .ice p ho hdoor (by rw [headIs_of_head p m _ hh, hawaits]) hready,
    startOne_ready p m _ hh hready, hawaits, Bool.true_or]

/-- Settles O40: the press is judged by `press_judged`, whatever row or pin brings it, and then by the table of R125. -/
theorem paddlePressesAreJudged : Obligations.PaddlePressesAreJudged := by
  intro s dt pad hr p pressed hrel hst
  replace hrel : p.sense.paddle pad = some .released := by cases pad <;> exact hrel
  replace hst : (p.sense.paddlePin pad).stood p.clock.now paddleTime .pressed := by cases pad <;> exact hst
  have hpressed : pressed = p.sense.pressed pad := by cases pad <;> rfl
  have hdoor : pressed.door = p.sense.door := by cases pad <;> rfl
  have hflap : pressed.flap = p.sense.flap := by cases pad <;> rfl
  let r : Part := { p with sense := pressed }
  have judged (q : Part) (h : r.judgePress pad = q) : Becomes (.paddlePress dt pad) s q.settle := by
    rw [Becomes, exec, execPaddlePress, take_next s dt _ hr, ← h]
    change _ = Host.Outcome.next { s with part := Part.settle (Part.judgePress pad { p with sense := pressed }) }
    rw [hpressed, ← press_judged pad p hrel hst]
  refine ⟨fun h => judged _ (judgePress_ignored pad r (by rwa [← hdoor] at h)), fun ho hd hqueue => ?_, ?_⟩
  · replace hd : r.sense.door = some .closed := hdoor.trans hd
    have hdraw : r.judgePress pad = r.paddleDraw pad := by
      have hno : ¬(8 ≤ r.pool.queue.length ∨ r.waitingPaddleHead = true) := by
        rw [Part.waitingPaddleHead, headIs_nil r _ hqueue]
        change ¬(8 ≤ p.pool.queue.length ∨ _)
        rw [hqueue]
        decide
      rw [judgePress_draws pad r ho hd (headIs_nil r _ hqueue), if_neg hno]
    refine ⟨fun hfew => judged _ (hdraw.trans (paddleDraw_refused pad r hfew)), fun n rest hf htwo hn => ⟨?_, ?_⟩⟩
    · rintro rfl hleak hline
      obtain ⟨qstate, qqueue, qsense, qowner, qdispense, tank, qticket⟩ :=
        paddleDraw_water r n rest hf htwo hn ho hd hleak hline
      refine ⟨_, judged _ hdraw, qstate, qqueue.trans (congrArg (n :: ·) hqueue), ?_⟩
      rw [qticket]
      exact ⟨rfl, rfl, rfl, rfl, rfl, qowner, qdispense, qsense⟩
    · rintro rfl hfault hclosed hread
      obtain ⟨qstate, qqueue, qsense, qopen, tank, qticket⟩ :=
        paddleDraw_ice r n rest hf htwo hn ho hd hfault hclosed (hflap.symm ▸ hread)
      refine ⟨_, judged _ hdraw, qstate, qqueue.trans (congrArg (n :: ·) hqueue), ?_⟩
      rw [qticket]
      exact ⟨rfl, rfl, rfl, rfl, rfl, rfl, qopen, qsense⟩
  · intro m others ho hd hqueue t started
    replace hd : r.sense.door = some .closed := hdoor.trans hd
    have hhead : r.pool.queue.head? = some m := congrArg List.head? hqueue
    refine ⟨fun hq ha => ⟨?_, ?_⟩, fun ha => ?_⟩
    · rintro rfl hkind hcold hleak hline
      have hw : (r.ticket m).isWater = true := isWater_of_kind t hkind
      obtain ⟨qstate, qqueue, qfree, qsense, qowner, qdispense, qticket⟩ :=
        startHead_water r m true hw hcold hleak hline hd
      refine ⟨_, judged _ (judgePress_waterHead r m hhead ho hd hq ha hw hcold), ⟨qqueue, qfree, ?_, ?_, qsense⟩, qstate,
        qowner, qdispense⟩
      all_goals rw [qticket]; rfl
    · rintro rfl hkind hfault hclosed hread
      obtain ⟨hi, hw⟩ : (r.ticket m).isIce = true ∧ (r.ticket m).isWater = false := isIce_of_kind t hkind
      obtain ⟨qstate, qqueue, qfree, qsense, qopen, qticket⟩ := startHead_flap r m true hw hfault
      refine ⟨_, judged _ (judgePress_iceHead r m hhead ho hd hq ha hi hw (hflap.symm ▸ hread) hclosed),
        ⟨qqueue, qfree, ?_, ?_, qsense⟩, qstate, qopen⟩
      all_goals rw [qticket]; rfl
    · have hawaits : r.headIs (Ticket.awaits (some pad)) = false := by
        rw [headIs_of_head r m _ hhead]
        exact (congrArg (· && _ && _) ha).trans (by simp)
      have hjudged := judgePress_draws pad r ho hd hawaits
      have hwaiting : r.waitingPaddleHead = true ↔ t.state = .queued ∧ t.origin = some .paddle := by
        rw [Part.waitingPaddleHead, headIs_of_head r m _ hhead, Bool.and_eq_true, beq_iff_eq, beq_iff_eq]
        rfl
      refine ⟨fun h => judged _ (hjudged.trans (if_pos (h.imp_right hwaiting.2))), fun hfew8 horigin => ?_⟩
      have hdraw : r.judgePress pad = r.paddleDraw pad :=
        hjudged.trans (if_neg fun h => h.elim (Nat.not_le.2 hfew8) fun hw => horigin (hwaiting.1 hw).2)
      refine ⟨fun hfew => judged _ (hdraw.trans (paddleDraw_refused pad r hfew)), ?_⟩
      rintro n rest hf htwo hn rfl hleak hline
      obtain ⟨qstate, qqueue, qsense, qowner, qdispense, tank, qticket⟩ :=
        paddleDraw_water r n rest hf htwo hn ho hd hleak hline
      refine ⟨_, judged _ hdraw, qstate, qqueue, ?_⟩
      rw [qticket]
      exact ⟨rfl, rfl, rfl, rfl, qowner⟩

end Sys2Proof.Machine

namespace Sys2Proof.Machine

/-! The stops of the head, stage by stage (R136, R140, R141, R143). -/

/-- What a stop of the head leaves in the pool: the queue and the records, but the head's own and, where the line is a fill's,
that of the ice maker slot. -/
def Part.TouchesHead (q p : Part) (n : TicketNo) : Prop :=
  q.pool.queue = p.pool.queue ∧ q.pool.completion = p.pool.completion ∧ q.pool.free = p.pool.free ∧
    q.pool.iceSlot = p.pool.iceSlot ∧ q.pool.defrostSlot = p.pool.defrostSlot ∧
    q.pool.serviceSlot = p.pool.serviceSlot ∧
    (∀ m : TicketNo, m ≠ n → p.pool.iceSlot ≠ some m → q.ticket m = p.ticket m) ∧
    (∀ m : TicketNo, (q.ticket m).origin = (p.ticket m).origin) ∧ q.link = p.link

theorem Part.TouchesHead.refl (p : Part) (n : TicketNo) : p.TouchesHead p n :=
  ⟨rfl, rfl, rfl, rfl, rfl, rfl, fun _ _ _ => rfl, fun _ => rfl, rfl⟩

theorem Part.TouchesHead.trans {p q r : Part} {n : TicketNo} (h : r.TouchesHead q n) (g : q.TouchesHead p n) :
    r.TouchesHead p n := by
  obtain ⟨hqueue, hcompletion, hfree, hice, hdefrost, hservice, hothers, horigin, hlink⟩ := h
  obtain ⟨gqueue, gcompletion, gfree, gice, gdefrost, gservice, gothers, gorigin, glink⟩ := g
  exact ⟨hqueue.trans gqueue, hcompletion.trans gcompletion, hfree.trans gfree, hice.trans gice, hdefrost.trans gdefrost,
    hservice.trans gservice, fun m hm hi => (hothers m hm (gice ▸ hi)).trans (gothers m hm hi),
    fun m => (horigin m).trans (gorigin m), hlink.trans glink⟩

theorem updateTicket_touches (p : Part) (n : TicketNo) (f : Ticket → Ticket) (hf : ∀ t, (f t).origin = t.origin) :
    (p.updateTicket n f).TouchesHead p n := by
  refine ⟨rfl, rfl, rfl, rfl, rfl, rfl, fun m hm _ => ?_, fun m => ?_, rfl⟩
  · rw [ticket_updateTicket, if_neg hm]
  · rw [ticket_updateTicket]
    split
    next h => rw [hf, h]
    next => rfl

theorem updateHead_of_head (p : Part) (n : TicketNo) (f : Ticket → Ticket) (hh : p.pool.queue.head? = some n) :
    p.updateHead f = p.updateTicket n f := by
  rw [Part.updateHead, hh, updateSlot_some]

/-- A report of the auger touches the stock and the starvation counts alone (R111). -/
theorem reportAuger_pool (ms : Nat) (p : Part) :
    (p.reportAuger ms).pool = { p.pool with starvation := (p.reportAuger ms).pool.starvation } := by
  unfold Part.reportAuger Part.setStock
  split
  · rfl
  · rw [harvestAttempt_pool]

theorem reportAuger_stock (ms : Nat) (p : Part) :
    (p.reportAuger ms).ice.stock = p.ice.stock - cubesOf p.supervision.params.augerRate ms := by
  unfold Part.reportAuger Part.setStock
  split
  next h => exact h
  next => simp

theorem ticket_reportAuger (ms : Nat) (p : Part) (m : TicketNo) : (p.reportAuger ms).ticket m = p.ticket m := by
  rw [Part.ticket, reportAuger_pool]
  rfl

theorem reportAuger_link (ms : Nat) (p : Part) : (p.reportAuger ms).link = p.link := by
  unfold Part.reportAuger Part.setStock
  split
  · rfl
  · rw [harvestAttempt_link]

theorem reportAuger_touches (ms : Nat) (p : Part) (n : TicketNo) : (p.reportAuger ms).TouchesHead p n := by
  rw [Part.TouchesHead, reportAuger_pool]
  exact ⟨rfl, rfl, rfl, rfl, rfl, rfl, fun m _ _ => ticket_reportAuger ms p m,
    fun m => congrArg Ticket.origin (ticket_reportAuger ms p m), reportAuger_link ms p⟩

/-- The record of the head at the stop of its run: its measured amount (R136). -/
def Ticket.measure (k : Nat) (t : Ticket) : Ticket := t.withProgress fun g => { g with measured := sat16 k }

theorem stopAuger_forwardMs (p : Part) : p.stopAuger.forwardMs = p.outlet.run.forward.read p.clock.now / 1000 := rfl

/-- The part at the stop of a run, before the report of the auger. -/
def Part.measured (p : Part) (n : TicketNo) : Part :=
  p.stopAuger.updateTicket n (Ticket.measure (p.stopAuger.runAmount (p.ticket n)))

theorem measured_touches (p : Part) (n : TicketNo) : (p.measured n).TouchesHead p n :=
  updateTicket_touches p.stopAuger n _ fun _ => rfl

theorem ticket_measured (p : Part) (n : TicketNo) :
    (p.measured n).ticket n = (p.ticket n).measure (p.stopAuger.runAmount (p.ticket n)) := by
  rw [Part.measured, ticket_updateTicket, if_pos rfl]
  rfl

/-- The stop of a run: the outputs are released, the head is measured, and all but a chute test's run is reported (R136). -/
theorem endRun_of_head (p : Part) (n : TicketNo) (hh : p.pool.queue.head? = some n) :
    p.endRun =
      if (p.ticket n).isChuteTest = true then p.measured n
      else (p.measured n).reportAuger (p.outlet.run.forward.read p.clock.now / 1000) := by
  have hhead : p.stopAuger.pool.queue.head? = some n := hh
  have hchute : (p.measured n).headIs Ticket.isChuteTest = (p.ticket n).isChuteTest := by
    rw [headIs_of_head (p.measured n) n _ hh, ticket_measured]
    rfl
  unfold Part.endRun
  simp only [updateHead_of_head _ n _ hhead]
  change (if (p.measured n).headIs Ticket.isChuteTest = true then p.measured n
    else (p.measured n).reportAuger _) = _
  rw [hchute]
  rfl

theorem endRun_touches (p : Part) (n : TicketNo) (hh : p.pool.queue.head? = some n) : p.endRun.TouchesHead p n := by
  rw [endRun_of_head p n hh]
  split
  · exact measured_touches p n
  · exact (reportAuger_touches _ _ n).trans (measured_touches p n)

theorem ticket_endRun (p : Part) (n : TicketNo) (hh : p.pool.queue.head? = some n) :
    p.endRun.ticket n = (p.ticket n).measure (p.stopAuger.runAmount (p.ticket n)) := by
  rw [endRun_of_head p n hh]
  split
  · exact ticket_measured p n
  · rw [ticket_reportAuger, ticket_measured]

theorem endRun_outlet (p : Part) (n : TicketNo) (hh : p.pool.queue.head? = some n) :
    p.endRun.outlet = p.stopAuger.outlet := by
  rw [endRun_of_head p n hh]
  split
  · rfl
  · exact (reportAuger_frame _ (p.measured n)).2.2.2.1

/-- What every stop of a head at work does (R136, R140): it is STOPPING with its start time as it was, the outlet holds its
ending outcome, and no pause timer runs. -/
def Part.StopsHead (q p : Part) (n : TicketNo) (o : TicketOutcome) : Prop :=
  (q.ticket n).state = .stopping ∧ (q.ticket n).progress.startTime = (p.ticket n).progress.startTime ∧
    q.outlet.ending = some o ∧ q.outlet.pauseEnd = none

/-- The outlet in CLOSING, its closing driven from a moment on (R130). -/
def Outlet.Closes (c : Outlet) (now : Nat) : Prop :=
  c.state = .closing ∧ c.flap = .closing ∧ c.flapOpenOut = false ∧ c.flapCloseOut = true ∧
    c.flapDeadline = some (now + 1500000)

/-- The head becomes STOPPING with an ending outcome, the head named (R136). -/
def Part.stoppingAt (p : Part) (n : TicketNo) (o : TicketOutcome) : Part :=
  { p.updateTicket n Ticket.stopping with outlet.ending := some o, outlet.pauseEnd := none }

theorem stopping_of_head (p : Part) (n : TicketNo) (o : TicketOutcome) (hh : p.pool.queue.head? = some n) :
    p.stopping o = p.stoppingAt n o := by
  rw [Part.stopping, updateHead_of_head p n _ hh]
  rfl

theorem ticket_stoppingAt (p : Part) (n : TicketNo) (o : TicketOutcome) :
    (p.stoppingAt n o).ticket n = (p.ticket n).stopping :=
  (ticket_updateTicket p n n _).trans (if_pos rfl)

theorem stoppingAt_stops (p : Part) (n : TicketNo) (o : TicketOutcome) : (p.stoppingAt n o).StopsHead p n o := by
  rw [Part.StopsHead, ticket_stoppingAt]
  exact ⟨rfl, rfl, rfl, rfl⟩

theorem stoppingAt_touches (p : Part) (n : TicketNo) (o : TicketOutcome) : (p.stoppingAt n o).TouchesHead p n :=
  updateTicket_touches p n _ fun _ => rfl

/-- A head in OPENING goes to CLOSING (R140). -/
theorem abandonOpening_of_head (p : Part) (n : TicketNo) (o : TicketOutcome) (hh : p.pool.queue.head? = some n) :
    let q := p.abandonOpening o
    q.StopsHead p n o ∧ q.outlet.Closes p.clock.now ∧ q.TouchesHead p n := by
  rw [Part.abandonOpening, stopping_of_head p n o hh]
  exact ⟨stoppingAt_stops p n o, ⟨rfl, rfl, rfl, rfl, rfl⟩, stoppingAt_touches p n o⟩

/-- An ice head or an auger test enters STOPPING, its amount written and its run reported (R136, R144). -/
theorem stopRun_of_head (p : Part) (n : TicketNo) (o : TicketOutcome) (hh : p.pool.queue.head? = some n)
    (hc : (p.ticket n).isChuteTest = false) :
    let q := p.stopRun o
    let ms := p.outlet.run.forward.read p.clock.now / 1000
    q.StopsHead p n o ∧ q.outlet.state = .stopping ∧ q.outlet.augerForward = false ∧ q.outlet.augerReverse = false ∧
      q.outlet.crusher = false ∧
      q.outlet.holdEnd = some (p.clock.now + p.supervision.params.chuteHold * 1000000) ∧
      (q.ticket n).progress.measured =
        sat16 (if (p.ticket n).isAugerTest then ms / 1000 else cubesOf p.supervision.params.augerRate ms) ∧
      q.ice.stock = p.ice.stock - cubesOf p.supervision.params.augerRate ms := by
  intro q ms
  have hhead : p.endRun.pool.queue.head? = some n := by
    rw [(endRun_touches p n hh).1]
    exact hh
  have hq : q =
      { p.endRun.stoppingAt n o with
        outlet.state := .stopping
        outlet.holdEnd := some (p.endRun.clock.now + p.endRun.supervision.params.chuteHold * second) } := by
    simp only [q, Part.stopRun, stopping_of_head _ n o hhead]
    rfl
  have hticket : q.ticket n = (p.endRun.ticket n).stopping := by
    rw [hq]
    exact ticket_stoppingAt p.endRun n o
  obtain ⟨⟨hclock, -, -, hsup, -⟩, -⟩ := endRun_frame p
  have houtlet := endRun_outlet p n hh
  rw [ticket_endRun p n hh] at hticket
  refine ⟨⟨by rw [hticket]; rfl, by rw [hticket]; rfl, by rw [hq]; rfl, by rw [hq]; rfl⟩, by rw [hq], ?_, ?_, ?_, ?_, ?_,
    ?_⟩
  · rw [hq]
    exact congrArg Outlet.augerForward houtlet
  · rw [hq]
    exact congrArg Outlet.augerReverse houtlet
  · rw [hq]
    exact congrArg Outlet.crusher houtlet
  · rw [hq, hclock, hsup]
    rfl
  · rw [hticket]
    change sat16 (p.stopAuger.runAmount (p.ticket n)) = _
    rw [Part.runAmount, hc, stopAuger_forwardMs]
    rfl
  · rw [hq]
    change p.endRun.ice.stock = _
    rw [endRun_of_head p n hh, if_neg (by rw [hc]; decide), reportAuger_stock]
    rfl

/-- A chute test enters CLOSING, its hold time written (R140, R143). -/
theorem stopChuteTest_of_head (p : Part) (n : TicketNo) (o : TicketOutcome) (hh : p.pool.queue.head? = some n)
    (hc : (p.ticket n).isChuteTest = true) (ha : (p.ticket n).isAugerTest = false) :
    let q := p.stopChuteTest o
    q.StopsHead p n o ∧ q.outlet.Closes p.clock.now ∧
      (q.ticket n).progress.measured = sat16 (p.outlet.run.hold.read p.clock.now / 1000000) := by
  intro q
  have hhead : p.endRun.pool.queue.head? = some n := by
    rw [(endRun_touches p n hh).1]
    exact hh
  have hq : q = (p.endRun.stoppingAt n o).enterClosing := by
    simp only [q, Part.stopChuteTest, stopping_of_head _ n o hhead]
  have hticket : q.ticket n = (p.endRun.ticket n).stopping := by
    rw [hq]
    exact ticket_stoppingAt p.endRun n o
  obtain ⟨⟨hclock, -⟩, -⟩ := endRun_frame p
  rw [ticket_endRun p n hh] at hticket
  refine ⟨⟨by rw [hticket]; rfl, by rw [hticket]; rfl, by rw [hq]; rfl, by rw [hq]; rfl⟩, ?_, ?_⟩
  · rw [hq, ← hclock]
    exact ⟨rfl, rfl, rfl, rfl, rfl⟩
  · rw [hticket]
    change sat16 (p.stopAuger.runAmount (p.ticket n)) = _
    rw [Part.runAmount, ha, hc]
    rfl

/-- A water head at work on the line releases it: the valves close and the line settles (R78, R79, R140). -/
theorem endWork_of_head (p : Part) (n : TicketNo) (o : TicketOutcome) (hh : p.pool.queue.head? = some n)
    (hl : p.line.state = .opened ∨ p.line.state = .held) (ho : p.line.owner = some .dispense) :
    let q := p.endWork (.release o)
    q.StopsHead p n o ∧ q.TouchesHead p n ∧ q.outlet.state = .stopping ∧ q.line.state = .settle ∧
      q.line.ending = some (.release o) ∧ q.line.inlet = false ∧ q.line.dispense = false ∧
      q.line.settleEnd = some (p.clock.now + 500000) := by
  let r : Part :=
    { p with
      line :=
        { p.line.toSettle p.clock.now .dispense (some (.release o)) with
          work := p.line.work.map (·.stopOpen p.clock.now) } }
  have hq : p.endWork (.release o) = r.tellEnding .dispense o := by
    rcases hl with hl | hl <;> simp only [Part.endWork, hl, ho] <;> rfl
  have htell : r.tellEnding .dispense o = { r.stoppingAt n o with outlet.state := .stopping } := by
    rw [Part.tellEnding, updateHead_of_head r n _ hh]
    rfl
  rw [hq, htell]
  exact ⟨stoppingAt_stops r n o, stoppingAt_touches r n o, rfl, rfl, rfl, rfl, rfl, rfl⟩

/-- A head in LINE_WAIT is DONE at once, its claim withdrawn (R140). -/
theorem stopHead_lineWait (p : Part) (n : TicketNo) (o : TicketOutcome) (hs : p.outlet.state = .lineWait) :
    p.stopHead o = Part.finishUnstarted o { p with line.dispenseClaim := none } := by
  simp only [Part.stopHead, hs]

theorem stopHead_opening (p : Part) (o : TicketOutcome) (hs : p.outlet.state = .opening) :
    p.stopHead o = p.abandonOpening o := by
  simp only [Part.stopHead, hs]

theorem stopHead_runs (p : Part) (o : TicketOutcome) (hs : p.outlet.state = .running ∨ p.outlet.state = .paused) :
    p.stopHead o = p.stopDelivery o := by
  rcases hs with hs | hs <;> simp only [Part.stopHead, hs]

theorem stopHead_rests (p : Part) (o : TicketOutcome)
    (hs : p.outlet.state = .idle ∨ p.outlet.state = .stopping ∨ p.outlet.state = .closing) : p.stopHead o = p := by
  rcases hs with hs | hs | hs <;> simp only [Part.stopHead, hs]

end Sys2Proof.Machine

namespace Sys2Proof.Machine

/-! The end of a queued ticket's work, where it is kept in the completion queue (R12, R14). -/

/-- A ticket whose record is not retired as soon as it is DONE: a LINK ticket, or any with 4 tickets free. -/
def Part.keepsRecord (p : Part) (n : TicketNo) : Prop := (p.ticket n).origin = some .link ∨ 4 ≤ p.pool.free.length

theorem finish_kept (p : Part) (n : TicketNo) (o : TicketOutcome) (h : p.keepsRecord n) :
    p.finish n o = p.toCompletion n o :=
  h.elim (finish_link p n o) (finish_enough p n o)

theorem toCompletion_pool (p : Part) (n : TicketNo) (o : TicketOutcome) :
    (p.toCompletion n o).pool.queue = p.pool.queue.erase n ∧
      (p.toCompletion n o).pool.completion = p.pool.completion ++ [n] ∧
      (p.toCompletion n o).pool.free = p.pool.free ∧
      (p.toCompletion n o).pool.iceSlot = emptied n p.pool.iceSlot ∧
      (p.toCompletion n o).pool.defrostSlot = emptied n p.pool.defrostSlot ∧
      (p.toCompletion n o).pool.serviceSlot = emptied n p.pool.serviceSlot := ⟨rfl, rfl, rfl, rfl, rfl, rfl⟩

theorem ticket_toCompletion_self (p : Part) (n : TicketNo) (o : TicketOutcome) :
    (p.toCompletion n o).ticket n = (p.ticket n).finished p.clock.partSeconds o := by
  rw [ticket_toCompletion, if_pos rfl]

/-- The record of a head that ends before it has become ACTIVE: it receives its start notes (R123). -/
def Ticket.noted (c : Outlet) (t : Ticket) : Ticket :=
  t.withProgress fun g =>
    { g with paddleStarted := c.paddleStarted, tankTemp := if t.isWater then c.tankNote else none }

/-- A head that ends before it has become ACTIVE (R122, R123). -/
theorem finishUnstarted_of_head (p : Part) (n : TicketNo) (o : TicketOutcome) (hh : p.pool.queue.head? = some n)
    (hk : p.keepsRecord n) :
    p.finishUnstarted o = ((p.updateTicket n (Ticket.noted p.outlet)).toCompletion n o).idleOutlet := by
  have hkept : (p.updateTicket n (Ticket.noted p.outlet)).keepsRecord n := by
    rw [Part.keepsRecord, ticket_updateTicket, if_pos rfl]
    exact hk
  have hhead : (p.updateTicket n (Ticket.noted p.outlet)).head = some n := hh
  rw [Part.finishUnstarted, updateHead_of_head p n _ hh]
  change (Part.finishSlot (p.updateTicket n (Ticket.noted p.outlet)).head o _).idleOutlet = _
  rw [hhead]
  change ((p.updateTicket n (Ticket.noted p.outlet)).finish n o).idleOutlet = _
  rw [finish_kept _ n o hkept]

theorem ticket_finishUnstarted (p : Part) (n m : TicketNo) (o : TicketOutcome) (hh : p.pool.queue.head? = some n)
    (hk : p.keepsRecord n) :
    (p.finishUnstarted o).ticket m =
      if m = n then ((p.ticket n).noted p.outlet).finished p.clock.partSeconds o else p.ticket m := by
  rw [finishUnstarted_of_head p n o hh hk]
  change ((p.updateTicket n (Ticket.noted p.outlet)).toCompletion n o).ticket m = _
  rw [ticket_toCompletion, ticket_updateTicket, ticket_updateTicket, if_pos rfl]
  split <;> rfl

/-! What a stop of the head leaves, whatever its stage. -/

theorem updateSlot_ice_touches (p : Part) (n : TicketNo) (f : Ticket → Ticket) (hf : ∀ t, (f t).origin = t.origin) :
    (p.updateSlot p.pool.iceSlot f).TouchesHead p n := by
  cases hi : p.pool.iceSlot with
  | none => exact .refl p n
  | some k =>
    obtain ⟨-, -, -, -, -, -, -, horigin, hlink⟩ := updateTicket_touches p k f hf
    exact ⟨rfl, rfl, rfl, rfl, rfl, rfl,
      fun m _ hm => by
        rw [updateSlot_some, ticket_updateTicket, if_neg fun h => hm (by rw [hi, h])], horigin, hlink⟩

theorem endWork_touches (p : Part) (n : TicketNo) (r : EndingReason) (hh : p.pool.queue.head? = some n) :
    (p.endWork r).TouchesHead p n := by
  have htell (u : LineUser) (l : Line) : (Part.tellEnding u r.outcome { p with line := l }).TouchesHead p n := by
    cases u with
    | fill => exact updateSlot_ice_touches { p with line := l } n _ fun _ => rfl
    | dispense =>
      rw [Part.tellEnding, updateHead_of_head { p with line := l } n _ hh]
      exact updateTicket_touches p n _ fun _ => rfl
  unfold Part.endWork
  split
  · exact htell _ _
  · exact htell _ _
  · exact .refl p n

theorem stopDelivery_touches (p : Part) (n : TicketNo) (o : TicketOutcome) (hh : p.pool.queue.head? = some n) :
    (p.stopDelivery o).TouchesHead p n := by
  have hrun := endRun_touches p n hh
  have hhead : p.endRun.pool.queue.head? = some n := by
    rw [hrun.1]
    exact hh
  have hstop := (stoppingAt_touches p.endRun n o).trans hrun
  unfold Part.stopDelivery
  split
  · exact endWork_touches p n _ hh
  · split
    · rw [Part.stopChuteTest, stopping_of_head _ n o hhead]
      exact hstop
    · rw [Part.stopRun, stopping_of_head _ n o hhead]
      exact hstop

/-- A stop of the head ends its work in LINE_WAIT alone; at every other stage it leaves the queue and the other records. -/
theorem stopHead_touches (p : Part) (n : TicketNo) (o : TicketOutcome) (hh : p.pool.queue.head? = some n)
    (hs : p.outlet.state ≠ .lineWait) : (p.stopHead o).TouchesHead p n := by
  cases h : p.outlet.state with
  | lineWait => exact absurd h hs
  | opening =>
    rw [stopHead_opening p o h]
    exact (abandonOpening_of_head p n o hh).2.2
  | running =>
    rw [stopHead_runs p o (.inl h)]
    exact stopDelivery_touches p n o hh
  | paused =>
    rw [stopHead_runs p o (.inr h)]
    exact stopDelivery_touches p n o hh
  | idle =>
    rw [stopHead_rests p o (.inl h)]
    exact .refl p n
  | stopping =>
    rw [stopHead_rests p o (.inr (.inl h))]
    exact .refl p n
  | closing =>
    rw [stopHead_rests p o (.inr (.inr h))]
    exact .refl p n

/-! The head stopped at work, by its kind (R140, R141). -/

theorem stopDelivery_water (p : Part) (n : TicketNo) (o : TicketOutcome) (hh : p.pool.queue.head? = some n)
    (hw : (p.ticket n).isWater = true) : p.stopDelivery o = p.endWork (.release o) :=
  if_pos (by rw [headIs_of_head p n _ hh, hw])

theorem stopDelivery_chute (p : Part) (n : TicketNo) (o : TicketOutcome) (hh : p.pool.queue.head? = some n)
    (hw : (p.ticket n).isWater = false) (hc : (p.ticket n).isChuteTest = true) :
    p.stopDelivery o = p.stopChuteTest o := by
  rw [Part.stopDelivery, headIs_of_head p n _ hh, headIs_of_head p n _ hh, hw, hc]
  rfl

theorem stopDelivery_run (p : Part) (n : TicketNo) (o : TicketOutcome) (hh : p.pool.queue.head? = some n)
    (hw : (p.ticket n).isWater = false) (hc : (p.ticket n).isChuteTest = false) :
    p.stopDelivery o = p.stopRun o := by
  rw [Part.stopDelivery, headIs_of_head p n _ hh, headIs_of_head p n _ hh, hw, hc]
  rfl

theorem isChuteTest_iff (t : Ticket) :
    t.isChuteTest = true ↔ t.kind = some .loadTest ∧ t.request.load = some .chute := by
  rw [Ticket.isChuteTest, Bool.and_eq_true, beq_iff_eq, beq_iff_eq]

theorem isAugerTest_iff (t : Ticket) :
    t.isAugerTest = true ↔ t.kind = some .loadTest ∧ t.request.load = some .auger := by
  rw [Ticket.isAugerTest, Bool.and_eq_true, beq_iff_eq, beq_iff_eq]

theorem isWater_of_loadTest (t : Ticket) (h : t.kind = some .loadTest) : t.isWater = false := by
  rw [Ticket.isWater, h]
  decide

/-- An ice head or an auger test is neither a water head nor a chute test. -/
theorem runs_of_kind (t : Ticket) (h : (t.kind = some .icePortion ∨ t.kind = some .iceHold) ∨
    (t.kind = some .loadTest ∧ t.request.load = some .auger)) : t.isWater = false ∧ t.isChuteTest = false := by
  rcases h with h | ⟨hk, hl⟩
  · refine ⟨(isIce_of_kind t h).2, ?_⟩
    rw [Bool.eq_false_iff, ne_eq, isChuteTest_iff]
    rintro ⟨hk, -⟩
    rcases h with h | h <;> rw [h] at hk <;> cases hk
  · refine ⟨isWater_of_loadTest t hk, ?_⟩
    rw [Bool.eq_false_iff, ne_eq, isChuteTest_iff, hl]
    rintro ⟨-, hc⟩
    cases hc

end Sys2Proof.Machine

namespace Sys2Proof.Machine

/-- A head at work stopped at its stage (R140, R141): in OPENING it goes to CLOSING; a water head releases the line it has; an
ice head or an auger test enters STOPPING, the flap held; a chute test goes to CLOSING. -/
def Part.StoppedAt (q p : Part) (n : TicketNo) (o : TicketOutcome) : Prop :=
  let t := p.ticket n
  let runs := p.outlet.state = .running ∨ p.outlet.state = .paused
  let auger := t.kind = some .loadTest ∧ t.request.load = some .auger
  (p.outlet.state = .opening → q.StopsHead p n o ∧ q.outlet.Closes p.clock.now) ∧
  (runs → (t.kind = some .waterPortion ∨ t.kind = some .waterHold ∨ t.kind = some .flush) →
    (p.line.state = .opened ∨ p.line.state = .held) → p.line.owner = some .dispense →
    q.StopsHead p n o ∧ q.outlet.state = .stopping ∧ q.line.state = .settle ∧ q.line.ending = some (.release o) ∧
      q.line.inlet = false ∧ q.line.dispense = false ∧ q.line.settleEnd = some (p.clock.now + 500000)) ∧
  (runs → ((t.kind = some .icePortion ∨ t.kind = some .iceHold) ∨ auger) →
    let ms := p.outlet.run.forward.read p.clock.now / 1000
    let cubes := ms * p.supervision.params.augerRate / 10000
    q.StopsHead p n o ∧ q.outlet.state = .stopping ∧ q.outlet.augerForward = false ∧ q.outlet.augerReverse = false ∧
      q.outlet.crusher = false ∧
      q.outlet.holdEnd = some (p.clock.now + p.supervision.params.chuteHold * 1000000) ∧
      (q.ticket n).progress.measured = min (if auger then ms / 1000 else cubes) 65535 ∧
      q.ice.stock = p.ice.stock - cubes) ∧
  (runs → (t.kind = some .loadTest ∧ t.request.load = some .chute) →
    q.StopsHead p n o ∧ q.outlet.Closes p.clock.now ∧
      (q.ticket n).progress.measured = min (p.outlet.run.hold.read p.clock.now / 1000000) 65535)

theorem stopHead_stage (p : Part) (n : TicketNo) (o : TicketOutcome) (hh : p.pool.queue.head? = some n) :
    (p.stopHead o).StoppedAt p n o := by
  refine ⟨fun hs => ?_, fun hs hkind hl ho => ?_, fun hs hkind => ?_, fun hs hkind => ?_⟩
  · obtain ⟨hstops, hcloses, -⟩ := abandonOpening_of_head p n o hh
    rw [stopHead_opening p o hs]
    exact ⟨hstops, hcloses⟩
  · obtain ⟨hstops, -, hrest⟩ := endWork_of_head p n o hh hl ho
    rw [stopHead_runs p o hs, stopDelivery_water p n o hh (isWater_of_kind _ hkind)]
    exact ⟨hstops, hrest⟩
  · obtain ⟨hw, hc⟩ := runs_of_kind _ hkind
    obtain ⟨hstops, hstate, hforward, hreverse, hcrusher, hhold, hmeasured, hstock⟩ := stopRun_of_head p n o hh hc
    rw [stopHead_runs p o hs, stopDelivery_run p n o hh hw hc]
    refine ⟨hstops, hstate, hforward, hreverse, hcrusher, hhold, ?_, hstock⟩
    rw [hmeasured, sat16]
    exact congrArg (min · 65535) (if_congr (isAugerTest_iff _) rfl rfl)
  · have ha : (p.ticket n).isAugerTest = false := by
      rw [Bool.eq_false_iff, ne_eq, isAugerTest_iff, hkind.2]
      rintro ⟨-, h⟩
      cases h
    have hw := isWater_of_loadTest _ hkind.1
    have hc := (isChuteTest_iff _).2 hkind
    rw [stopHead_runs p o hs, stopDelivery_chute p n o hh hw hc]
    exact stopChuteTest_of_head p n o hh hc ha

/-! The service-slot test (R17, R64, R117, R118). -/

/-- An ejector test ends: its whole seconds are written, the ejector is released, and its record is DONE (R117). -/
theorem endEjectorTest_link (p : Part) (n : TicketNo) (o : TicketOutcome) (hl : (p.ticket n).origin = some .link) :
    let q := p.endEjectorTest n o
    q.ice = { p.ice.stopEjector with testFrom := none } ∧
      q.ticket n = ((p.ticket n).measure p.testSeconds).finished p.clock.partSeconds o ∧
      (∀ m : TicketNo, m ≠ n → q.ticket m = p.ticket m) ∧ q.pool.queue = p.pool.queue.erase n ∧
      q.pool.serviceSlot = emptied n p.pool.serviceSlot := by
  let r : Part :=
    { p.updateTicket n (Ticket.measure p.testSeconds) with ice := { p.ice.stopEjector with testFrom := none } }
  have hticket (m : TicketNo) : r.ticket m = if m = n then (p.ticket n).measure p.testSeconds else p.ticket m :=
    ticket_updateTicket p n m _
  have horigin : (r.ticket n).origin = some .link := by
    rw [hticket, if_pos rfl]
    exact hl
  have hq : p.endEjectorTest n o = r.toCompletion n o := finish_link r n o horigin
  rw [hq]
  refine ⟨rfl, ?_, fun m hm => ?_, rfl, rfl⟩
  · rw [ticket_toCompletion_self, hticket, if_pos rfl]
    rfl
  · rw [ticket_toCompletion, if_neg hm, hticket, if_neg hm]

theorem endServiceTest_none (p : Part) (o : TicketOutcome) (h : p.pool.serviceSlot = none) :
    p.endServiceTest o = p := by
  simp only [Part.endServiceTest, h]

theorem endServiceTest_heater (p : Part) (n : TicketNo) (h : HeaterNo) (o : TicketOutcome)
    (hs : p.pool.serviceSlot = some n) (ht : (p.ticket n).testHeater = some h) :
    p.endServiceTest o = (p.dropTest h).finish n o := by
  simp only [Part.endServiceTest, hs, ht]

theorem endServiceTest_ejector (p : Part) (n : TicketNo) (o : TicketOutcome) (hs : p.pool.serviceSlot = some n)
    (ht : (p.ticket n).testHeater = none) : p.endServiceTest o = p.abandonEjectorTest n o := by
  simp only [Part.endServiceTest, hs, ht]

theorem testHeater_iff (t : Ticket) (h : HeaterNo) :
    t.testHeater = some h ↔ t.kind = some .loadTest ∧ t.request.load = some (.heater h) := by
  unfold Ticket.testHeater
  split
  next k hk hl => simp [hk, hl]
  next hno =>
    refine ⟨fun h => (by cases h), fun ⟨hk, hl⟩ => absurd hl (hno h hk)⟩

theorem endEjectorTest_ice (p : Part) (n : TicketNo) (o : TicketOutcome) :
    (p.endEjectorTest n o).ice = { p.ice.stopEjector with testFrom := none } := by
  let r : Part :=
    { p.updateTicket n (Ticket.measure p.testSeconds) with ice := { p.ice.stopEjector with testFrom := none } }
  obtain ⟨-, -, -, hice, -⟩ := finish_frame n o r
  exact hice

/-- An ejector test is abandoned: as it ends, but that an arm away from home sets the off-home flag (R118). -/
theorem abandonEjectorTest_eq (p : Part) (n : TicketNo) (o : TicketOutcome) :
    p.abandonEjectorTest n o =
      { p.endEjectorTest n o with
        ice.offHome := if p.homeSettled = some .released then true else p.ice.offHome } := by
  obtain ⟨⟨hclock, -, hsense, -⟩, -⟩ := endEjectorTest_frame n o p
  have hsettled : (p.endEjectorTest n o).homeSettled = p.homeSettled := by
    simp only [Part.homeSettled, hclock, hsense]
  have hoff : (p.endEjectorTest n o).ice.offHome = p.ice.offHome := by rw [endEjectorTest_ice]; rfl
  simp only [Part.abandonEjectorTest, hsettled]
  split
  · rfl
  · rw [← hoff]

/-- The end of a ticket's work leaves every other record that auto-retire cannot take: one outside the completion queue, or
a LINK ticket's. -/
theorem ticket_finish_other (p : Part) (n m : TicketNo) (o : TicketOutcome) (hm : m ≠ n)
    (hk : m ∉ p.pool.completion ∨ (p.ticket m).origin = some .link) : (p.finish n o).ticket m = p.ticket m := by
  have hsame : (p.toCompletion n o).ticket m = p.ticket m := by rw [ticket_toCompletion, if_neg hm]
  unfold Part.finish
  split
  · obtain ⟨-, -, -, hkept, -, houtside, -⟩ := retireUpTo_pool 4 (p.toCompletion n o)
    by_cases hin : m ∈ (p.toCompletion n o).pool.completion
    · have hlink : (p.ticket m).origin = some .link := by
        refine hk.resolve_left fun h => ?_
        rcases List.mem_append.1 hin with h' | h'
        · exact h h'
        · exact hm (List.mem_singleton.1 h')
      exact (hkept m hin (link_not_retirable _ (by rw [hsame]; exact hlink))).2.trans hsame
    · exact (houtside m hin).trans hsame
  · exact hsame

theorem finish_holders (p : Part) (n : TicketNo) (o : TicketOutcome) :
    (p.finish n o).pool.queue = p.pool.queue.erase n ∧ (p.finish n o).pool.iceSlot = emptied n p.pool.iceSlot ∧
      (p.finish n o).pool.serviceSlot = emptied n p.pool.serviceSlot := by
  unfold Part.finish
  split
  · obtain ⟨-, -, -, -, -, -, hqueue, hice, -, hservice⟩ := retireUpTo_pool 4 (p.toCompletion n o)
    exact ⟨hqueue, hice, hservice⟩
  · exact ⟨rfl, rfl, rfl⟩

/-- The end of the test in the service slot, whatever it is: the queue loses no other ticket, no other record changes that
auto-retire cannot take, and the stock stays. -/
theorem endServiceTest_spec (p : Part) (n : TicketNo) (o : TicketOutcome) (hs : p.pool.serviceSlot = some n) :
    let q := p.endServiceTest o
    q.pool.queue = p.pool.queue.erase n ∧ q.pool.iceSlot = emptied n p.pool.iceSlot ∧ q.pool.serviceSlot = none ∧
      q.ice.stock = p.ice.stock ∧
      (∀ m : TicketNo, m ≠ n → (m ∉ p.pool.completion ∨ (p.ticket m).origin = some .link) → q.ticket m = p.ticket m) ∧
      ((p.ticket n).origin = some .link → (q.ticket n).state = .done ∧ (q.ticket n).progress.outcome = some o) := by
  have hempty : emptied n p.pool.serviceSlot = none := by rw [hs, emptied, if_pos rfl]
  cases ht : (p.ticket n).testHeater with
  | some h =>
    rw [endServiceTest_heater p n h o hs ht]
    obtain ⟨hqueue, hice, hservice⟩ := finish_holders (p.dropTest h) n o
    obtain ⟨-, -, -, hstock, -⟩ := finish_frame n o (p.dropTest h)
    refine ⟨hqueue, hice, hservice.trans hempty, congrArg IceMaker.stock hstock,
      fun m hm hk => ticket_finish_other (p.dropTest h) n m o hm hk, fun hl => ?_⟩
    rw [ticket_finish_link (p.dropTest h) n n o hl, if_pos rfl]
    exact ⟨rfl, rfl⟩
  | none =>
    rw [endServiceTest_ejector p n o hs ht, abandonEjectorTest_eq]
    let r : Part :=
      { p.updateTicket n (Ticket.measure p.testSeconds) with ice := { p.ice.stopEjector with testFrom := none } }
    have hother (m : TicketNo) (hm : m ≠ n) : r.ticket m = p.ticket m :=
      (ticket_updateTicket p n m _).trans (if_neg hm)
    obtain ⟨hqueue, hice, hservice⟩ := finish_holders r n o
    have hstock : (p.endEjectorTest n o).ice.stock = p.ice.stock := by rw [endEjectorTest_ice]; rfl
    refine ⟨hqueue, hice, hservice.trans hempty, hstock,
      fun m hm hk => (ticket_finish_other r n m o hm (by rwa [hother m hm])).trans (hother m hm), fun hl => ?_⟩
    obtain ⟨-, hticket, -⟩ := endEjectorTest_link p n o hl
    change ((p.endEjectorTest n o).ticket n).state = _ ∧ ((p.endEjectorTest n o).ticket n).progress.outcome = _
    rw [hticket]
    exact ⟨rfl, rfl⟩

end Sys2Proof.Machine

namespace Sys2Proof.Machine

/-! CANCEL (R21). -/

/-- The refusals of CANCEL, in order. -/
theorem cancelRefusal_eq (p : Part) (n : TicketNo) :
    p.cancelRefusal n =
      if (p.ticket n).state = .free ∨ (p.ticket n).state = .done then some .notFound
      else if (p.ticket n).origin = some .iceMaker ∨ (p.ticket n).origin = some .defrost then some .state
      else if (p.ticket n).state = .stopping then some .state else none := rfl

/-- What CANCEL makes of a ticket that it is not refused for. -/
def Part.cancelled (p : Part) (n : TicketNo) : Part :=
  if p.queued n then p.cancelQueued n .cancelled else p.endServiceTest .cancelled

theorem takeCancel_range (p : Part) (b : Byte) (h : 23 < b.toNat) : p.takeCancel [b] = refuse .range p := by
  have hlt : ¬b.toNat < 24 := by omega
  simp only [Part.takeCancel, dif_neg hlt]

theorem takeCancel_refused (p : Part) (b : Byte) (n : TicketNo) (st : Status) (hn : b.toNat = n.val)
    (h : p.cancelRefusal n = some st) : p.takeCancel [b] = refuse st p := by
  have hlt : b.toNat < 24 := hn ▸ n.isLt
  have hfin : (⟨b.toNat, hlt⟩ : TicketNo) = n := Fin.ext hn
  simp only [Part.takeCancel, dif_pos hlt, hfin, h]

theorem takeCancel_accepted (p : Part) (b : Byte) (n : TicketNo) (hn : b.toNat = n.val)
    (h : p.cancelRefusal n = none) : p.takeCancel [b] = accept (p.cancelled n).settle := by
  have hlt : b.toNat < 24 := hn ▸ n.isLt
  have hfin : (⟨b.toNat, hlt⟩ : TicketNo) = n := Fin.ext hn
  simp only [Part.takeCancel, dif_pos hlt, hfin, h]
  rfl

theorem cancelled_inbox (p : Part) (n : TicketNo) : (p.cancelled n).settle.link.inbox = p.link.inbox := by
  obtain ⟨-, -, -, -, -, -, hsettle, -⟩ := settle_frame (p.cancelled n)
  rw [hsettle, Part.cancelled]
  split
  · obtain ⟨⟨-, -, -, -, -, -, hinbox, -⟩, -⟩ := cancelQueued_frame n .cancelled p
    exact hinbox
  · obtain ⟨⟨-, -, -, -, -, -, hinbox, -⟩, -⟩ := endServiceTest_frame .cancelled p
    exact hinbox

theorem cancelled_of_queued (p : Part) (n : TicketNo) (h : n ∈ p.pool.queue) :
    p.cancelled n = p.cancelQueued n .cancelled := if_pos (List.contains_iff_mem.2 h)

theorem cancelled_of_not_queued (p : Part) (n : TicketNo) (h : n ∉ p.pool.queue) :
    p.cancelled n = p.endServiceTest .cancelled := if_neg fun hc => h (List.contains_iff_mem.1 hc)

theorem cancelQueued_waiting (p : Part) (n : TicketNo) (o : TicketOutcome)
    (h : p.pool.queue.head? ≠ some n ∨ p.outlet.state = .idle) : p.cancelQueued n o = p.finish n o :=
  if_neg fun ⟨hh, hs⟩ => h.elim (fun h' => h' hh) hs

theorem cancelQueued_head (p : Part) (n : TicketNo) (o : TicketOutcome) (hh : p.pool.queue.head? = some n)
    (hs : p.outlet.state ≠ .idle) : p.cancelQueued n o = p.stopHead o := if_pos ⟨hh, hs⟩

/-- A queued ticket that CANCEL or the silence timer ends at once: in LINE_WAIT the head's claim is withdrawn first (R140). -/
theorem lineWait_of_head (p : Part) (n : TicketNo) (o : TicketOutcome) (hh : p.pool.queue.head? = some n)
    (hs : p.outlet.state = .lineWait) (hk : p.keepsRecord n) :
    let q := p.stopHead o
    q.ticket n = ((p.ticket n).noted p.outlet).finished p.clock.partSeconds o ∧
      (∀ m : TicketNo, m ≠ n → q.ticket m = p.ticket m) ∧ q.pool.queue = p.pool.queue.erase n ∧
      q.pool.completion = p.pool.completion ++ [n] ∧ q.pool.iceSlot = emptied n p.pool.iceSlot ∧
      q.pool.serviceSlot = emptied n p.pool.serviceSlot ∧ q.line = { p.line with dispenseClaim := none } ∧
      q.outlet.state = .idle ∧ q.ice = p.ice := by
  let r : Part := { p with line.dispenseClaim := none }
  have hticket (m : TicketNo) := ticket_finishUnstarted r n m o hh hk
  rw [stopHead_lineWait p n o hs]
  refine ⟨(hticket n).trans (if_pos rfl), fun m hm => (hticket m).trans (if_neg hm), ?_⟩
  rw [finishUnstarted_of_head r n o hh hk]
  exact ⟨rfl, rfl, rfl, rfl, rfl, rfl, rfl⟩

/-- The home switch as it stands, a change that is due counting, is the level that has stood for its time, or else the
state (R41, R118). -/
theorem homeSettled_eq (p : Part) :
    p.homeSettled =
      if p.sense.homePin.level.isSome ∧ p.sense.homePin.since + 10000 ≤ p.clock.now then p.sense.homePin.level
      else p.sense.home := by
  unfold Part.homeSettled
  cases hl : p.sense.homePin.level with
  | none =>
    have hdue : p.sense.homePin.due p.clock.now switchTime p.sense.home = none := by
      rw [due_eq_none, Pin.quiet, hl]
      exact fun v hv => absurd hv (Option.not_mem_none v)
    rw [hdue, if_neg (by simp)]
    rfl
  | some v =>
    by_cases hs : p.sense.homePin.since + 10000 ≤ p.clock.now
    · rw [if_pos ⟨rfl, hs⟩]
      by_cases hv : p.sense.home = some v
      · have hdue : p.sense.homePin.due p.clock.now switchTime p.sense.home = none := by
          rw [due_eq_none, Pin.quiet, hl]
          intro w hw hne
          cases hw
          exact absurd hv hne
        rw [hdue, hv]
        rfl
      · have hdue : p.sense.homePin.due p.clock.now switchTime p.sense.home = some v :=
          (due_eq_some ..).2 ⟨hl, hv, hs⟩
        rw [hdue]
        rfl
    · have hdue : p.sense.homePin.due p.clock.now switchTime p.sense.home = none := by
        rw [due_eq_none]
        exact fun w _ _ => Nat.not_le.1 hs
      rw [hdue, if_neg fun h => hs h.2]
      rfl

/-! The home switch, and an ejector test in PARKED (R105, R117). -/

/-- The Sense Unit once the home switch has stood at a level for its debounce time. -/
def Sense.homeAt (c : Contact) (s : Sense) : Sense := { s with home := some c, homePin.level := some c }

theorem homeBecomes_change (c : Contact) (p : Part) (h : p.sense.home.isSome = true) :
    p.homeBecomes c = Part.homeChanged c { p with sense.home := some c } := by
  have hne : p.sense.home ≠ none := by
    rintro hn
    rw [hn] at h
    cases h
  exact if_neg hne

theorem tellHome_same (c : Contact) (p : Part) (h : p.sense.homePin.level = some c) : p.tellHome c = p := by
  rw [Part.tellHome, tell_same _ _ _ h]

/-- R41: a read home switch whose pin has stood at the other level for 10 ms changes, whether a row or the pin's own time
brings the change (log 9). -/
theorem homeSwitch_judged (c : Contact) (p : Part) (hread : p.sense.home.isSome = true) (hne : p.sense.home ≠ some c)
    (hst : p.sense.homePin.stood p.clock.now switchTime c) :
    p.homeSwitch c = Part.homeChanged c { p with sense := p.sense.homeAt c } := by
  rcases hst.1 with hl | hl
  · have hquiet : p.sense.homePin.quiet p.clock.now switchTime p.sense.home := by
      intro v hv
      rw [hl] at hv
      cases hv
    have hheld : (p.tellHome c).homeHeld c = true := (held_tell _ _ _ _ (by decide)).2 hst
    have hpin : p.sense.homePin.tell p.clock.now c = { p.sense.homePin with level := some c } :=
      (tell_eq_told _ _ _).trans (told_of_stood _ _ _ _ hst)
    rw [Part.homeSwitch, homeTold_quiet c p hquiet]
    refine (if_pos ⟨hread, hne, hheld⟩).trans ?_
    rw [homeBecomes_change c (p.tellHome c) hread, Part.tellHome, hpin]
    rfl
  · have hearned : p.sense.homePin.earned p.clock.now switchTime p.sense.home c := ⟨hl, hne, hst.2⟩
    have hsense : (p.homeBecomes c).sense = { p.sense with home := some c } := (homeBecomes_frame c p).2.2
    have hpin : (p.homeBecomes c).sense.homePin.level = some c := by rw [hsense, ← hl]
    have hsame : p.sense.homeAt c = { p.sense with home := some c } := by rw [Sense.homeAt, ← hl]
    rw [Part.homeSwitch, homeTold_earned c c p hearned, tellHome_same c _ hpin]
    refine (if_neg fun h => ?_).trans ?_
    · exact h.2.1 (by rw [hsense])
    · rw [homeBecomes_change c p hread, hsame]

end Sys2Proof.Machine

namespace Sys2Proof.Machine

/-! The ejector test, and CANCEL (R21, R117, R118). -/

theorem ejectorTest_of_service (p : Part) (n : TicketNo) (hs : p.pool.serviceSlot = some n)
    (hl : (p.ticket n).request.load = some .ejector) : p.ejectorTest = some n := by
  simp only [Part.ejectorTest, hs, hl, if_true]

/-- What the end of a LINK ejector test leaves: its record, the released ejector, and the mold as it was (R117). -/
def Part.EndsTest (q p : Part) (n : TicketNo) (o : TicketOutcome) (start : Nat) : Prop :=
  q.pool.serviceSlot = none ∧ (q.ticket n).state = .done ∧ (q.ticket n).progress.outcome = some o ∧
    (q.ticket n).progress.measured = min ((p.clock.now - start) / 1000000) 65535 ∧ q.ice.ejector = false ∧
    q.ice.returnDeadline = none ∧ q.ice.leaveDeadline = none ∧ q.ice.stock = p.ice.stock ∧
    q.ice.moldLoaded = p.ice.moldLoaded ∧ q.ice.freezeStart = p.ice.freezeStart

theorem endEjectorTest_ends (p : Part) (n : TicketNo) (o : TicketOutcome) (start : Nat)
    (hs : p.pool.serviceSlot = some n) (hl : (p.ticket n).origin = some .link) (ht : p.ice.testFrom = some start) :
    (p.endEjectorTest n o).EndsTest p n o start := by
  obtain ⟨hice, hticket, -, -, hservice⟩ := endEjectorTest_link p n o hl
  have hempty : emptied n p.pool.serviceSlot = none := by rw [hs, emptied, if_pos rfl]
  have hseconds : p.testSeconds = (p.clock.now - start) / 1000000 := by rw [Part.testSeconds, ht]; rfl
  rw [Part.EndsTest, hticket, hice, hservice, hempty]
  exact ⟨rfl, rfl, rfl, congrArg (min · 65535) hseconds, rfl, rfl, rfl, rfl, rfl, rfl⟩

/-- A test that fails ends STALL, and the ice maker enters FAULT (R117). -/
theorem attemptFails_test (p : Part) (n : TicketNo) (hp : p.ice.state = .parked) (ht : p.ejectorTest = some n) :
    p.attemptFails = (p.endEjectorTest n .stall).enterIceFault := by
  simp only [Part.attemptFails, hp, ht]

/-- A test that succeeds ends COMPLETE, and the off-home flag is clear (R117). -/
theorem attemptSucceeds_test (p : Part) (n : TicketNo) (hp : p.ice.state = .parked) (ht : p.ejectorTest = some n) :
    p.attemptSucceeds = { p.endEjectorTest n .complete with ice.offHome := false } := by
  simp only [Part.attemptSucceeds, hp, ht]

theorem homeChanged_leaves (p : Part) (hp : p.ice.state = .parked) (hr : p.ice.returnDeadline.isSome = true) :
    p.homeChanged .released = { p with ice.leftHome := true, ice.leaveDeadline := none } := by
  simp only [Part.homeChanged, hp, hr, if_true]

theorem homeChanged_returns (p : Part) (hp : p.ice.state = .parked) (hr : p.ice.returnDeadline.isSome = true)
    (hl : p.ice.leftHome = true) : p.homeChanged .made = p.attemptSucceeds := by
  simp only [Part.homeChanged, hp, hr, hl, Bool.and_self, if_true]

theorem isPending_enterIceFault (p : Part) : p.enterIceFault.isPending .iceFault = true := by
  have h (q : Part) : ((q.notify .iceFault).setIceState .fault).isPending .iceFault =
      (q.notify .iceFault).isPending .iceFault := rfl
  rw [Part.enterIceFault, h, isPending_notify]
  rfl

theorem attemptSucceeds_ice (p : Part) (n : TicketNo) (hp : p.ice.state = .parked) (ht : p.ejectorTest = some n) :
    p.attemptSucceeds.pool = (p.endEjectorTest n .complete).pool ∧
      p.attemptSucceeds.ice = { p.ice.stopEjector with testFrom := none, offHome := false } := by
  rw [attemptSucceeds_test p n hp ht]
  refine ⟨rfl, ?_⟩
  dsimp only
  rw [endEjectorTest_ice]

/-- An abandoned ejector test leaves the ice maker as an ended one does, but for the off-home flag (R118). -/
theorem abandonEjectorTest_ice (p : Part) (n : TicketNo) (o : TicketOutcome) :
    (p.abandonEjectorTest n o).pool = (p.endEjectorTest n o).pool ∧
      (p.abandonEjectorTest n o).ice =
        { p.ice.stopEjector with
          testFrom := none
          offHome := if p.homeSettled = some .released then true else p.ice.offHome } := by
  rw [abandonEjectorTest_eq]
  refine ⟨rfl, ?_⟩
  dsimp only
  rw [endEjectorTest_ice]

/-- A test's deadline that passes is its failure (R117). -/
theorem test_deadline (p : Part) (n : TicketNo) (start : Nat) (hp : p.ice.state = .parked)
    (hs : p.pool.serviceSlot = some n) (hload : (p.ticket n).request.load = some .ejector)
    (hl : (p.ticket n).origin = some .link) (ht : p.ice.testFrom = some start) :
    let q := p.attemptFails
    (q.EndsTest p n .stall start ∧ q.ice.attempts = 0) ∧ q.ice.state = .fault ∧ q.defrost.iceCopy = .fault ∧
      q.isPending .iceFault = true := by
  intro q
  have hq : q = (p.endEjectorTest n .stall).enterIceFault :=
    attemptFails_test p n hp (ejectorTest_of_service p n hs hload)
  obtain ⟨hslot, hdone, houtcome, hmeasured, -, -, -, hstock, hmold, hfreeze⟩ :=
    endEjectorTest_ends p n .stall start hs hl ht
  rw [hq]
  exact ⟨⟨⟨hslot, hdone, houtcome, hmeasured, rfl, rfl, rfl, hstock, hmold, hfreeze⟩, rfl⟩, rfl, rfl,
    isPending_enterIceFault _⟩

/-- The cases of a CANCEL that is not refused: a ticket that ends at once, a head at work, and the test in the service slot. -/
theorem cancelled_spec (q : Part) (n : TicketNo) :
    let u := q.cancelled n
    let t := q.ticket n
    (q.keepsRecord n → n ∈ q.pool.queue → (q.pool.queue.head? ≠ some n ∨ q.outlet.state = .idle) →
      u.pool.queue = q.pool.queue.erase n ∧ u.ticket n = t.finished q.clock.partSeconds .cancelled ∧
        u.pool.completion = q.pool.completion ++ [n]) ∧
    (q.pool.queue.head? = some n → q.outlet.state ≠ .idle → u = q.stopHead .cancelled) ∧
    (n ∉ q.pool.queue → u = q.endServiceTest .cancelled) := by
  refine ⟨fun hk hin hw => ?_, fun hh hs => ?_, fun hin => cancelled_of_not_queued q n hin⟩
  · rw [cancelled_of_queued q n hin, cancelQueued_waiting q n _ hw, finish_kept q n _ hk]
    exact ⟨rfl, ticket_toCompletion_self q n _, rfl⟩
  · rw [cancelled_of_queued q n (List.mem_of_mem_head? hh), cancelQueued_head q n _ hh hs]

/-- Settles O26: the stages of a head are `stopHead_stage`, the service slot `endServiceTest_spec`, and the rows of an ejector
test `homeSwitch_judged` and `test_deadline`. -/
theorem cancelStopsATicket : Obligations.CancelStopsATicket := by
  constructor
  · intro s dt tag b hs i q
    have hin : q.link.inbox = [] := heard_inbox i s dt ⟨0x21, tag, [b]⟩ hs rfl
    have answer (st : Status) (u : Part) (hk : q.takeCancel [b] = (⟨st, []⟩, u)) (hu : u.link.inbox = []) :
        Answers i s st [] u := answers_cancel s dt tag [b] st [] u hs (by simp) hk hu
    refine ⟨fun hb => answer _ _ (takeCancel_range q b hb) hin, ?_⟩
    intro n hn t
    have hrefusal := cancelRefusal_eq q n
    have refused (st : Status) (h : q.cancelRefusal n = some st) : Answers i s st [] q :=
      answer _ _ (takeCancel_refused q b n st hn h) hin
    split
    next h => exact refused _ (hrefusal.trans (if_pos h))
    next hstate =>
      rw [if_neg hstate] at hrefusal
      split
      next h => exact refused _ (hrefusal.trans (if_pos h))
      next horigin =>
        rw [if_neg horigin] at hrefusal
        split
        next h => exact refused _ (hrefusal.trans (if_pos h))
        next hstopping =>
          rw [if_neg hstopping] at hrefusal
          intro kept water chute auger ice runs ended stops closes stands
          obtain ⟨hwaiting, hhead, hservice⟩ := cancelled_spec q n
          refine ⟨q.cancelled n, answer _ _ (takeCancel_accepted q b n hn hrefusal) ((cancelled_inbox q n).trans hin),
            fun hk hm hw => ?_, fun hh => ?_, fun hl hm hslot => ?_⟩
          · obtain ⟨hqueue, hticket, hcompletion⟩ := hwaiting hk hm hw
            refine ⟨hqueue, ?_, ?_, hcompletion, ?_⟩
            all_goals rw [hticket]; rfl
          · have hrunning (h : runs) : q.outlet.state ≠ .idle ∧ q.outlet.state ≠ .lineWait := by
              rcases h with h | h <;> rw [h] <;> decide
            obtain ⟨hopening, hwater, hrun, hchute⟩ := stopHead_stage q n .cancelled hh
            have stopped (hi : q.outlet.state ≠ .idle) (hl : q.outlet.state ≠ .lineWait)
                (h : (q.stopHead .cancelled).StopsHead q n .cancelled) : stops (q.cancelled n) := by
              rw [hhead hh hi]
              obtain ⟨hst, -, hending, hpause⟩ := h
              obtain ⟨hqueue, hcompletion, -⟩ := stopHead_touches q n .cancelled hh hl
              exact ⟨hst, hending, hpause, hqueue, hcompletion⟩
            refine ⟨fun hst hk => ?_, fun hst => ?_, fun hr hw hl ho => ?_, fun hr hk => ?_, fun hr hk => ?_⟩
            · obtain ⟨hticket, -, hqueue, hcompletion, -, -, hline, hidle, -⟩ :=
                lineWait_of_head q n .cancelled hh hst hk
              rw [hhead hh (by rw [hst]; decide)]
              refine ⟨⟨?_, ?_, hcompletion, ?_⟩, hline, hidle, ?_⟩
              · rw [hticket]; rfl
              · rw [hticket]; rfl
              · rw [hticket]; rfl
              · rw [hqueue]
                cases hc : q.pool.queue with
                | nil => rfl
                | cons m rest =>
                  rw [hc] at hh
                  cases hh
                  exact List.erase_cons_head n rest
            · have hi : q.outlet.state ≠ .idle := by rw [hst]; decide
              obtain ⟨hstops, hcloses⟩ := hopening hst
              refine ⟨stopped hi (by rw [hst]; decide) hstops, ?_⟩
              rw [hhead hh hi]
              exact hcloses
            · obtain ⟨hi, hnl⟩ := hrunning hr
              obtain ⟨hstops, hrest⟩ := hwater hr hw hl ho
              refine ⟨stopped hi hnl hstops, ?_⟩
              rw [hhead hh hi]
              exact hrest
            · obtain ⟨hi, hnl⟩ := hrunning hr
              obtain ⟨hstops, hrest⟩ := hrun hr hk
              refine ⟨stopped hi hnl hstops, ?_⟩
              rw [hhead hh hi]
              exact hrest
            · obtain ⟨hi, hnl⟩ := hrunning hr
              obtain ⟨hstops, hcloses, hmeasured⟩ := hchute hr hk
              refine ⟨stopped hi hnl hstops, ?_⟩
              rw [hhead hh hi]
              exact ⟨hcloses, hmeasured⟩
          · rw [hservice hm]
            obtain ⟨-, -, hempty, -, -, hdone⟩ := endServiceTest_spec q n .cancelled hslot
            obtain ⟨hst, houtcome⟩ := hdone hl
            refine ⟨hempty, hst, houtcome, fun h hkind hload => ?_, fun hload => ?_⟩
            · rw [endServiceTest_heater q n h _ hslot ((testHeater_iff t h).2 ⟨hkind, hload⟩)]
              obtain ⟨-, -, hloads, -⟩ := finish_frame n .cancelled (q.dropTest h)
              rw [hloads]
              change (q.loads.update h Heater.dropTest).heaters[h].testDemand = false
              rw [heaters_update, if_pos rfl]
              exact (dropTest_spec _).1
            · have hno : t.testHeater = none := by
                rw [Option.eq_none_iff_forall_ne_some]
                intro h hh
                have hheater := ((testHeater_iff t h).1 hh).2
                rw [hload] at hheater
                cases hheater
              obtain ⟨hpool, hice⟩ := abandonEjectorTest_ice q n .cancelled
              rw [homeSettled_eq q] at hice
              rw [endServiceTest_ejector q n _ hslot hno, hice]
              refine ⟨rfl, rfl, rfl, rfl, fun start hstart => ?_⟩
              obtain ⟨-, -, -, hmeasured, -⟩ := endEjectorTest_ends q n .cancelled start hslot hl hstart
              rw [Part.ticket, hpool]
              exact hmeasured
  · intro s dt start n hr hparked p t hslot hload hl hstart ended
    have htest : p.ejectorTest = some n := ejectorTest_of_service p n hslot hload
    have becomes (c : Contact) (hread : p.sense.home.isSome = true) (hne : p.sense.home ≠ some c)
        (hst : p.sense.homePin.stood p.clock.now 10000 c) :
        Becomes (.homeSwitchChange dt c) s (Part.homeChanged c { p with sense := p.sense.homeAt c }).settle := by
      rw [Becomes, exec, execHomeSwitchChange, take_next s dt _ hr, homeSwitch_judged c _ hread hne hst]
    refine ⟨fun hreturn hhome hst => ?_, fun hreturn hleft hattempts hhome hst => ?_, fun i e he hi => ?_⟩
    · refine ⟨_, becomes .released (by rw [hhome]; rfl) (by rw [hhome]; decide) hst, ?_⟩
      rw [homeChanged_leaves { p with sense := p.sense.homeAt .released } hparked hreturn]
      exact ⟨rfl, rfl, hparked, rfl, rfl⟩
    · refine ⟨_, becomes .made (by rw [hhome]; rfl) (by rw [hhome]; decide) hst, ?_⟩
      let r : Part := { p with sense := p.sense.homeAt .made }
      obtain ⟨hpool, hice⟩ := attemptSucceeds_ice r n hparked htest
      obtain ⟨hempty, hdone, houtcome, hmeasured, -⟩ := endEjectorTest_ends r n .complete start hslot hl hstart
      have hended : ended .complete r.attemptSucceeds := by
        simp only [ended, Part.ticket, hpool, hice]
        exact ⟨hempty, hdone, houtcome, hmeasured, rfl, rfl, rfl, rfl, rfl, rfl, hattempts⟩
      rw [homeChanged_returns r hparked hreturn hleft]
      exact ⟨hended, by rw [hice], by rw [hice]; exact hparked⟩
    · obtain ⟨⟨⟨hempty, hdone, houtcome, hmeasured, hice⟩, hattempts⟩, hrest⟩ :=
        test_deadline p n start hparked hslot hload hl hstart
      obtain ⟨hejector, hreturn, hleave, hstock, hmold, hfreeze⟩ := hice
      refine ⟨p.attemptFails, ?_, ⟨hempty, hdone, houtcome, hmeasured, hejector, hreturn, hleave, hstock, hmold, hfreeze,
        hattempts⟩, hrest⟩
      rcases hi with ⟨rfl, hd⟩ | ⟨rfl, hd⟩
      · have hdue : (s.later dt).dueLeaveHome = true := by
          rw [Part.dueLeaveHome, hd]
          exact decide_eq_true he
        rw [Becomes, exec, execLeaveHomeDeadline, take_next s dt _ hr, onDue_due _ _ _ hdue]
      · have hdue : (s.later dt).dueReturn = true := by
          rw [Part.dueReturn, hd]
          exact decide_eq_true he
        rw [Becomes, exec, execEjectReturnDeadline, take_next s dt _ hr, onDue_due _ _ _ hdue]

end Sys2Proof.Machine

namespace Sys2Proof.Machine

/-! A pending notice stays pending while tickets end (R12, R14, R198). -/

theorem isPending_toCompletion (p : Part) (n : TicketNo) (o : TicketOutcome) (k : Notice) :
    (p.toCompletion n o).isPending k = (decide (k = .completion) || p.isPending k) :=
  isPending_notify .completion k _

theorem pending_toCompletion (p : Part) (n : TicketNo) (o : TicketOutcome) (k : Notice) (h : p.isPending k = true) :
    (p.toCompletion n o).isPending k = true := by
  rw [isPending_toCompletion, h, Bool.or_true]

theorem pending_retireUpTo (j : Nat) (p : Part) (k : Notice) (h : p.isPending k = true) :
    (p.retireUpTo j).isPending k = true := by
  induction j generalizing p with
  | zero => exact h
  | succ j ih =>
    unfold Part.retireUpTo
    split
    · split
      next => exact h
      next n _ => exact ih _ (by rw [isPending_retire, h, Bool.or_true])
    · exact h

theorem pending_finish (p : Part) (n : TicketNo) (o : TicketOutcome) (k : Notice) (h : p.isPending k = true) :
    (p.finish n o).isPending k = true := by
  have hk := pending_toCompletion p n o k h
  unfold Part.finish
  split
  · exact pending_retireUpTo 4 _ k hk
  · exact hk

theorem pending_endServiceTest (p : Part) (o : TicketOutcome) (k : Notice) (h : p.isPending k = true) :
    (p.endServiceTest o).isPending k = true := by
  cases hs : p.pool.serviceSlot with
  | none =>
    rw [endServiceTest_none p o hs]
    exact h
  | some n =>
    cases ht : (p.ticket n).testHeater with
    | some x =>
      rw [endServiceTest_heater p n x o hs ht]
      exact pending_finish (p.dropTest x) n o k h
    | none =>
      rw [endServiceTest_ejector p n o hs ht, abandonEjectorTest_eq]
      let r : Part :=
        { p.updateTicket n (Ticket.measure p.testSeconds) with ice := { p.ice.stopEjector with testFrom := none } }
      exact pending_finish r n o k h

/-! One ticket of the queue at an expiry of the silence timer (R141). -/

/-- The silence timer ends this ticket's work: it is a LINK ticket that is not stopping already. -/
abbrev Part.losesTicket (p : Part) (n : TicketNo) : Prop :=
  (p.ticket n).origin = some .link ∧ (p.ticket n).state ≠ .stopping

theorem loseLink_spared (p : Part) (n : TicketNo) (h : ¬p.losesTicket n) : p.loseLink n = p := if_neg h

theorem loseLink_waiting (p : Part) (n : TicketNo) (h : p.losesTicket n)
    (hw : p.pool.queue.head? ≠ some n ∨ p.outlet.state = .idle) : p.loseLink n = p.toCompletion n .linkLost :=
  (if_pos h).trans ((cancelQueued_waiting p n _ hw).trans (finish_link p n _ h.1))

theorem loseLink_head (p : Part) (n : TicketNo) (h : p.losesTicket n) (hh : p.pool.queue.head? = some n)
    (hs : p.outlet.state ≠ .idle) : p.loseLink n = p.stopHead .linkLost :=
  (if_pos h).trans (cancelQueued_head p n _ hh hs)

/-- What the loss of a list of queued tickets keeps: the origins, the slots of the other tickets, the records of the other
tickets outside the ice maker slot, and every pending notice. -/
def Part.LosesFrom (q p : Part) (l : List TicketNo) : Prop :=
  (∀ m : TicketNo, (q.ticket m).origin = (p.ticket m).origin) ∧
    (∀ m : TicketNo, p.pool.iceSlot ≠ some m → q.pool.iceSlot ≠ some m) ∧
    ((∀ m ∈ l, p.pool.serviceSlot ≠ some m) → q.pool.serviceSlot = p.pool.serviceSlot) ∧
    (∀ m ∉ l, p.pool.iceSlot ≠ some m → q.ticket m = p.ticket m) ∧
    (∀ k : Notice, p.isPending k = true → q.isPending k = true)

theorem Part.LosesFrom.refl (p : Part) (l : List TicketNo) : p.LosesFrom p l :=
  ⟨fun _ => rfl, fun _ => id, fun _ => rfl, fun _ _ _ => rfl, fun _ => id⟩

theorem Part.LosesFrom.cons {p q r : Part} {n : TicketNo} {l : List TicketNo} (h : r.LosesFrom q l)
    (g : q.LosesFrom p [n]) : r.LosesFrom p (n :: l) := by
  obtain ⟨horigin, hice, hservice, hticket, hpending⟩ := h
  obtain ⟨gorigin, gice, gservice, gticket, gpending⟩ := g
  refine ⟨fun m => (horigin m).trans (gorigin m), fun m hm => hice m (gice m hm), fun hm => ?_, fun m hm hi => ?_,
    fun k hk => hpending k (gpending k hk)⟩
  · have hq := gservice fun m h => hm m (List.mem_singleton.1 h ▸ List.mem_cons_self)
    exact (hservice fun m h => hq ▸ hm m (List.mem_cons_of_mem n h)).trans hq
  · rw [List.mem_cons, not_or] at hm
    exact (hticket m hm.2 (gice m hi)).trans (gticket m (fun h => hm.1 (List.mem_singleton.1 h)) hi)

theorem emptied_other (n m : TicketNo) (slot : Option TicketNo) (h : slot ≠ some m) : emptied n slot ≠ some m := by
  unfold emptied
  split
  · exact fun h => nomatch h
  · exact h

theorem emptied_of_ne (n : TicketNo) (slot : Option TicketNo) (h : slot ≠ some n) : emptied n slot = slot := if_neg h

theorem toCompletion_losesFrom (p : Part) (n : TicketNo) (o : TicketOutcome) :
    (p.toCompletion n o).LosesFrom p [n] := by
  refine ⟨fun m => ?_, fun m => emptied_other n m _, fun h => emptied_of_ne n _ (h n List.mem_cons_self),
    fun m hm _ => ?_, pending_toCompletion p n o⟩
  · rw [ticket_toCompletion]
    split
    next h => rw [h]; rfl
    next => rfl
  · rw [ticket_toCompletion, if_neg fun h => hm (List.mem_singleton.2 h)]

theorem touchesHead_losesFrom {q p : Part} {n : TicketNo} (h : q.TouchesHead p n) : q.LosesFrom p [n] := by
  obtain ⟨-, -, -, hice, -, hservice, hothers, horigin, hlink⟩ := h
  refine ⟨horigin, fun m hm => hice ▸ hm, fun _ => hservice, fun m hm => hothers m fun h => hm (List.mem_singleton.2 h),
    fun k hk => ?_⟩
  rw [Part.isPending, hlink]
  exact hk

/-- The loss of a LINK head in LINE_WAIT, as the end of a ticket's work (R140). -/
theorem stopHead_lineWait_eq (p : Part) (n : TicketNo) (hh : p.pool.queue.head? = some n)
    (hs : p.outlet.state = .lineWait) (hk : p.keepsRecord n) :
    p.stopHead .linkLost =
      ((Part.updateTicket n (Ticket.noted p.outlet) { p with line.dispenseClaim := none }).toCompletion n
        .linkLost).idleOutlet := by
  rw [stopHead_lineWait p n _ hs]
  exact finishUnstarted_of_head { p with line.dispenseClaim := none } n _ hh hk

theorem loseLink_losesFrom (p : Part) (n : TicketNo) : (p.loseLink n).LosesFrom p [n] := by
  by_cases h : p.losesTicket n
  · by_cases hh : p.pool.queue.head? = some n
    · by_cases hi : p.outlet.state = .idle
      · rw [loseLink_waiting p n h (.inr hi)]
        exact toCompletion_losesFrom p n _
      · rw [loseLink_head p n h hh hi]
        by_cases hl : p.outlet.state = .lineWait
        · have hk : p.keepsRecord n := .inl h.1
          obtain ⟨hself, hothers, -, -, hice, hservice, -⟩ := lineWait_of_head p n .linkLost hh hl hk
          refine ⟨fun m => ?_, fun m hm => by rw [hice]; exact emptied_other n m _ hm, fun hm => ?_, fun m hm _ =>
            hothers m fun h => hm (List.mem_singleton.2 h), fun k hpend => ?_⟩
          · by_cases hm : m = n
            · rw [hm, hself]; rfl
            · rw [hothers m hm]
          · rw [hservice]
            exact emptied_of_ne n _ (hm n List.mem_cons_self)
          · rw [stopHead_lineWait_eq p n hh hl hk]
            exact pending_toCompletion _ n _ k hpend
        · exact touchesHead_losesFrom (stopHead_touches p n _ hh hl)
    · rw [loseLink_waiting p n h (.inl hh)]
      exact toCompletion_losesFrom p n _
  · rw [loseLink_spared p n h]
    exact .refl p _

theorem foldl_loseLink_losesFrom (l : List TicketNo) (p : Part) : (l.foldl Part.loseLink p).LosesFrom p l := by
  induction l generalizing p with
  | nil => exact .refl p _
  | cons n l ih => exact (ih (p.loseLink n)).cons (loseLink_losesFrom p n)

theorem loseQueue_losesFrom (p : Part) : p.loseQueue.LosesFrom p p.pool.queue := foldl_loseLink_losesFrom _ p

end Sys2Proof.Machine

namespace Sys2Proof.Machine

/-! A waiting ticket at an expiry of the silence timer, and the test in the service slot (R12, R141). -/

/-- The outlet is with this ticket, or with none. -/
def Part.outletWith (p : Part) (n : TicketNo) : Prop := p.outlet.state = .idle ∨ p.pool.queue.head? = some n

theorem head?_erase_of_ne (l : List TicketNo) (n m : TicketNo) (hh : l.head? = some n) (hm : m ≠ n) :
    (l.erase m).head? = some n := by
  cases l with
  | nil => cases hh
  | cons x rest =>
    cases hh
    rw [List.erase_cons_tail (by simpa using hm.symm)]
    rfl

/-- The outlet goes to no other ticket in a loss. -/
theorem loseLink_outletWith (p : Part) (n m : TicketNo) (h : p.outletWith n) : (p.loseLink m).outletWith n := by
  by_cases hl : p.losesTicket m
  · by_cases hi : p.outlet.state = .idle
    · rw [loseLink_waiting p m hl (.inr hi)]
      exact .inl hi
    · have hh : p.pool.queue.head? = some n := h.resolve_left hi
      by_cases hm : m = n
      · subst hm
        rw [loseLink_head p m hl hh hi]
        by_cases hw : p.outlet.state = .lineWait
        · obtain ⟨-, -, -, -, -, -, -, hidle, -⟩ := lineWait_of_head p m .linkLost hh hw (.inl hl.1)
          exact .inl hidle
        · obtain ⟨hqueue, -⟩ := stopHead_touches p m .linkLost hh hw
          exact .inr (hqueue ▸ hh)
      · rw [loseLink_waiting p m hl (.inl fun h => hm (Option.some.inj (h.symm.trans hh)))]
        exact .inr (head?_erase_of_ne _ n m hh hm)
  · rwa [loseLink_spared p m hl]

/-- A ticket lost to the silence timer (R12, R141). -/
def Ticket.isLost (t : Ticket) : Prop := t.state = .done ∧ t.progress.outcome = some .linkLost

/-- A ticket that the outlet is not with is lost at once. -/
theorem loseLink_outletWith_other (p : Part) (n m : TicketNo) (h : p.outletWith n) (hm : m ≠ n) (hl : p.losesTicket m) :
    p.loseLink m = p.toCompletion m .linkLost := by
  refine loseLink_waiting p m hl (h.symm.imp (fun hh hm' => ?_) id)
  exact hm (Option.some.inj (hm'.symm.trans hh))

/-- In the loss of a list a LINK ticket that the outlet is not with is lost, if it is in the list and not lost already. -/
theorem foldl_loseLink_lost (l : List TicketNo) (p : Part) (n m : TicketNo) (h : p.outletWith n) (hm : m ≠ n)
    (hice : p.pool.iceSlot ≠ some m) (hl : (p.ticket m).origin = some .link)
    (hs : (p.ticket m).isLost ∨ m ∈ l ∧ (p.ticket m).state ≠ .stopping) :
    ((l.foldl Part.loseLink p).ticket m).isLost := by
  induction l generalizing p with
  | nil => exact hs.resolve_right fun h => nomatch h.1
  | cons x l ih =>
    obtain ⟨horigin, hicekept, -, hother, -⟩ := loseLink_losesFrom p x
    refine ih (p.loseLink x) (loseLink_outletWith p n x h) (hicekept m hice) ((horigin m).trans hl) ?_
    by_cases hx : m = x
    · subst hx
      have hstate : (p.ticket m).state ≠ .stopping := hs.elim (fun h => by rw [h.1]; decide) (·.2)
      left
      rw [loseLink_outletWith_other p n m h hm ⟨hl, hstate⟩, ticket_toCompletion_self]
      exact ⟨rfl, rfl⟩
    · rw [hother m (fun h => hx (List.mem_singleton.1 h)) hice]
      exact hs.imp_right fun ⟨hin, hstate⟩ => ⟨(List.mem_cons.1 hin).resolve_left hx, hstate⟩

/-- The loss of the dispenser queue ends every LINK ticket behind the head (R141). -/
theorem loseQueue_waiting (p : Part) (m : TicketNo) (hin : m ∈ p.pool.queue) (hh : p.pool.queue.head? ≠ some m)
    (hice : p.pool.iceSlot ≠ some m) (hl : (p.ticket m).origin = some .link) (hs : (p.ticket m).state ≠ .stopping) :
    (p.loseQueue.ticket m).isLost := by
  cases hq : p.pool.queue with
  | nil => rw [hq] at hin; cases hin
  | cons n rest =>
    have hm : m ≠ n := fun h => hh (by rw [hq, h]; rfl)
    exact foldl_loseLink_lost p.pool.queue p n m (.inr (by rw [hq]; rfl)) hm hice hl (.inr ⟨hin, hs⟩)

/-- The two orders in which the LINK work ends (log 12). -/
theorem endLinkWork_cases (p : Part) :
    ∃ q : Part, p.endLinkWork = q.spendFree ∧
      (q = (p.endServiceTest .linkLost).loseQueue ∨ q = p.loseQueue.endServiceTest .linkLost) := by
  unfold Part.endLinkWork
  split
  · exact ⟨_, rfl, .inl rfl⟩
  · exact ⟨_, rfl, .inr rfl⟩

theorem pending_endLinkWork (p : Part) (k : Notice) (h : p.isPending k = true) : p.endLinkWork.isPending k = true := by
  obtain ⟨q, hq, horder⟩ := endLinkWork_cases p
  rw [hq]
  change q.isPending k = true
  rcases horder with rfl | rfl
  · obtain ⟨-, -, -, -, hpending⟩ := loseQueue_losesFrom (p.endServiceTest .linkLost)
    exact hpending k (pending_endServiceTest p _ k h)
  · obtain ⟨-, -, -, -, hpending⟩ := loseQueue_losesFrom p
    exact pending_endServiceTest _ _ k (hpending k h)

/-- What the end of the service-slot test leaves of the other holders' tickets, when none of them is in its slot. -/
theorem endServiceTest_queue (p : Part) (o : TicketOutcome) (h : ∀ m ∈ p.pool.queue, p.pool.serviceSlot ≠ some m) :
    (p.endServiceTest o).pool.queue = p.pool.queue := by
  cases hs : p.pool.serviceSlot with
  | none => rw [endServiceTest_none p o hs]
  | some n =>
    obtain ⟨hqueue, -⟩ := endServiceTest_spec p n o hs
    rw [hqueue, List.erase_of_not_mem fun hn => h n hn hs]

theorem ticket_endServiceTest (p : Part) (m : TicketNo) (o : TicketOutcome) (hm : p.pool.serviceSlot ≠ some m)
    (hk : m ∉ p.pool.completion ∨ (p.ticket m).origin = some .link) : (p.endServiceTest o).ticket m = p.ticket m := by
  cases hs : p.pool.serviceSlot with
  | none => rw [endServiceTest_none p o hs]
  | some n =>
    obtain ⟨-, -, -, -, hothers, -⟩ := endServiceTest_spec p n o hs
    exact hothers m (fun h => hm (by rw [hs, h])) hk

theorem endServiceTest_iceSlot (p : Part) (m : TicketNo) (o : TicketOutcome) (h : p.pool.iceSlot ≠ some m) :
    (p.endServiceTest o).pool.iceSlot ≠ some m := by
  cases hs : p.pool.serviceSlot with
  | none => rwa [endServiceTest_none p o hs]
  | some n =>
    obtain ⟨-, hice, -⟩ := endServiceTest_spec p n o hs
    rw [hice]
    exact emptied_other n m _ h

/-- The end of the LINK work ends every LINK ticket behind the head, in either order. -/
theorem endLinkWork_waiting (p : Part) (m : TicketNo) (hout : ∀ n ∈ p.pool.queue, p.pool.serviceSlot ≠ some n)
    (hin : m ∈ p.pool.queue) (hh : p.pool.queue.head? ≠ some m) (hice : p.pool.iceSlot ≠ some m)
    (hl : (p.ticket m).origin = some .link) (hs : (p.ticket m).state ≠ .stopping) : (p.endLinkWork.ticket m).isLost := by
  obtain ⟨q, hq, horder⟩ := endLinkWork_cases p
  rw [hq]
  change (q.ticket m).isLost
  rcases horder with rfl | rfl
  · have hticket := ticket_endServiceTest p m .linkLost (hout m hin) (.inr hl)
    have hqueue := endServiceTest_queue p .linkLost hout
    exact loseQueue_waiting _ m (hqueue ▸ hin) (hqueue ▸ hh) (endServiceTest_iceSlot p m _ hice) (hticket ▸ hl)
      (hticket ▸ hs)
  · obtain ⟨horigin, -, hservice, -⟩ := loseQueue_losesFrom p
    rw [ticket_endServiceTest _ m _ (hservice hout ▸ hout m hin) (.inr ((horigin m).trans hl))]
    exact loseQueue_waiting p m hin hh hice hl hs

/-- The end of the LINK work ends a LINK test in the service slot, in either order. -/
theorem endLinkWork_service (p : Part) (n : TicketNo) (hout : ∀ m ∈ p.pool.queue, p.pool.serviceSlot ≠ some m)
    (hs : p.pool.serviceSlot = some n) (hl : (p.ticket n).origin = some .link) :
    p.endLinkWork.pool.serviceSlot = none ∧ (p.endLinkWork.ticket n).isLost := by
  obtain ⟨q, hq, horder⟩ := endLinkWork_cases p
  rw [hq]
  change q.pool.serviceSlot = none ∧ (q.ticket n).isLost
  rcases horder with rfl | rfl
  · have hqueue := endServiceTest_queue p .linkLost hout
    obtain ⟨-, hice, hempty, -, -, hdone⟩ := endServiceTest_spec p n .linkLost hs
    obtain ⟨-, -, hservice, hticket, -⟩ := loseQueue_losesFrom (p.endServiceTest .linkLost)
    rw [hticket n (by rw [hqueue]; exact fun h => hout n h hs) (hice ▸ emptied_ne n _)]
    refine ⟨(hservice fun m _ => ?_).trans hempty, hdone hl⟩
    rw [hempty]
    exact fun h => nomatch h
  · obtain ⟨horigin, -, hservice, -⟩ := loseQueue_losesFrom p
    obtain ⟨-, -, hempty, -, -, hdone⟩ := endServiceTest_spec p.loseQueue n .linkLost ((hservice hout).trans hs)
    exact ⟨hempty, hdone ((horigin n).trans hl)⟩

end Sys2Proof.Machine

namespace Sys2Proof.Machine

/-! The dispenser queue at an expiry of the silence timer (R141). -/

/-- What the loss of a list of tickets does to the pool: each is DONE with its start time as it was and goes from the queue to
the completion queue, and the other records stay. -/
def Part.Loses (q p : Part) (l : List TicketNo) : Prop :=
  q.pool.queue = (p.pool.queue.filter fun m => m ∉ l) ∧ q.pool.completion = p.pool.completion ++ l ∧
    (∀ m ∈ l, (q.ticket m).isLost ∧ (q.ticket m).progress.startTime = (p.ticket m).progress.startTime) ∧
    ∀ m ∉ l, q.ticket m = p.ticket m

theorem Part.Loses.nil (p : Part) : p.Loses p [] := by
  refine ⟨?_, (List.append_nil _).symm, fun m hm => absurd hm List.not_mem_nil, fun _ _ => rfl⟩
  simp

theorem Part.Loses.cons {p q r : Part} {n : TicketNo} {l : List TicketNo} (h : r.Loses q l) (g : q.Loses p [n])
    (hn : n ∉ l) : r.Loses p (n :: l) := by
  obtain ⟨hqueue, hcompletion, hlost, hkept⟩ := h
  obtain ⟨gqueue, gcompletion, glost, gkept⟩ := g
  refine ⟨?_, ?_, fun m hm => ?_, fun m hm => ?_⟩
  · rw [hqueue, gqueue, List.filter_filter]
    exact List.filter_congr fun m _ => by by_cases hm : m = n <;> simp [hm]
  · rw [hcompletion, gcompletion]
    exact List.append_assoc ..
  · rcases List.mem_cons.1 hm with rfl | hm
    · rw [hkept m hn]
      exact glost m List.mem_cons_self
    · have hmn : m ∉ [n] := fun h => hn (List.mem_singleton.1 h ▸ hm)
      rw [← gkept m hmn]
      exact hlost m hm
  · rw [List.mem_cons, not_or] at hm
    rw [hkept m hm.2, gkept m fun h => hm.1 (List.mem_singleton.1 h)]

theorem erase_eq_filter_singleton (l : List TicketNo) (n : TicketNo) (hd : l.Nodup) :
    l.erase n = l.filter fun m => m ∉ [n] := by
  rw [hd.erase_eq_filter]
  exact List.filter_congr fun m _ => by by_cases hm : m = n <;> simp [hm]

theorem toCompletion_loses (p : Part) (n : TicketNo) (hd : p.pool.queue.Nodup) :
    (p.toCompletion n .linkLost).Loses p [n] := by
  refine ⟨erase_eq_filter_singleton _ n hd, rfl, fun m hm => ?_, fun m hm => ?_⟩
  · rw [List.mem_singleton.1 hm, ticket_toCompletion_self]
    exact ⟨⟨rfl, rfl⟩, rfl⟩
  · rw [ticket_toCompletion, if_neg fun h => hm (List.mem_singleton.2 h)]

/-- The tickets of a list that the silence timer ends. -/
def Part.lostOf (p : Part) (l : List TicketNo) : List TicketNo :=
  l.filter fun m => (p.ticket m).origin = some .link ∧ (p.ticket m).state ≠ .stopping

theorem mem_lostOf (p : Part) (l : List TicketNo) (m : TicketNo) : m ∈ p.lostOf l ↔ m ∈ l ∧ p.losesTicket m := by
  rw [Part.lostOf, List.mem_filter, decide_eq_true_iff]

theorem lostOf_cons_of_lost (p : Part) (n : TicketNo) (l : List TicketNo) (h : p.losesTicket n) :
    p.lostOf (n :: l) = n :: p.lostOf l := List.filter_cons_of_pos (decide_eq_true h)

theorem lostOf_cons_of_spared (p : Part) (n : TicketNo) (l : List TicketNo) (h : ¬p.losesTicket n) :
    p.lostOf (n :: l) = p.lostOf l := List.filter_cons_of_neg fun hd => h (of_decide_eq_true hd)

theorem lostOf_congr (p q : Part) (l : List TicketNo) (h : ∀ m ∈ l, q.ticket m = p.ticket m) :
    q.lostOf l = p.lostOf l := List.filter_congr fun m hm => by rw [h m hm]

/-- Tickets that the outlet is not with are lost in their order, and the machines stay. -/
theorem foldl_loseLink_waiting (l : List TicketNo) (p : Part) (n : TicketNo) (h : p.outletWith n) (hn : n ∉ l)
    (hl : l.Nodup) (hd : p.pool.queue.Nodup) :
    let q := l.foldl Part.loseLink p
    q.Loses p (p.lostOf l) ∧ q.outlet = p.outlet ∧ q.line = p.line ∧ q.ice = p.ice := by
  induction l generalizing p with
  | nil => exact ⟨.nil p, rfl, rfl, rfl⟩
  | cons x l ih =>
    rw [List.mem_cons, not_or] at hn
    obtain ⟨hx, hl⟩ := List.nodup_cons.1 hl
    rw [List.foldl_cons]
    by_cases hlost : p.losesTicket x
    · have houtlet := loseLink_outletWith p n x h
      rw [loseLink_outletWith_other p n x h (Ne.symm hn.1) hlost] at houtlet ⊢
      have hsame : (p.toCompletion x .linkLost).lostOf l = p.lostOf l := lostOf_congr p _ l fun m hm => by
        have hm' : m ≠ x := fun h => hx (h ▸ hm)
        rw [ticket_toCompletion, if_neg hm']
      obtain ⟨hloses, hmachines⟩ := ih (p.toCompletion x .linkLost) houtlet hn.2 hl (hd.erase x)
      rw [hsame] at hloses
      rw [lostOf_cons_of_lost p x l hlost]
      exact ⟨hloses.cons (toCompletion_loses p x hd) fun hm => hx ((mem_lostOf p l x).1 hm).1, hmachines⟩
    · rw [loseLink_spared p x hlost, lostOf_cons_of_spared p x l hlost]
      exact ih p h hn.2 hl hd

/-- The tickets of a queue with head `n` that are DONE at once: every one that the silence timer ends, the head only where it
is not at work. -/
def Part.lostAtOnce (p : Part) (n : TicketNo) : List TicketNo :=
  p.pool.queue.filter fun m => (p.ticket m).origin = some .link ∧ (p.ticket m).state ≠ .stopping ∧
    (m = n → p.outlet.state = .idle ∨ p.outlet.state = .lineWait)

theorem mem_lostAtOnce (p : Part) (n m : TicketNo) :
    m ∈ p.lostAtOnce n ↔
      m ∈ p.pool.queue ∧ p.losesTicket m ∧ (m = n → p.outlet.state = .idle ∨ p.outlet.state = .lineWait) := by
  rw [Part.lostAtOnce, List.mem_filter, decide_eq_true_iff, Part.losesTicket, and_assoc]

theorem lostAtOnce_filter (p : Part) (n : TicketNo) (rest : List TicketNo) (hn : n ∉ rest) :
    (rest.filter fun m => (p.ticket m).origin = some .link ∧ (p.ticket m).state ≠ .stopping ∧
      (m = n → p.outlet.state = .idle ∨ p.outlet.state = .lineWait)) = p.lostOf rest :=
  List.filter_congr fun m hm => by
    have hm' : m ≠ n := fun h => hn (h ▸ hm)
    simp only [hm', false_implies, and_true]

theorem lostAtOnce_cons_of_lost (p : Part) (n : TicketNo) (rest : List TicketNo) (hq : p.pool.queue = n :: rest)
    (hn : n ∉ rest) (h : p.losesTicket n) (hs : p.outlet.state = .idle ∨ p.outlet.state = .lineWait) :
    p.lostAtOnce n = n :: p.lostOf rest := by
  rw [Part.lostAtOnce, hq, List.filter_cons, if_pos (decide_eq_true ⟨h.1, h.2, fun _ => hs⟩),
    lostAtOnce_filter p n rest hn]

theorem lostAtOnce_cons_of_kept (p : Part) (n : TicketNo) (rest : List TicketNo) (hq : p.pool.queue = n :: rest)
    (hn : n ∉ rest) (h : ¬(p.losesTicket n ∧ (p.outlet.state = .idle ∨ p.outlet.state = .lineWait))) :
    p.lostAtOnce n = p.lostOf rest := by
  have hno : ¬((p.ticket n).origin = some .link ∧ (p.ticket n).state ≠ .stopping ∧
      (n = n → p.outlet.state = .idle ∨ p.outlet.state = .lineWait)) :=
    fun ⟨ho, hst, hs⟩ => h ⟨⟨ho, hst⟩, hs rfl⟩
  rw [Part.lostAtOnce, hq, List.filter_cons, if_neg fun hd => hno (of_decide_eq_true hd), lostAtOnce_filter p n rest hn]

end Sys2Proof.Machine

namespace Sys2Proof.Machine

/-! The loss of the queue, stated once for parts that are alike in it (R141). -/

/-- Two parts alike in what the loss of a queue reads and changes: the queue, the records of a list, the dispenser outlet, the
water line, the stock, the time and the parameters. -/
def Part.AlikeOn (q p : Part) (l : List TicketNo) : Prop :=
  q.pool.queue = p.pool.queue ∧ (∀ m ∈ l, q.ticket m = p.ticket m) ∧ q.outlet = p.outlet ∧ q.line = p.line ∧
    q.ice.stock = p.ice.stock ∧ q.clock = p.clock ∧ q.supervision.params = p.supervision.params

theorem Part.StoppedAt.congr_left {p q q' : Part} {n : TicketNo} {o : TicketOutcome} (h : q.StoppedAt p n o)
    (hticket : q'.ticket n = q.ticket n) (houtlet : q'.outlet = q.outlet) (hline : q'.line = q.line)
    (hstock : q'.ice.stock = q.ice.stock) : q'.StoppedAt p n o := by
  simpa only [Part.StoppedAt, Part.StopsHead, hticket, houtlet, hline, hstock] using h

theorem Part.StoppedAt.congr_right {p p' q : Part} {n : TicketNo} {o : TicketOutcome} {l : List TicketNo}
    (h : q.StoppedAt p n o) (hn : n ∈ l) (hp : p'.AlikeOn p l) : q.StoppedAt p' n o := by
  obtain ⟨-, hticket, houtlet, hline, hstock, hclock, hparams⟩ := hp
  simpa only [Part.StoppedAt, Part.StopsHead, hticket n hn, houtlet, hline, hstock, hclock, hparams] using h

/-- A head in IDLE or in LINE_WAIT is at no stage of its work. -/
theorem stoppedAt_of_unstarted (q p : Part) (n : TicketNo) (o : TicketOutcome)
    (hs : p.outlet.state = .idle ∨ p.outlet.state = .lineWait) : q.StoppedAt p n o := by
  have hopening : p.outlet.state ≠ .opening := by rcases hs with h | h <;> rw [h] <;> decide
  have hruns : ¬(p.outlet.state = .running ∨ p.outlet.state = .paused) := by
    rcases hs with h | h <;> rw [h] <;> decide
  exact ⟨fun h => absurd h hopening, fun h => absurd h hruns, fun h => absurd h hruns, fun h => absurd h hruns⟩

/-- What the silence timer does to a dispenser queue with head `n` (R141): the LINK tickets that are not at work are DONE at
once, a LINK head at work stops at its stage, and a paddle's ticket or one that is stopping stays as it is. -/
def Part.LosesQueue (q p : Part) (n : TicketNo) : Prop :=
  q.pool.queue = (p.pool.queue.filter fun m => m ∉ p.lostAtOnce n) ∧
    (∀ m ∈ p.lostAtOnce n,
      (q.ticket m).isLost ∧ (q.ticket m).progress.startTime = (p.ticket m).progress.startTime) ∧
    (n ∈ p.lostAtOnce n → q.outlet.state = .idle ∧
      (p.outlet.state = .lineWait → q.line = { p.line with dispenseClaim := none })) ∧
    (∀ m ∈ p.pool.queue, (p.ticket m).origin = some .paddle ∨ (p.ticket m).state = .stopping →
      q.ticket m = p.ticket m) ∧
    ((p.ticket n).origin = some .paddle ∨ (p.ticket n).state = .stopping → q.outlet = p.outlet ∧ q.line = p.line) ∧
    (p.losesTicket n → q.StoppedAt p n .linkLost)

theorem not_losesTicket (p : Part) (m : TicketNo)
    (h : (p.ticket m).origin = some .paddle ∨ (p.ticket m).state = .stopping) : ¬p.losesTicket m := by
  rintro ⟨ho, hs⟩
  rcases h with h | h
  · rw [ho] at h
    cases h
  · exact hs h

theorem lostAtOnce_congr {p p' : Part} {n : TicketNo} (hn : p'.AlikeOn p p.pool.queue) :
    p'.lostAtOnce n = p.lostAtOnce n := by
  obtain ⟨hqueue, hticket, houtlet, -⟩ := hn
  rw [Part.lostAtOnce, Part.lostAtOnce, hqueue]
  exact List.filter_congr fun m hm => by rw [hticket m hm, houtlet]

theorem Part.LosesQueue.congr {p p' q q' : Part} {n : TicketNo} (h : q.LosesQueue p n) (hn : n ∈ p.pool.queue)
    (hp : p'.AlikeOn p p.pool.queue) (hq : q'.AlikeOn q p.pool.queue) : q'.LosesQueue p' n := by
  have hlist : p'.lostAtOnce n = p.lostAtOnce n := lostAtOnce_congr hp
  obtain ⟨hqueue, hlost, hidle, hkept, hmachines, hstops⟩ := h
  have hstage : p.losesTicket n → q.StoppedAt p' n .linkLost := fun h => (hstops h).congr_right hn hp
  obtain ⟨pqueue, pticket, poutlet, pline, -⟩ := hp
  obtain ⟨qqueue, qticket, qoutlet, qline, qstock, -⟩ := hq
  refine ⟨?_, fun m hm => ?_, ?_, fun m hm => ?_, ?_, ?_⟩
  · rw [qqueue, pqueue, hlist, hqueue]
  · rw [hlist] at hm
    have hin := ((mem_lostAtOnce p n m).1 hm).1
    rw [qticket m hin, pticket m hin]
    exact hlost m hm
  · rw [hlist, qoutlet, qline, poutlet, pline]
    exact hidle
  · rw [pqueue] at hm
    rw [qticket m hm, pticket m hm]
    exact hkept m hm
  · rw [pticket n hn, qoutlet, qline, poutlet, pline]
    exact hmachines
  · rw [Part.losesTicket, pticket n hn]
    exact fun h => (hstage h).congr_left (qticket n hn) qoutlet qline qstock

/-- The queue after its head has been dealt with, where the head's own loss is known. -/
theorem loseQueue_lostHead (p q : Part) (n : TicketNo) (rest : List TicketNo) (hq : p.pool.queue = n :: rest)
    (hn : n ∉ rest) (hlost : p.losesTicket n) (hs : p.outlet.state = .idle ∨ p.outlet.state = .lineWait)
    (hloses : q.Loses p (n :: p.lostOf rest)) (hidle : q.outlet.state = .idle)
    (hline : p.outlet.state = .lineWait → q.line = { p.line with dispenseClaim := none }) :
    q.LosesQueue p n ∧ q.pool.completion = p.pool.completion ++ p.lostAtOnce n := by
  rw [← lostAtOnce_cons_of_lost p n rest hq hn hlost hs] at hloses
  obtain ⟨hqueue, hcompletion, hdone, hkept⟩ := hloses
  refine ⟨⟨hqueue, hdone, fun _ => ⟨hidle, hline⟩, fun m _ h => hkept m fun hm => ?_,
    fun h => absurd hlost (not_losesTicket p n h), fun _ => stoppedAt_of_unstarted q p n _ hs⟩, hcompletion⟩
  exact not_losesTicket p m h ((mem_lostAtOnce p n m).1 hm).2.1

end Sys2Proof.Machine

namespace Sys2Proof.Machine

/-! The loss of the queue, by the stage of its head (R140, R141). -/

/-- A LINK head in LINE_WAIT is lost like a waiting ticket (R140). -/
theorem lineWait_loses (p : Part) (n : TicketNo) (hh : p.pool.queue.head? = some n) (hd : p.pool.queue.Nodup)
    (hs : p.outlet.state = .lineWait) (hl : (p.ticket n).origin = some .link) :
    (p.stopHead .linkLost).Loses p [n] := by
  obtain ⟨hself, hothers, hqueue, hcompletion, -⟩ := lineWait_of_head p n .linkLost hh hs (.inl hl)
  refine ⟨hqueue.trans (erase_eq_filter_singleton _ n hd), hcompletion, fun m hm => ?_, fun m hm =>
    hothers m fun h => hm (List.mem_singleton.2 h)⟩
  rw [List.mem_singleton.1 hm, hself]
  exact ⟨⟨rfl, rfl⟩, rfl⟩

/-- The loss of a queue whose head is lost at once. -/
theorem loseQueue_unstarted (p : Part) (n : TicketNo) (rest : List TicketNo) (hq : p.pool.queue = n :: rest)
    (hd : p.pool.queue.Nodup) (hlost : p.losesTicket n)
    (hs : p.outlet.state = .idle ∨ p.outlet.state = .lineWait) :
    p.loseQueue.LosesQueue p n ∧ p.loseQueue.pool.completion = p.pool.completion ++ p.lostAtOnce n := by
  obtain ⟨hn, hrest⟩ := List.nodup_cons.1 (hq ▸ hd)
  have hh : p.pool.queue.head? = some n := by rw [hq]; rfl
  let r := p.loseLink n
  have hfold : p.loseQueue = rest.foldl Part.loseLink r := by rw [Part.loseQueue, hq]; rfl
  have hstep : r.Loses p [n] ∧ r.outlet.state = .idle ∧
      (p.outlet.state = .lineWait → r.line = { p.line with dispenseClaim := none }) := by
    rcases hs with hs | hs
    · simp only [r, loseLink_waiting p n hlost (.inr hs)]
      exact ⟨toCompletion_loses p n hd, hs, fun h => by rw [hs] at h; cases h⟩
    · simp only [r, loseLink_head p n hlost hh (by rw [hs]; decide)]
      obtain ⟨-, -, -, -, -, -, hline, hidle, -⟩ := lineWait_of_head p n .linkLost hh hs (.inl hlost.1)
      exact ⟨lineWait_loses p n hh hd hs hlost.1, hidle, fun _ => hline⟩
  obtain ⟨hloses, hidle, hline⟩ := hstep
  have hnodup : r.pool.queue.Nodup := by
    rw [hloses.1]
    exact hd.filter _
  have hsame : r.lostOf rest = p.lostOf rest := lostOf_congr p r rest fun m hm => by
    obtain ⟨-, -, -, hkept⟩ := hloses
    exact hkept m fun h => hn (List.mem_singleton.1 h ▸ hm)
  obtain ⟨hothers, houtlet, hlines, -⟩ := foldl_loseLink_waiting rest r n (.inl hidle) hn hrest hnodup
  rw [hsame] at hothers
  rw [hfold]
  refine loseQueue_lostHead p _ n rest hq hn hlost hs
    (hothers.cons hloses fun h => hn ((mem_lostOf p rest n).1 h).1) ?_ fun h => ?_
  · rw [houtlet]
    exact hidle
  · rw [hlines]
    exact hline h

/-- The loss of a queue whose head stays: one at work stops, any other keeps the outlet and the line as they are. -/
theorem loseQueue_started (p : Part) (n : TicketNo) (rest : List TicketNo) (hq : p.pool.queue = n :: rest)
    (hd : p.pool.queue.Nodup) (hice : ∀ m ∈ p.pool.queue, p.pool.iceSlot ≠ some m)
    (h : ¬(p.losesTicket n ∧ (p.outlet.state = .idle ∨ p.outlet.state = .lineWait))) :
    p.loseQueue.LosesQueue p n ∧ p.loseQueue.pool.completion = p.pool.completion ++ p.lostAtOnce n := by
  obtain ⟨hn, hrest⟩ := List.nodup_cons.1 (hq ▸ hd)
  have hh : p.pool.queue.head? = some n := by rw [hq]; rfl
  let r := p.loseLink n
  have hfold : p.loseQueue = rest.foldl Part.loseLink r := by rw [Part.loseQueue, hq]; rfl
  have hstep : r.TouchesHead p n ∧ (p.losesTicket n → r.StoppedAt p n .linkLost) ∧ (¬p.losesTicket n → r = p) := by
    simp only [r]
    by_cases hlost : p.losesTicket n
    · have hs : p.outlet.state ≠ .idle ∧ p.outlet.state ≠ .lineWait := not_or.1 fun hs => h ⟨hlost, hs⟩
      rw [loseLink_head p n hlost hh hs.1]
      exact ⟨stopHead_touches p n _ hh hs.2, fun _ => stopHead_stage p n _ hh, fun h => absurd hlost h⟩
    · rw [loseLink_spared p n hlost]
      exact ⟨.refl p n, fun h => absurd h hlost, fun _ => rfl⟩
  obtain ⟨htouches, hstage, hspared⟩ := hstep
  obtain ⟨rqueue, rcompletion, -, -, -, -, rticket, -⟩ := htouches
  have hticket (m : TicketNo) (hm : m ∈ rest) : r.ticket m = p.ticket m :=
    rticket m (fun h => hn (h ▸ hm)) (hice m (hq ▸ List.mem_cons_of_mem n hm))
  have hsame : r.lostOf rest = p.lostAtOnce n :=
    (lostOf_congr p r rest hticket).trans (lostAtOnce_cons_of_kept p n rest hq hn h).symm
  have hnot : n ∉ p.lostAtOnce n := fun hm => h (((mem_lostAtOnce p n n).1 hm).2.imp_right fun hs => hs rfl)
  have hrestOf (m : TicketNo) (hm : m ∈ p.lostAtOnce n) : m ∈ rest := by
    rw [← hsame] at hm
    exact ((mem_lostOf r rest m).1 hm).1
  obtain ⟨⟨hqueue, hcompletion, hdone, hkept⟩, houtlet, hline, hices⟩ :=
    foldl_loseLink_waiting rest r n (.inr (rqueue ▸ hh)) hn hrest (rqueue ▸ hd)
  rw [hsame] at hqueue hcompletion hdone hkept
  rw [hfold]
  refine ⟨⟨by rw [hqueue, rqueue], fun m hm => ?_, fun hm => absurd hm hnot, fun m hin hm => ?_, fun hm => ?_,
    fun hlost => ?_⟩, by rw [hcompletion, rcompletion]⟩
  · rw [← hticket m (hrestOf m hm)]
    exact hdone m hm
  · have hno := not_losesTicket p m hm
    rw [hkept m fun h => hno ((mem_lostAtOnce p n m).1 h).2.1]
    by_cases hmn : m = n
    · rw [hspared (hmn ▸ hno)]
    · exact rticket m hmn (hice m hin)
  · have hp := hspared (not_losesTicket p n hm)
    rw [houtlet, hline, hp]
    exact ⟨rfl, rfl⟩
  · exact (hstage hlost).congr_left (hkept n hnot) houtlet hline (congrArg IceMaker.stock hices)

/-- What the silence timer does to the dispenser queue. -/
theorem loseQueue_spec (p : Part) (n : TicketNo) (rest : List TicketNo) (hq : p.pool.queue = n :: rest)
    (hd : p.pool.queue.Nodup) (hice : ∀ m ∈ p.pool.queue, p.pool.iceSlot ≠ some m) :
    p.loseQueue.LosesQueue p n ∧ p.loseQueue.pool.completion = p.pool.completion ++ p.lostAtOnce n := by
  by_cases h : p.losesTicket n ∧ (p.outlet.state = .idle ∨ p.outlet.state = .lineWait)
  · exact loseQueue_unstarted p n rest hq hd h.1 h.2
  · exact loseQueue_started p n rest hq hd hice h

end Sys2Proof.Machine

namespace Sys2Proof.Machine

/-! An expiry of the silence timer (R141, R181, R182). -/

/-- The end of the service-slot test is nothing to the dispenser queue and its work. -/
theorem endServiceTest_alike (p : Part) (o : TicketOutcome) (l : List TicketNo)
    (hq : ∀ m ∈ p.pool.queue, p.pool.serviceSlot ≠ some m) (hl : ∀ m ∈ l, p.pool.serviceSlot ≠ some m)
    (hk : ∀ m ∈ l, m ∉ p.pool.completion ∨ (p.ticket m).origin = some .link) : (p.endServiceTest o).AlikeOn p l := by
  obtain ⟨⟨hclock, -, -, hsup, -⟩, hline, houtlet, -⟩ := endServiceTest_frame o p
  refine ⟨endServiceTest_queue p o hq, fun m hm => ticket_endServiceTest p m o (hl m hm) (hk m hm), houtlet, hline, ?_,
    hclock, congrArg Supervision.params hsup⟩
  cases hs : p.pool.serviceSlot with
  | none => rw [endServiceTest_none p o hs]
  | some n =>
    obtain ⟨-, -, -, hstock, -⟩ := endServiceTest_spec p n o hs
    exact hstock

theorem Part.AlikeOn.refl (p : Part) (l : List TicketNo) : p.AlikeOn p l := ⟨rfl, fun _ _ => rfl, rfl, rfl, rfl, rfl, rfl⟩

theorem Part.AlikeOn.symm {p q : Part} {l : List TicketNo} (h : q.AlikeOn p l) : p.AlikeOn q l := by
  obtain ⟨hqueue, hticket, houtlet, hline, hstock, hclock, hparams⟩ := h
  exact ⟨hqueue.symm, fun m hm => (hticket m hm).symm, houtlet.symm, hline.symm, hstock.symm, hclock.symm, hparams.symm⟩

/-- The end of the LINK work does to the dispenser queue what its loss does, in either order. -/
theorem endLinkWork_queue (p : Part) (n : TicketNo) (rest : List TicketNo) (hq : p.pool.queue = n :: rest)
    (hd : p.pool.queue.Nodup)
    (hout : ∀ m ∈ p.pool.queue, p.pool.serviceSlot ≠ some m ∧ p.pool.iceSlot ≠ some m ∧ m ∉ p.pool.completion) :
    p.endLinkWork.LosesQueue p n ∧
      (p.pool.serviceSlot = none → p.endLinkWork.pool.completion = p.pool.completion ++ p.lostAtOnce n) := by
  have hin : n ∈ p.pool.queue := hq ▸ List.mem_cons_self
  have hservice (m : TicketNo) (hm : m ∈ p.pool.queue) := (hout m hm).1
  have hice (m : TicketNo) (hm : m ∈ p.pool.queue) := (hout m hm).2.1
  have hcompletion (m : TicketNo) (hm : m ∈ p.pool.queue) := (hout m hm).2.2
  obtain ⟨q, hwork, horder⟩ := endLinkWork_cases p
  rw [hwork]
  change q.LosesQueue p n ∧ (_ → q.pool.completion = _)
  rcases horder with rfl | rfl
  · have halike := endServiceTest_alike p .linkLost p.pool.queue hservice hservice fun m hm => .inl (hcompletion m hm)
    have hqueue : (p.endServiceTest .linkLost).pool.queue = p.pool.queue := halike.1
    obtain ⟨hloses, hdone⟩ := loseQueue_spec (p.endServiceTest .linkLost) n rest (hqueue.trans hq) (hqueue ▸ hd)
      fun m hm => endServiceTest_iceSlot p m _ (hice m (hqueue ▸ hm))
    refine ⟨hloses.congr (hqueue ▸ hin) (hqueue ▸ halike.symm) (.refl _ _), fun hnone => ?_⟩
    rw [endServiceTest_none p _ hnone] at hdone ⊢
    exact hdone
  · obtain ⟨hloses, hdone⟩ := loseQueue_spec p n rest hq hd hice
    obtain ⟨horigin, -, hslot, -⟩ := loseQueue_losesFrom p
    have hslot := hslot hservice
    have hleft (m : TicketNo) (hm : m ∈ p.loseQueue.pool.queue) : p.loseQueue.pool.serviceSlot ≠ some m := by
      rw [hloses.1] at hm
      rw [hslot]
      exact hservice m (List.mem_filter.1 hm).1
    have halike : (p.loseQueue.endServiceTest .linkLost).AlikeOn p.loseQueue p.pool.queue := by
      refine endServiceTest_alike p.loseQueue .linkLost p.pool.queue hleft (hslot ▸ hservice) fun m hm => ?_
      rw [hdone, horigin, List.mem_append, not_or]
      by_cases hlost : m ∈ p.lostAtOnce n
      · exact .inr ((mem_lostAtOnce p n m).1 hlost).2.1.1
      · exact .inl ⟨hcompletion m hm, hlost⟩
    refine ⟨hloses.congr hin (.refl _ _) halike, fun hnone => ?_⟩
    rw [endServiceTest_none _ _ (hslot.trans hnone)]
    exact hdone

theorem endLinkWork_keeps (p : Part) :
    p.endLinkWork.clock = p.clock ∧ p.endLinkWork.supervision = p.supervision ∧ p.endLinkWork.defrost = p.defrost := by
  obtain ⟨q, hwork, horder⟩ := endLinkWork_cases p
  rw [hwork]
  change q.clock = _ ∧ q.supervision = _ ∧ q.defrost = _
  rcases horder with rfl | rfl
  · obtain ⟨⟨hclock, -, -, hsup, -⟩, hdefrost⟩ := loseQueue_frame (p.endServiceTest .linkLost)
    obtain ⟨⟨gclock, -, -, gsup, -⟩, -, -, gdefrost⟩ := endServiceTest_frame .linkLost p
    exact ⟨hclock.trans gclock, hsup.trans gsup, hdefrost.trans gdefrost⟩
  · obtain ⟨⟨hclock, -, -, hsup, -⟩, -, -, hdefrost⟩ := endServiceTest_frame .linkLost p.loseQueue
    obtain ⟨⟨gclock, -, -, gsup, -⟩, gdefrost⟩ := loseQueue_frame p
    exact ⟨hclock.trans gclock, hsup.trans gsup, hdefrost.trans gdefrost⟩

/-- The part that has gone silent: SILENT is set, the silence time stands, and SILENCE_TRIP is pending (R182). -/
def Part.silenced (p : Part) : Part :=
  Part.notify .silenceTrip
    { p with
      supervision.silent := true
      supervision.silence := p.supervision.silence.stop p.clock.now }

/-- An expiry is the end of the LINK work of the part gone silent; a Defrost Controller in WANTED starts its time anew. -/
theorem expireSilence_eq (p : Part) :
    let r := p.silenced.endLinkWork
    p.expireSilence =
      if p.defrost.state = .wanted then { r with defrost.silentWant := .fromZero p.clock.now } else r := by
  intro r
  obtain ⟨hclock, -, hdefrost⟩ := endLinkWork_keeps p.silenced
  have hnow : p.silenced.endLinkWork.clock.now = p.clock.now := congrArg Clock.now hclock
  have hstate : p.silenced.endLinkWork.defrost.state = p.defrost.state := congrArg Defrost.state hdefrost
  rw [← hnow, ← hstate]
  rfl

theorem expireSilence_blocks (p : Part) :
    let r := p.silenced.endLinkWork
    let q := p.expireSilence
    q.pool = r.pool ∧ q.link = r.link ∧ q.outlet = r.outlet ∧ q.line = r.line ∧ q.ice = r.ice ∧ q.clock = r.clock ∧
      q.supervision = r.supervision := by
  intro r q
  simp only [q, expireSilence_eq]
  split <;> exact ⟨rfl, rfl, rfl, rfl, rfl, rfl, rfl⟩

theorem silenced_alike (p : Part) (l : List TicketNo) : p.AlikeOn p.silenced l :=
  ⟨rfl, fun _ _ => rfl, rfl, rfl, rfl, rfl, rfl⟩

theorem silenceDue_iff (p : Part) :
    p.silenceDue = true ↔
      p.supervision.armed = true ∧ p.supervision.silent = false ∧ p.supervision.params.silenceLimit ≠ 0 ∧
        p.supervision.params.silenceLimit * 1000000 ≤ p.supervision.silence.read p.clock.now := by
  rw [Part.silenceDue, Bool.and_eq_true, Bool.and_eq_true, Bool.and_eq_true, decide_eq_true_iff, Bool.not_eq_true',
    bne_iff_ne, and_assoc, and_assoc]
  rfl

theorem ticket_expireSilence (p : Part) (m : TicketNo) : p.expireSilence.ticket m = p.silenced.endLinkWork.ticket m := by
  obtain ⟨hpool, -⟩ := expireSilence_blocks p
  rw [Part.ticket, hpool]
  rfl

/-- An expiry does to the dispenser queue what the loss of its LINK tickets does. -/
theorem expireSilence_queue (p : Part) (n : TicketNo) (rest : List TicketNo) (hq : p.pool.queue = n :: rest)
    (hd : p.pool.queue.Nodup)
    (hout : ∀ m ∈ p.pool.queue, p.pool.serviceSlot ≠ some m ∧ p.pool.iceSlot ≠ some m ∧ m ∉ p.pool.completion) :
    p.expireSilence.LosesQueue p n ∧
      (p.pool.serviceSlot = none → p.expireSilence.pool.completion = p.pool.completion ++ p.lostAtOnce n) := by
  obtain ⟨hpool, -, houtlet, hline, hice, hclock, hsup⟩ := expireSilence_blocks p
  obtain ⟨hloses, hcompletion⟩ := endLinkWork_queue p.silenced n rest hq hd hout
  have halike : p.expireSilence.AlikeOn p.silenced.endLinkWork p.pool.queue :=
    ⟨congrArg Pool.queue hpool, fun m _ => ticket_expireSilence p m, houtlet, hline, congrArg IceMaker.stock hice, hclock,
      congrArg Supervision.params hsup⟩
  have hin : n ∈ p.pool.queue := hq ▸ List.mem_cons_self
  refine ⟨hloses.congr hin (silenced_alike p _) halike, fun hnone => ?_⟩
  rw [hpool]
  exact hcompletion hnone

/-- Settles O12: a waiting ticket and the service slot are `endLinkWork_waiting` and `endLinkWork_service`, which need no
distinct queue; the whole queue is `expireSilence_queue`. -/
theorem silenceExpires : Obligations.SilenceExpires := by
  intro s dt hr p due
  refine ⟨fun hno => ?_, fun hdue => ⟨p.expireSilence, ?_, ?_, ?_, fun hwanted => ?_, fun hout => ⟨?_, ?_⟩, ?_⟩⟩
  · have hearly : (s.later dt).silenceDue = false := by
      rw [Bool.eq_false_iff, ne_eq, silenceDue_iff]
      exact hno
    rw [Becomes, exec, execSilenceExpiry, take_next s dt _ hr, onDue_early _ _ _ hearly]
  · rw [Becomes, exec, execSilenceExpiry, take_next s dt _ hr, onDue_due _ _ _ ((silenceDue_iff _).2 hdue)]
  · obtain ⟨-, -, -, -, -, -, hsup⟩ := expireSilence_blocks p
    obtain ⟨-, hkeeps, -⟩ := endLinkWork_keeps p.silenced
    rw [hsup, hkeeps]
    rfl
  · obtain ⟨-, hlink, -⟩ := expireSilence_blocks p
    rw [Part.isPending, hlink]
    refine pending_endLinkWork p.silenced .silenceTrip ?_
    rw [Part.silenced, isPending_notify]
    rfl
  · rw [expireSilence_eq, if_pos hwanted]
    rfl
  · intro m hin hl hs hh
    rw [ticket_expireSilence]
    exact endLinkWork_waiting p.silenced m (fun x hx => (hout x hx).1) hin hh (hout m hin).2 hl
      (fun h => TicketState.noConfusion (hs.symm.trans h))
  · intro m hslot hl
    obtain ⟨hpool, -⟩ := expireSilence_blocks p
    rw [ticket_expireSilence, hpool]
    exact endLinkWork_service p.silenced m (fun x hx => (hout x hx).1) hslot hl
  · intro n rest hq hd hout t outlet atOnce runs water chute auger ice lost stops closes
    obtain ⟨⟨hqueue, hdone, hidle, hkept, hmachines, hstops⟩, hcompletion⟩ := expireSilence_queue p n rest hq hd hout
    refine ⟨hqueue, hcompletion, fun m hm => ?_, hidle, hkept, hmachines, fun hl hs => ?_⟩
    · obtain ⟨⟨hst, houtcome⟩, hstart⟩ := hdone m hm
      exact ⟨hst, houtcome, hstart⟩
    · obtain ⟨hopening, hwater, hrun, hchute⟩ := hstops ⟨hl, hs⟩
      have stopped (hat : ¬atOnce) (h : p.expireSilence.StopsHead p n .linkLost) : stops := by
        obtain ⟨hst, hstart, hending, hpause⟩ := h
        refine ⟨hst, hstart, hending, hpause, ?_⟩
        have hnot : n ∉ p.lostAtOnce n := fun hm => hat (((mem_lostAtOnce p n n).1 hm).2.2 rfl)
        rw [hqueue, hq, List.filter_cons, if_pos (decide_eq_true hnot)]
        rfl
      have started (h : runs) : ¬atOnce := by
        rintro (h' | h') <;> rcases h with h | h <;> exact OutletState.noConfusion (h.symm.trans h')
      refine ⟨fun hst => ?_, fun hr hw hline howner => ?_, fun hr hk => ?_, fun hr hk => ?_⟩
      · obtain ⟨h, hcloses⟩ := hopening hst
        refine ⟨stopped (fun hat => ?_) h, hcloses⟩
        rcases hat with h' | h' <;> exact OutletState.noConfusion (hst.symm.trans h')
      · obtain ⟨h, hrest⟩ := hwater hr hw hline howner
        exact ⟨stopped (started hr) h, hrest⟩
      · obtain ⟨h, hrest⟩ := hrun hr hk
        exact ⟨stopped (started hr) h, hrest⟩
      · obtain ⟨h, hrest⟩ := hchute hr hk
        exact ⟨stopped (started hr) h, hrest⟩

end Sys2Proof.Machine

namespace Sys2Proof.Machine

/-! Rows: what a command makes of the part outside a reset. -/

theorem becomes_row (i : Instr) (s : State) (dt : Nat) (f : Part → Part) (hr : s.part.resetting = none)
    (h : exec i s = s.take dt f) : Becomes i s (f (s.later dt)) := by
  rw [Becomes, h, take_next s dt f hr]

/-- A timer row whose moment has come takes its effect, and what follows at once (log 3). -/
theorem becomes_due (i : Instr) (s : State) (dt : Nat) (due : Part → Bool) (f : Part → Part)
    (hr : s.part.resetting = none) (h : exec i s = s.take dt (Part.onDue due f)) (hd : due (s.later dt) = true) :
    Becomes i s (f (s.later dt)).settle := by
  have hb := becomes_row i s dt _ hr h
  rwa [onDue_due _ _ _ hd] at hb

/-- A timer row before its moment lets time pass alone (log 3). -/
theorem becomes_early (i : Instr) (s : State) (dt : Nat) (due : Part → Bool) (f : Part → Part)
    (hr : s.part.resetting = none) (h : exec i s = s.take dt (Part.onDue due f)) (hd : due (s.later dt) = false) :
    Becomes i s (s.later dt) := by
  have hb := becomes_row i s dt _ hr h
  rwa [onDue_early _ _ _ hd] at hb

end Sys2Proof.Machine

namespace Sys2Proof.Machine

/-! Curve tables: their order, and how GET_CURVE and LOAD_CURVE treat them (R35, R37, R38). -/

/-- One curve point stands before another: its count is lower and its temperature higher (R35). -/
abbrev CurvePoint.before (a b : CurvePoint) : Prop := a.count < b.count ∧ b.temp < a.temp

/-- Order between neighbours is order between all points. -/
theorem ordered_iff (table : List CurvePoint) : ordered table = true ↔ table.Pairwise CurvePoint.before := by
  induction table with
  | nil => simp [ordered]
  | cons a rest ih =>
    cases rest with
    | nil => simp [ordered]
    | cons b rest =>
      rw [ordered, Bool.and_eq_true, ih, List.pairwise_cons (a := a)]
      simp only [Bool.and_eq_true, decide_eq_true_eq]
      refine and_congr_left fun hrest => ?_
      constructor
      · intro hab z hz
        rcases List.mem_cons.1 hz with rfl | hz
        · exact hab
        · have hbz : b.before z := (List.pairwise_cons.1 hrest).1 z hz
          exact ⟨hab.1.trans hbz.1, hbz.2.trans hab.2⟩
      · intro h
        exact h b List.mem_cons_self

theorem validCurve_iff (table : List CurvePoint) :
    validCurve table = true ↔
      4 ≤ table.length ∧ table.length ≤ 12 ∧ (∀ z ∈ table, -1000 ≤ z.temp ∧ z.temp ≤ 1500) ∧
        table.Pairwise CurvePoint.before := by
  simp only [validCurve, Bool.and_eq_true, decide_eq_true_eq, List.all_eq_true, ordered_iff, and_assoc]

theorem answers_getCurve (s : State) (dt : Nat) (tag : Byte) (payload : List Byte) (st : Status) (data : List Byte)
    (q : Part) (hs : s.linkIdle) (hl : payload.length ≤ 64)
    (hk : (s.heard (.getCurve dt tag payload)).takeGetCurve payload = (⟨st, data⟩, q)) (hq : q.link.inbox = []) :
    Answers (.getCurve dt tag payload) s st data q :=
  answers_of_takeKind _ s dt ⟨0x13, tag, payload⟩ st data q hs rfl hl (congrArg atOnce hk) hq

theorem answers_loadCurve (s : State) (dt : Nat) (tag : Byte) (payload : List Byte) (st : Status) (data : List Byte)
    (q : Part) (hs : s.linkIdle) (hl : payload.length ≤ 64)
    (hk : (s.heard (.loadCurve dt tag payload)).takeLoadCurve payload = (⟨st, data⟩, q)) (hq : q.link.inbox = []) :
    Answers (.loadCurve dt tag payload) s st data q :=
  answers_of_takeKind _ s dt ⟨0x12, tag, payload⟩ st data q hs rfl hl (congrArg atOnce hk) hq

/-- A table that LOAD_CURVE accepts replaces its class's table, and of the Sense Unit nothing else changes (R37). -/
theorem takeLoadCurve_accepted (p : Part) (c count : Byte) (cls : CurveClass) (points : List Byte)
    (hl : points.length = 4 * count.toNat) (hlock : p.supervision.lock = false) (hc : classOf c = some cls)
    (hv : validCurve (pointsOf points) = true) :
    ∃ t : Part, p.takeLoadCurve (c :: count :: points) = (⟨.ok, []⟩, t) ∧ t.link.inbox = p.link.inbox ∧
      t.sense = p.sense.setCurve cls (pointsOf points) := by
  let q : Part := { p with sense := p.sense.setCurve cls (pointsOf points) }
  obtain ⟨-, -, hsense, -, -, -, hinbox, -⟩ := (handClass_frame cls q).1
  obtain ⟨-, -, hsense', -, -, -, hinbox', -⟩ := settle_frame (q.handClass cls)
  refine ⟨(q.handClass cls).settle, ?_, hinbox'.trans hinbox, hsense'.trans hsense⟩
  simp only [Part.takeLoadCurve, hl, ne_eq, not_true_eq_false, if_false, hlock, hc, hv, if_true]
  rfl

/-- A class that is none, or a table out of order or range, is refused RANGE (R37). -/
theorem takeLoadCurve_range (p : Part) (c count : Byte) (points : List Byte) (hl : points.length = 4 * count.toNat)
    (hlock : p.supervision.lock = false) (h : classOf c = none ∨ validCurve (pointsOf points) = false) :
    p.takeLoadCurve (c :: count :: points) = refuse .range p := by
  simp only [Part.takeLoadCurve, hl, ne_eq, not_true_eq_false, if_false, hlock]
  rcases h with h | h
  · rw [h]; rfl
  · rw [h]; cases classOf c <;> rfl

theorem classOf_none (c : Byte) (h0 : c ≠ 0) (h1 : c ≠ 1) : classOf c = none := by
  rw [classOf, if_neg h0, if_neg h1]

/-- Settles O15: the classes are `classOf`, and a table is judged by `validCurve_iff`. -/
theorem curvesAreShownAndReplaced : Obligations.CurvesAreShownAndReplaced := by
  constructor
  · intro s dt tag c hs i q data
    have hin : q.link.inbox = [] := heard_inbox i s dt ⟨0x13, tag, [c]⟩ hs rfl
    have answer (st : Status) (d : List Byte) (hk : q.takeGetCurve [c] = (⟨st, d⟩, q)) : Answers i s st d q :=
      answers_getCurve s dt tag [c] st d q hs (by simp) hk hin
    refine ⟨?_, ?_, fun h0 h1 => answer _ _ ?_⟩
    · rintro rfl
      exact answer _ _ rfl
    · rintro rfl
      exact answer _ _ rfl
    · rw [Part.takeGetCurve, classOf_none c h0 h1]
      rfl
  · intro s dt tag c count points hs hlen i q table valid
    have hin : q.link.inbox = [] := heard_inbox i s dt ⟨0x12, tag, c :: count :: points⟩ hs rfl
    have hfit : (c :: count :: points).length ≤ 64 := by
      rw [List.length_cons, List.length_cons]; omega
    have refused (st : Status) (hk : q.takeLoadCurve (c :: count :: points) = refuse st q) : Answers i s st [] q :=
      answers_loadCurve s dt tag _ st [] q hs hfit hk hin
    refine ⟨fun hl => refused _ (if_pos hl), fun hl hlock => ?_⟩
    have replaced (cls : CurveClass) (hc : classOf c = some cls) (hv : valid) :
        ∃ t : Part, Answers i s .ok [] t ∧ t.sense = q.sense.setCurve cls table := by
      obtain ⟨t, hk, hinbox, hsense⟩ :=
        takeLoadCurve_accepted q c count cls points hl hlock hc ((validCurve_iff _).2 hv)
      exact ⟨t, answers_loadCurve s dt tag _ _ _ t hs hfit hk (hinbox.trans hin), hsense⟩
    refine ⟨fun h => refused _ (takeLoadCurve_range q c count points hl hlock ?_), ?_, ?_⟩
    · refine h.imp (fun ⟨h0, h1⟩ => classOf_none c h0 h1) fun hv => ?_
      rw [← Bool.not_eq_true, validCurve_iff]
      exact hv
    · rintro rfl hv
      exact replaced .a rfl hv
    · rintro rfl hv
      exact replaced .b rfl hv

end Sys2Proof.Machine

namespace Sys2Proof.Machine

/-! A mean taken through a curve table (R35). -/

/-- A mean at or above a point's count passes the points before it. -/
theorem throughCurve_skip (pre rest : List CurvePoint) (a : CurvePoint) (m : Nat)
    (hp : (pre ++ a :: rest).Pairwise CurvePoint.before) (hm : a.count ≤ m) :
    throughCurve (pre ++ a :: rest) m = throughCurve (a :: rest) m := by
  induction pre with
  | nil => rfl
  | cons q pre ih =>
    obtain ⟨hq, hp⟩ := List.pairwise_cons.1 hp
    have hqa : q.count < a.count := (hq a (by simp)).1
    rw [← ih hp]
    cases pre with
    | nil =>
      change throughCurve (q :: a :: rest) m = throughCurve (a :: rest) m
      rw [throughCurve, if_neg (by omega), if_neg (by omega)]
    | cons r pre =>
      have hra : r.count < a.count := ((List.pairwise_cons.1 hp).1 a (by simp)).1
      change throughCurve (q :: r :: (pre ++ a :: rest)) m = throughCurve (r :: (pre ++ a :: rest)) m
      rw [throughCurve, if_neg (by omega), if_neg (by omega)]

theorem roundHalfUp_zero (w : Int) (hw : 0 < w) : roundHalfUp 0 w = 0 := by
  rw [roundHalfUp, mul_zero, zero_add]
  exact Int.ediv_eq_zero_of_lt hw.le (by omega)

/-- A mean equal to the first point's count reads its temperature. -/
theorem throughCurve_first (a : CurvePoint) (rest : List CurvePoint)
    (hp : (a :: rest).Pairwise CurvePoint.before) : throughCurve (a :: rest) a.count = (.ok, a.temp) := by
  cases rest with
  | nil => simp [throughCurve]
  | cons b rest =>
    have hab : a.count < b.count := ((List.pairwise_cons.1 hp).1 b List.mem_cons_self).1
    rw [throughCurve, if_neg (lt_irrefl _), if_pos hab, sub_self, mul_zero, roundHalfUp_zero _ (by omega), sub_zero]

/-- Below the first count the status is RANGE, with the first temperature. -/
theorem throughCurve_below (a b : CurvePoint) (rest : List CurvePoint) (m : Nat) (hm : m < a.count) :
    throughCurve (a :: b :: rest) m = (.range, a.temp) := by
  rw [throughCurve, if_pos hm]

/-- Between two neighbouring points the mean reads on their line. -/
theorem throughCurve_between (a b : CurvePoint) (rest : List CurvePoint) (m : Nat) (ha : a.count ≤ m)
    (hb : m < b.count) :
    throughCurve (a :: b :: rest) m =
      (.ok, a.temp - roundHalfUp ((a.temp - b.temp) * ((m : Int) - a.count)) ((b.count : Int) - a.count)) := by
  rw [throughCurve, if_neg (by omega), if_pos hb]

/-- A quotient rounded half up is within half a divisor of the number. -/
theorem roundHalfUp_near (x w : Int) (hw : 0 < w) :
    -w ≤ 2 * (x - roundHalfUp x w * w) ∧ 2 * (x - roundHalfUp x w * w) < w := by
  have hdiv := Int.emod_add_mul_ediv (2 * x + w) (2 * w)
  have h0 := Int.emod_nonneg (2 * x + w) (show 2 * w ≠ 0 by omega)
  have h1 := Int.emod_lt_of_pos (2 * x + w) (show 0 < 2 * w by omega)
  have hr : 2 * w * ((2 * x + w) / (2 * w)) = 2 * (roundHalfUp x w * w) := by rw [roundHalfUp]; ring
  omega

/-- A share of a height, in whole steps, lies between none and the height. -/
theorem roundHalfUp_within (d k w : Int) (hw : 0 < w) (hd : 0 ≤ d) (hk : 0 ≤ k) (hkw : k ≤ w) :
    0 ≤ roundHalfUp (d * k) w ∧ roundHalfUp (d * k) w ≤ d := by
  have h0 : 0 ≤ d * k := mul_nonneg hd hk
  have hle : d * k ≤ d * w := mul_le_mul_of_nonneg_left hkw hd
  constructor
  · exact Int.ediv_nonneg (by omega) (by omega)
  · refine Int.lt_add_one_iff.1 (Int.ediv_lt_of_lt_mul (by omega) ?_)
    have hexp : (d + 1) * (2 * w) = 2 * (d * w) + 2 * w := by ring
    omega

/-- The straight line between two points, rounded to a step: the colder one at a half (R35). -/
theorem line_rounded (a b : CurvePoint) (m : Nat) (hab : a.before b) (ha : a.count ≤ m) (hb : m ≤ b.count) :
    let t := a.temp - roundHalfUp ((a.temp - b.temp) * ((m : Int) - a.count)) ((b.count : Int) - a.count)
    let width : Int := b.count - a.count
    let line : Int := a.temp * width - (a.temp - b.temp) * (m - a.count)
    b.temp ≤ t ∧ t ≤ a.temp ∧ -width ≤ 2 * (t * width - line) ∧ 2 * (t * width - line) < width := by
  intro t width line
  obtain ⟨hcount, htemp⟩ := hab
  have hw : 0 < width := by simp only [width]; omega
  obtain ⟨hlo, hhi⟩ := roundHalfUp_within (a.temp - b.temp) (m - a.count) width hw (by omega) (by omega)
    (by simp only [width]; omega)
  obtain ⟨hnear, hnear'⟩ := roundHalfUp_near ((a.temp - b.temp) * ((m : Int) - a.count)) width hw
  have hdiff : t * width - line =
      (a.temp - b.temp) * ((m : Int) - a.count) -
        roundHalfUp ((a.temp - b.temp) * ((m : Int) - a.count)) width * width := by
    simp only [t, line, width]; ring
  rw [hdiff]
  exact ⟨by simp only [t, width] at *; omega, by simp only [t, width] at *; omega, hnear, hnear'⟩

/-- At the second point the line of two points reads that point. -/
theorem line_end (a b : CurvePoint) (hab : a.before b) :
    a.temp - roundHalfUp ((a.temp - b.temp) * ((b.count : Int) - a.count)) ((b.count : Int) - a.count) = b.temp := by
  have hw : (0 : Int) < (b.count : Int) - a.count := by have := hab.1; omega
  have hround : roundHalfUp ((a.temp - b.temp) * ((b.count : Int) - a.count)) ((b.count : Int) - a.count) =
      a.temp - b.temp := by
    rw [roundHalfUp]
    generalize (b.count : Int) - a.count = w at hw ⊢
    rw [show 2 * ((a.temp - b.temp) * w) + w = w + (a.temp - b.temp) * (2 * w) by ring,
      Int.add_mul_ediv_right _ _ (by omega), Int.ediv_eq_zero_of_lt hw.le (by omega), zero_add]
  rw [hround]; ring

/-- Settles O16: the points before are passed by `throughCurve_skip`, and the line is `line_rounded`. -/
theorem curveReadsBetweenItsPoints : Obligations.CurveReadsBetweenItsPoints := by
  intro pre post a b m table hp
  have hp' : ((pre ++ [a]) ++ b :: post).Pairwise CurvePoint.before := by
    rw [List.append_assoc]; exact hp
  have htail : (a :: b :: post).Pairwise CurvePoint.before := (List.pairwise_append.1 hp).2.1
  have hab : a.before b := (List.pairwise_cons.1 htail).1 b List.mem_cons_self
  have skipA (k : Nat) (hk : a.count ≤ k) : throughCurve table k = throughCurve (a :: b :: post) k :=
    throughCurve_skip pre (b :: post) a k hp hk
  have skipB (k : Nat) (hk : b.count ≤ k) : throughCurve table k = throughCurve (b :: post) k := by
    have h := throughCurve_skip (pre ++ [a]) post b k hp' hk
    rwa [List.append_assoc] at h
  have hB : throughCurve table b.count = (.ok, b.temp) := by
    rw [skipB _ le_rfl, throughCurve_first b post (List.pairwise_cons.1 htail).2]
  refine ⟨?_, hB, fun ha hb => ?_, ?_, ?_⟩
  · rw [skipA _ le_rfl, throughCurve_first a _ htail]
  · have hline := line_rounded a b m hab ha hb
    rcases hb.lt_or_eq with hlt | rfl
    · rw [skipA m ha, throughCurve_between a b post m ha hlt]
      exact ⟨rfl, hline⟩
    · rw [line_end a b hab] at hline
      rw [hB]
      exact ⟨rfl, hline⟩
  · rintro rfl hm
    exact throughCurve_below a b post m hm
  · rintro rfl hm
    rw [skipB m hm.le, throughCurve, if_neg hm.ne']

end Sys2Proof.Machine

namespace Sys2Proof.Machine

/-! READ_SENSORS: an answer at once, or one that is held (R39, R40). -/

/-- A set names a channel beyond T5 where one of its two high bits is set (Table 9-10). -/
theorem set_beyond (set : Byte) :
    set.extractLsb' 6 2 ≠ 0 ↔ set.getLsbD 6 = true ∨ set.getLsbD 7 = true := by
  revert set; decide

/-- The channels of a set, in ascending order. -/
theorem channelsOf_eq (set : Byte) : channelsOf set = (List.finRange 6).filter fun ch => set.getLsbD ch.val := rfl

theorem takeReadSensors_range (p : Part) (flags set : Byte) (h : set.getLsbD 6 = true ∨ set.getLsbD 7 = true) :
    p.takeReadSensors [flags, set] = (some ⟨.range, []⟩, p) := if_pos ((set_beyond set).2 h)

theorem takeReadSensors_held (p : Part) (flags set : Byte) (h : ¬(set.getLsbD 6 = true ∨ set.getLsbD 7 = true))
    (hf : flags.getLsbD 0 = true) (hc : channelsOf set ≠ []) :
    p.takeReadSensors [flags, set] =
      (none, { p with sense.scan.fresh := some { channels := channelsOf set, left := none } }) := by
  rw [Part.takeReadSensors, if_neg (mt (set_beyond set).1 h), if_pos]
  simpa [hf] using hc

theorem takeReadSensors_atOnce (p : Part) (flags set : Byte) (h : ¬(set.getLsbD 6 = true ∨ set.getLsbD 7 = true))
    (hf : flags.getLsbD 0 = false ∨ channelsOf set = []) :
    p.takeReadSensors [flags, set] = (some ⟨.ok, p.sensorData (channelsOf set)⟩, p.spendFree) := by
  rw [Part.takeReadSensors, if_neg (mt (set_beyond set).1 h), if_neg]
  rcases hf with hf | hf <;> rw [hf] <;> simp

/-- The beam level is the one last told, and 0 or 1 in any case (R39, log 10). -/
theorem beamLevelByte_spec (p : Part) :
    (p.beamLevelByte = 0 ∨ p.beamLevelByte = 1) ∧
      (p.sense.beamPin.level = some .blocked → p.beamLevelByte = 0) ∧
      (p.sense.beamPin.level = some .clear → p.beamLevelByte = 1) := by
  unfold Part.beamLevelByte
  cases p.sense.beamPin.level with
  | none => refine ⟨?_, by simp, by simp⟩; dsimp only; split <;> simp
  | some l => cases l <;> simp [beamLevelCode]

/-- The flow rate of a period that is not 0 (R45). -/
theorem flowRate_of_period (k t : Nat) (free : BitVec 16) (ht : t ≠ 0) :
    flowRate k free (some t) = BitVec.ofNat 16 (min (10000000000 / (k * t)) 65535) := by
  cases t with
  | zero => exact absurd rfl ht
  | succ t => rfl

theorem be16_eq_nat16 (w : BitVec 16) : be16 w = nat16 w.toNat := by
  rw [nat16, BitVec.ofNat_toNat, BitVec.setWidth_eq]

/-- The held READ_SENSORS once its last named channel has been converted (R40). -/
theorem answerFresh_done (p : Part) (chs : List ChannelNo) (f : Frame)
    (h : p.sense.scan.fresh = some { channels := chs, left := some 0 }) (he : p.link.executing = some f) :
    p.answerFresh =
      { p with
        sense.scan.fresh := none
        link.reply :=
          some (frameBytes (f.kind ||| 0x80) f.tag (0 :: byte (4 - p.link.inbox.length) :: p.sensorData chs))
        freeCount := p.freeCount + 1 } := by
  unfold Part.answerFresh
  split
  next chs' f' hfresh hex =>
    rw [h] at hfresh
    rw [he] at hex
    cases hfresh
    cases hex
    rfl
  next hnot => exact absurd he (hnot chs f h)

theorem answerFresh_waits (p : Part)
    (h : ∀ chs : List ChannelNo, p.sense.scan.fresh ≠ some { channels := chs, left := some 0 }) :
    p.answerFresh = p := by
  unfold Part.answerFresh
  split
  next chs f hf he => exact absurd hf (h chs)
  · rfl

/-- Settles O17. -/
theorem readSensorsAnswersOrHolds : Obligations.ReadSensorsAnswersOrHolds := by
  constructor
  · intro s dt tag flags set hs i q named
    have hin : q.link.inbox = [] := heard_inbox i s dt ⟨0x30, tag, [flags, set]⟩ hs rfl
    have answer (st : Status) (d : List Byte) (t : Part)
        (hk : q.takeReadSensors [flags, set] = (some ⟨st, d⟩, t)) (ht : t.link.inbox = []) : Answers i s st d t :=
      answers_of_takeKind i s dt ⟨0x30, tag, [flags, set]⟩ st d t hs rfl (by simp) hk ht
    refine ⟨fun h => answer _ _ _ (takeReadSensors_range q flags set h) hin, fun h6 h7 => ?_⟩
    have hset : ¬(set.getLsbD 6 = true ∨ set.getLsbD 7 = true) := by rw [h6, h7]; decide
    refine ⟨fun hf hc => ?_, fun hf => ?_⟩
    · exact becomes_of_held i s dt ⟨0x30, tag, [flags, set]⟩ _ hs rfl (by simp)
        (takeReadSensors_held q flags set hset hf hc)
    · obtain ⟨hbit, hblocked, hclear⟩ := beamLevelByte_spec q
      refine ⟨named.map q.channelData, q.inputData, q.beamLevelByte, ?_, rfl, hbit, hblocked, hclear, rfl, ?_, ?_, ?_⟩
      · rw [← List.flatMap_def]
        exact answer _ _ _ (takeReadSensors_atOnce q flags set hset hf) hin
      · intro t hne ht
        have ht0 : t ≠ 0 := fun h0 => hne (by rw [ht, h0])
        change be16 (flowRate _ _ q.sense.flowPeriod) = _
        rw [ht, flowRate_of_period _ _ _ ht0]
        rfl
      · intro hnone
        change be16 (flowRate _ _ q.sense.flowPeriod) = _
        rw [hnone, flowRate]
        decide
      · change be16 q.sense.tachCount ++ nat16 q.tachAge = _
        rw [be16_eq_nat16]
        rfl
  · intro s dt hr p
    have hrow : Becomes (.readSensorsFreshReply dt) s p.answerFresh := becomes_row _ s dt Part.answerFresh hr rfl
    refine ⟨fun chs f hfresh hex => ?_, fun hnot => ?_⟩
    · rwa [answerFresh_done p chs f hfresh hex] at hrow
    · rwa [answerFresh_waits p hnot] at hrow

end Sys2Proof.Machine

namespace Sys2Proof.Machine

/-! The debounced and filtered inputs, all of one kind: a pin, the time its levels take, the state they set, and what follows
(R41 to R43, log 9). -/

/-- An input: the time for which a level must stand, its pin, the state it sets, and what a told level and a change of the
state make of the part. A told level touches the pin alone, and a change leaves the pin and the clock. -/
structure Input (α : Type) [DecidableEq α] where
  time : α → Nat
  pin : Part → Pin α
  state : Part → Option α
  tell : α → Part → Part
  become : α → Part → Part
  time_pos : ∀ v, 0 < time v
  pin_tell : ∀ v p, pin (tell v p) = (pin p).tell p.clock.now v
  state_tell : ∀ v p, state (tell v p) = state p
  clock_tell : ∀ v p, (tell v p).clock = p.clock
  tell_same : ∀ v p, (pin p).level = some v → tell v p = p
  pin_become : ∀ v p, pin (become v p) = pin p
  state_become : ∀ v p, state (become v p) = some v
  clock_become : ∀ v p, (become v p).clock = p.clock

section
variable {α : Type} [DecidableEq α]

/-- The change that is due: the level told, where it has been held for its time and is not the state. -/
def Input.due (u : Input α) (p : Part) : Option α :=
  (u.pin p).level.filter fun v => (u.pin p).held p.clock.now (u.time v) v && u.state p != some v

/-- A row tells a level; a change that the level before it had earned is taken first. -/
def Input.told (u : Input α) (v : α) (p : Part) : Part := u.tell v (takeDue (u.due p) u.become p)

/-- A row of an input, which takes its level as the new state where the state before lets it. -/
def Input.row (u : Input α) (takes : Option α → Prop) [DecidablePred takes] (v : α) (p : Part) : Part :=
  if takes (u.state (u.told v p)) ∧ (u.pin (u.told v p)).held (u.told v p).clock.now (u.time v) v then
    u.become v (u.told v p)
  else u.told v p

/-- No change is due: a level told that is not the state has not stood for its time yet. -/
abbrev Input.quiet (u : Input α) (p : Part) : Prop :=
  ∀ v ∈ (u.pin p).level, u.state p ≠ some v → p.clock.now < (u.pin p).since + u.time v

/-- A change is due: the level told has stood for its time and is not the state. -/
abbrev Input.earned (u : Input α) (p : Part) (v : α) : Prop := (u.pin p).earned p.clock.now (u.time v) (u.state p) v

theorem held_iff (now time : Nat) (v : α) (pin : Pin α) :
    pin.held now time v = true ↔ pin.level = some v ∧ pin.since + time ≤ now := by
  simp [Pin.held]

theorem Input.due_quiet (u : Input α) (p : Part) (h : u.quiet p) : u.due p = none := by
  rw [Input.due, Option.filter_eq_none_iff]
  intro v hv
  simp only [Bool.and_eq_true, held_iff, bne_iff_ne, ne_eq, not_and, not_not]
  intro hheld
  by_contra hs
  have := h v hv hs
  omega

theorem Input.due_earned (u : Input α) (p : Part) (v : α) (h : u.earned p v) : u.due p = some v := by
  obtain ⟨hl, hs, ht⟩ := h
  rw [Input.due, Option.filter_eq_some_iff]
  exact ⟨hl, by simp [held_iff, hl, ht, hs]⟩

theorem Input.told_quiet (u : Input α) (v : α) (p : Part) (h : u.quiet p) : u.told v p = u.tell v p := by
  rw [Input.told, u.due_quiet p h, takeDue]

theorem Input.told_earned (u : Input α) (v w : α) (p : Part) (h : u.earned p w) :
    u.told v p = u.tell v (u.become w p) := by
  rw [Input.told, u.due_earned p w h, takeDue]

/-- A level just told has been held exactly if it had stood before. -/
theorem Input.held_tell (u : Input α) (v : α) (p : Part) :
    (u.pin (u.tell v p)).held (u.tell v p).clock.now (u.time v) v = true ↔
      (u.pin p).stood p.clock.now (u.time v) v := by
  rw [u.pin_tell, u.clock_tell]
  exact Machine.held_tell _ _ _ _ (u.time_pos v)

variable (u : Input α) (takes : Option α → Prop) [DecidablePred takes]

/-- A level that has not stood for its time is told, and nothing else happens. -/
theorem Input.row_short (v : α) (p : Part) (h : u.quiet p) (hs : ¬(u.pin p).stood p.clock.now (u.time v) v) :
    u.row takes v p = u.tell v p := by
  rw [Input.row, u.told_quiet v p h, if_neg]
  rw [u.held_tell]
  exact fun hc => hs hc.2

/-- A row whose state takes no level of it tells the level, and nothing else happens. -/
theorem Input.row_untaken (v : α) (p : Part) (h : u.quiet p) (ht : ¬takes (u.state p)) :
    u.row takes v p = u.tell v p := by
  rw [Input.row, u.told_quiet v p h, if_neg]
  rw [u.state_tell]
  exact fun hc => ht hc.1

/-- A change that the level before had earned is taken, and then the row's own level is told. -/
theorem Input.row_earned (v w : α) (p : Part) (hown : ¬takes (some v)) (h : u.earned p w) :
    u.row takes v p = u.tell v (u.become w p) := by
  rw [Input.row, u.told_earned v w p h, if_neg]
  rintro ⟨ht, hheld⟩
  rw [u.state_tell, u.state_become] at ht
  rw [u.held_tell, u.pin_become, u.clock_become] at hheld
  obtain ⟨hl, -, -⟩ := h
  rcases hheld.1 with hnone | hv
  · rw [hnone] at hl
    cases hl
  · rw [hv] at hl
    cases hl
    exact hown ht

/-- The level's own row takes the change that it has earned. -/
theorem Input.row_earned_own (v : α) (p : Part) (hown : ¬takes (some v)) (h : u.earned p v) :
    u.row takes v p = u.become v p := by
  rw [u.row_earned takes v v p hown h, u.tell_same]
  rw [u.pin_become]
  exact h.1

/-- A level that has stood for its time, and that the state lets the row take, becomes the state. -/
theorem Input.row_stood (v : α) (p : Part) (ht : takes (u.state p)) (hown : ¬takes (some v))
    (hs : (u.pin p).stood p.clock.now (u.time v) v) : u.row takes v p = u.become v (u.tell v p) := by
  rcases hs.1 with hl | hl
  · have hquiet : u.quiet p := by
      intro w hw
      rw [hl] at hw
      cases hw
    rw [Input.row, u.told_quiet v p hquiet, if_pos]
    rw [u.state_tell, u.held_tell]
    exact ⟨ht, hs⟩
  · have hne : u.state p ≠ some v := fun he => hown (he ▸ ht)
    rw [u.row_earned_own takes v p hown ⟨hl, hne, hs.2⟩, u.tell_same v p hl]

end

/-! The six inputs. -/

/-- The freezer door (Table 2-6). -/
def doorInput : Input Door where
  time _ := doorTime
  pin p := p.sense.doorPin
  state p := p.sense.door
  tell := Part.tellDoor
  become := Part.doorBecomes
  time_pos _ := by decide
  pin_tell _ _ := rfl
  state_tell _ _ := rfl
  clock_tell _ _ := rfl
  tell_same v p h := by rw [Part.tellDoor, tell_same _ _ _ h]
  pin_become v p := by rw [(doorBecomes_frame v p).2.2]
  state_become v p := by rw [(doorBecomes_frame v p).2.2]
  clock_become v p := (doorBecomes_frame v p).1

/-- A paddle (Table 2-6). -/
def paddleInput (pad : Paddle) : Input PaddleState where
  time _ := paddleTime
  pin p := p.sense.paddlePin pad
  state p := p.sense.paddle pad
  tell := Part.tellPaddle pad
  become := Part.paddleBecomes pad
  time_pos _ := by decide
  pin_tell _ _ := by cases pad <;> rfl
  state_tell _ _ := by cases pad <;> rfl
  clock_tell _ _ := rfl
  tell_same v p h := tellPaddle_same pad v p h
  pin_become v p := by rw [(paddleBecomes_frame pad v p).2.2]; cases pad <;> rfl
  state_become v p := by rw [(paddleBecomes_frame pad v p).2.2]; cases pad <;> rfl
  clock_become v p := (paddleBecomes_frame pad v p).1

/-- The ejector home switch (Table 2-6). -/
def homeInput : Input Contact where
  time _ := switchTime
  pin p := p.sense.homePin
  state p := p.sense.home
  tell := Part.tellHome
  become := Part.homeBecomes
  time_pos _ := by decide
  pin_tell _ _ := rfl
  state_tell _ _ := rfl
  clock_tell _ _ := rfl
  tell_same v p h := tellHome_same v p h
  pin_become v p := by rw [(homeBecomes_frame v p).2.2]
  state_become v p := by rw [(homeBecomes_frame v p).2.2]
  clock_become v p := (homeBecomes_frame v p).1

/-- The chute-flap open switch (Table 2-6). -/
def flapInput : Input Contact where
  time _ := switchTime
  pin p := p.sense.flapPin
  state p := p.sense.flap
  tell := Part.tellFlap
  become := Part.flapBecomes
  time_pos _ := by decide
  pin_tell _ _ := rfl
  state_tell _ _ := rfl
  clock_tell _ _ := rfl
  tell_same v p h := by rw [Part.tellFlap, tell_same _ _ _ h]
  pin_become v p := by rw [(flapBecomes_frame v p).2.2]
  state_become v p := by rw [(flapBecomes_frame v p).2.2]
  clock_become v p := (flapBecomes_frame v p).1

/-- The level that a filtered state stands for (R43). -/
def BeamFilter.level : BeamFilter → BeamLevel
  | .full => .blocked
  | .notFull => .clear

theorem filteredBy_level (b : BeamFilter) : filteredBy b.level = b := by cases b <;> rfl

theorem level_filteredBy (l : BeamLevel) : (filteredBy l).level = l := by cases l <;> rfl

theorem beam_ne_iff (b : BeamFilter) (l : BeamLevel) : some b.level ≠ some l ↔ b ≠ filteredBy l := by
  cases b <;> cases l <;> decide

/-- The bin beam, its filtered state as the level that gives it (R43). -/
def beamInput : Input BeamLevel where
  time := beamTime
  pin p := p.sense.beamPin
  state p := some p.sense.beam.level
  tell := Part.tellBeam
  become := Part.beamBecomes
  time_pos v := by cases v <;> decide
  pin_tell _ _ := rfl
  state_tell _ _ := rfl
  clock_tell _ _ := rfl
  tell_same v p h := by rw [Part.tellBeam, tell_same _ _ _ h]
  pin_become v p := by rw [(beamBecomes_frame v p).2.2]
  state_become v p := by rw [(beamBecomes_frame v p).2.2]; exact congrArg some (level_filteredBy v)
  clock_become v p := (beamBecomes_frame v p).1

/-! The rows of the inputs, as rows of that kind. -/

/-- A change of a contact is taken where the state is another one (R41). -/
abbrev otherThan {α : Type} (v : α) (st : Option α) : Prop := st.isSome = true ∧ st ≠ some v

theorem firstRead_door (d : Door) (p : Part) : p.firstRead (.door d) = doorInput.row (· = none) d p := rfl

theorem firstRead_paddle (pad : Paddle) (st : PaddleState) (p : Part) :
    p.firstRead (.paddle pad st) = (paddleInput pad).row (· = none) st p := rfl

theorem firstRead_home (c : Contact) (p : Part) : p.firstRead (.home c) = homeInput.row (· = none) c p := rfl

theorem firstRead_flap (c : Contact) (p : Part) : p.firstRead (.flap c) = flapInput.row (· = none) c p := rfl

theorem doorOpening_row (p : Part) : p.doorOpening = doorInput.row (· = some .closed) .opened p := rfl

theorem doorClosing_row (p : Part) : p.doorClosing = doorInput.row (· = some .opened) .closed p := rfl

theorem press_row (pad : Paddle) (p : Part) : p.press pad = (paddleInput pad).row (· = some .released) .pressed p := rfl

theorem unpress_row (pad : Paddle) (p : Part) :
    p.unpress pad = (paddleInput pad).row (· = some .pressed) .released p := rfl

theorem homeSwitch_row (c : Contact) (p : Part) : p.homeSwitch c = homeInput.row (otherThan c) c p := by
  simp only [Input.row, otherThan, and_assoc]
  rfl

theorem flapSwitch_row (c : Contact) (p : Part) : p.flapSwitch c = flapInput.row (otherThan c) c p := by
  simp only [Input.row, otherThan, and_assoc]
  rfl

theorem beamDue_input (p : Part) : p.beamDue = beamInput.due p := by
  unfold Part.beamDue Input.due
  congr 1
  funext l
  congr 1
  rw [Bool.eq_iff_iff, bne_iff_ne, bne_iff_ne]
  exact (beam_ne_iff _ _).symm

theorem beamAt_row (l : BeamLevel) (p : Part) : p.beamAt l = beamInput.row (· ≠ some l) l p := by
  have htold : p.beamTold l = beamInput.told l p := by
    rw [Part.beamTold, beamDue_input]
    rfl
  rw [Part.beamAt, htold, Input.row]
  simp only [← beam_ne_iff]
  rfl

end Sys2Proof.Machine

namespace Sys2Proof.Machine

/-! First readings (R42). -/

/-- A level that has stood is told without a new start of its time. -/
theorem tell_of_stood {α : Type} [DecidableEq α] (now time : Nat) (v : α) (pin : Pin α) (h : pin.stood now time v) :
    pin.tell now v = { pin with level := some v } :=
  (tell_eq_told now v pin).trans (told_of_stood now time v pin h)

theorem tellDoor_told (d : Door) (p : Part) :
    p.tellDoor d = { p with sense.doorPin := p.sense.doorPin.told p.clock.now d } := by
  rw [Part.tellDoor, tell_eq_told]

theorem tellHome_told (c : Contact) (p : Part) :
    p.tellHome c = { p with sense.homePin := p.sense.homePin.told p.clock.now c } := by
  rw [Part.tellHome, tell_eq_told]

theorem tellFlap_told (c : Contact) (p : Part) :
    p.tellFlap c = { p with sense.flapPin := p.sense.flapPin.told p.clock.now c } := by
  rw [Part.tellFlap, tell_eq_told]

theorem tellBeam_told (l : BeamLevel) (p : Part) :
    p.tellBeam l = { p with sense.beamPin := p.sense.beamPin.told p.clock.now l } := by
  rw [Part.tellBeam, tell_eq_told]

theorem tellWater_told (st : PaddleState) (p : Part) :
    p.tellPaddle .water st = { p with sense.waterPin := p.sense.waterPin.told p.clock.now st } := by
  rw [Part.tellPaddle, Sense.tellPaddle, tell_eq_told]

theorem tellIce_told (st : PaddleState) (p : Part) :
    p.tellPaddle .ice st = { p with sense.icePin := p.sense.icePin.told p.clock.now st } := by
  rw [Part.tellPaddle, Sense.tellPaddle, tell_eq_told]

theorem doorBecomes_first (d : Door) (p : Part) (h : p.sense.door = none) :
    p.doorBecomes d = { p with sense.door := some d } := by
  simp only [Part.doorBecomes, h]

theorem paddleBecomes_first (pad : Paddle) (st : PaddleState) (p : Part) (h : p.sense.paddle pad = none) :
    p.paddleBecomes pad st = { p with sense := p.sense.setPaddle st pad } := by
  simp only [Part.paddleBecomes, h]

theorem homeBecomes_first (c : Contact) (p : Part) (h : p.sense.home = none) :
    p.homeBecomes c = Part.homeFirstRead { p with sense.home := some c } := if_pos h

theorem flapBecomes_first (c : Contact) (p : Part) (h : p.sense.flap = none) :
    p.flapBecomes c = Part.flapFirstRead { p with sense.flap := some c } := if_pos h

theorem homeFirstRead_elsewhere (p : Part) (h : p.ice.state ≠ .homing) : p.homeFirstRead = p := if_neg h

/-- An arm found at home ends the homing (R96). -/
theorem homeFirstRead_made (p : Part) (h : p.ice.state = .homing) (hs : p.sense.home = some .made) :
    p.homeFirstRead = p.homingSucceeds := by
  rw [Part.homeFirstRead, if_pos h, Part.homeNow, hs]

theorem homingSucceeds_ice (p : Part) :
    p.homingSucceeds.ice =
      { p.ice.stopEjector with
        state := .freezing, homingDeadline := none, moldLoaded := true, freezeStart := some p.clock.partSeconds,
        offHome := false, coldRunStart := none, notedSensor := false } := rfl

/-- An arm found away from home is driven, and the homing deadline starts (R96). -/
theorem homeFirstRead_released (p : Part) (h : p.ice.state = .homing) (hs : p.sense.home = some .released) :
    p.homeFirstRead =
      { p with
        ice.ejector := true
        ice.homingDeadline := some (p.clock.now + p.supervision.params.ejectLimit * second) } := by
  rw [Part.homeFirstRead, if_pos h, Part.homeNow, hs]

theorem flapCloses_outlet (p : Part) :
    p.flapCloses.outlet =
      { p.outlet.restFlap .closed with
        ductEnd :=
          if p.supervision.params.ductAfter = 0 then p.outlet.ductEnd
          else some (p.clock.now + p.supervision.params.ductAfter * second) } := by
  by_cases h : p.supervision.params.ductAfter = 0
  · simp only [Part.flapCloses, Part.startDuct, h, if_true]
    rfl
  · simp only [Part.flapCloses, Part.startDuct, h, if_false]

/-- A flap found closed is CLOSED, with both outputs released (R131). -/
theorem flapFirstRead_released (p : Part) (hs : p.sense.flap = some .released) :
    p.flapFirstRead.outlet.flap = .closed ∧ p.flapFirstRead.outlet.flapOpenOut = false ∧
      p.flapFirstRead.outlet.flapCloseOut = false := by
  rw [Part.flapFirstRead, hs]
  dsimp only
  split
  · exact ⟨rfl, rfl, rfl⟩
  · rw [flapCloses_outlet]
    exact ⟨rfl, rfl, rfl⟩

theorem flapFirstRead_made (p : Part) (hs : p.sense.flap = some .made) : p.flapFirstRead = p.beginClosing := by
  rw [Part.flapFirstRead, hs]

/-- A closing that begins is driven for 1.5 s, with H4 demanded (R130, R142). -/
theorem beginClosing_spec (p : Part) :
    p.beginClosing.outlet =
        { p.outlet with
          ductEnd := none, flap := .closing, flapOpenOut := false, flapCloseOut := true,
          flapDeadline := some (p.clock.now + 1500000) } ∧
      p.beginClosing.loads.heaters[(4 : HeaterNo)].ownerDemand = true ∧ p.beginClosing.pool = p.pool := by
  refine ⟨rfl, ?_, rfl⟩
  change (p.loads.update 4 Heater.raiseOwner).heaters[(4 : HeaterNo)].ownerDemand = true
  rw [heaters_update, if_pos rfl]
  exact (raiseOwner_spec _).1

/-- Settles O19: a first reading is a row of its input, which `Input.row_stood` takes and `Input.row_untaken` does not. -/
theorem firstReadingsSetTheSwitches : Obligations.FirstReadingsSetTheSwitches := by
  intro s dt hr p now
  have row (r : FirstReading) : Becomes (.switchFirstReading dt r) s (p.firstRead r).settle :=
    becomes_row _ s dt (fun p => (p.firstRead r).settle) hr rfl
  have read {α : Type} {st : Option α} (h : st.isSome = true) : ¬st = none := by
    rintro rfl
    exact Bool.false_ne_true h
  have water (st : PaddleState) := row (.paddle .water st)
  have ice (st : PaddleState) := row (.paddle .ice st)
  refine ⟨fun d => ⟨fun hn hs => ?_, fun hn hq => ?_⟩,
    fun st => ⟨fun hn hs => ?_, fun hn hq => ?_, fun hn hs => ?_, fun hn hq => ?_⟩, fun c => ?_, fun c => ?_⟩
  · have h := row (.door d)
    rw [firstRead_door, Input.row_stood doorInput (· = none) d p hn (by simp) hs] at h
    change Becomes _ _ (Part.doorBecomes d (p.tellDoor d)).settle at h
    rwa [doorBecomes_first d (p.tellDoor d) hn, Part.tellDoor, tell_of_stood _ _ _ _ hs] at h
  · have h := row (.door d)
    rw [firstRead_door, Input.row_untaken doorInput (· = none) d p hq (read hn)] at h
    rwa [← tellDoor_told]
  · have h := water st
    rw [firstRead_paddle, Input.row_stood (paddleInput .water) (· = none) st p hn (by simp) hs] at h
    change Becomes _ _ (Part.paddleBecomes .water st (p.tellPaddle .water st)).settle at h
    rwa [paddleBecomes_first .water st (p.tellPaddle .water st) hn, Part.tellPaddle, Sense.tellPaddle,
      tell_of_stood _ _ _ _ hs] at h
  · have h := water st
    rw [firstRead_paddle, Input.row_untaken (paddleInput .water) (· = none) st p hq (read hn)] at h
    rwa [← tellWater_told]
  · have h := ice st
    rw [firstRead_paddle, Input.row_stood (paddleInput .ice) (· = none) st p hn (by simp) hs] at h
    change Becomes _ _ (Part.paddleBecomes .ice st (p.tellPaddle .ice st)).settle at h
    rwa [paddleBecomes_first .ice st (p.tellPaddle .ice st) hn, Part.tellPaddle, Sense.tellPaddle,
      tell_of_stood _ _ _ _ hs] at h
  · have h := ice st
    rw [firstRead_paddle, Input.row_untaken (paddleInput .ice) (· = none) st p hq (read hn)] at h
    rwa [← tellIce_told]
  · refine ⟨_, row (.home c), fun hn hq => ?_, fun hn hs => ?_⟩
    · rw [firstRead_home, Input.row_untaken homeInput (· = none) c p hq (read hn)]
      exact tellHome_told c p
    · intro read
      have hrow : p.firstRead (.home c) = Part.homeFirstRead { p with sense := read } := by
        rw [firstRead_home, Input.row_stood homeInput (· = none) c p hn (by simp) hs]
        change Part.homeBecomes c (p.tellHome c) = _
        rw [homeBecomes_first c (p.tellHome c) hn, Part.tellHome, tell_of_stood _ _ _ _ hs]
      rw [hrow]
      obtain ⟨-, -, hsense, -⟩ := (homeFirstRead_frame { p with sense := read }).1
      refine ⟨hsense, fun he => homeFirstRead_elsewhere _ he, ?_, ?_⟩
      · rintro hh rfl
        rw [homeFirstRead_made { p with sense := read } hh rfl]
        exact ⟨rfl, rfl, rfl⟩
      · rintro hh rfl
        rw [homeFirstRead_released { p with sense := read } hh rfl]
        exact ⟨hh, rfl, rfl⟩
  · refine ⟨_, row (.flap c), fun hn hq => ?_, fun hn hs => ?_⟩
    · rw [firstRead_flap, Input.row_untaken flapInput (· = none) c p hq (read hn)]
      exact tellFlap_told c p
    · have hrow : p.firstRead (.flap c) =
          Part.flapFirstRead { p with sense := { p.sense with flap := some c, flapPin.level := some c } } := by
        rw [firstRead_flap, Input.row_stood flapInput (· = none) c p hn (by simp) hs]
        change Part.flapBecomes c (p.tellFlap c) = _
        rw [flapBecomes_first c (p.tellFlap c) hn, Part.tellFlap, tell_of_stood _ _ _ _ hs]
      rw [hrow]
      obtain ⟨-, -, hsense, -⟩ := (flapFirstRead_frame
        { p with sense := { p.sense with flap := some c, flapPin.level := some c } }).1
      refine ⟨hsense, ?_, ?_⟩
      · rintro rfl
        exact flapFirstRead_released _ rfl
      · rintro rfl
        obtain ⟨houtlet, hheat, -⟩ := beginClosing_spec
          { p with sense := { p.sense with flap := some .made, flapPin.level := some .made } }
        rw [flapFirstRead_made _ rfl, houtlet]
        exact ⟨rfl, rfl, rfl, hheat⟩

end Sys2Proof.Machine

namespace Sys2Proof.Machine

/-! Short changes are dropped, and earned ones taken, whichever row comes (R41 to R43, log 9). -/

section
variable {α : Type} [DecidableEq α] (u : Input α) (s : State) (dt : Nat)

/-- A row of an input, and what follows at once. -/
theorem Input.becomes_row (takes : Option α → Prop) [DecidablePred takes] (v : α) (i : Instr)
    (hr : s.part.resetting = none) (h : exec i s = s.take dt fun p => (u.row takes v p).settle) :
    Becomes i s (u.row takes v (s.later dt)).settle :=
  Machine.becomes_row i s dt (fun p => (u.row takes v p).settle) hr h

/-- A row whose level has not stood for its time tells the level (R41). -/
theorem Input.becomes_short (takes : Option α → Prop) [DecidablePred takes] (v : α) (i : Instr)
    (hr : s.part.resetting = none) (h : exec i s = s.take dt fun p => (u.row takes v p).settle)
    (hq : u.quiet (s.later dt)) (hs : ¬(u.pin (s.later dt)).stood (s.later dt).clock.now (u.time v) v) :
    Becomes i s (u.tell v (s.later dt)).settle := by
  rw [← u.row_short takes v _ hq hs]
  exact u.becomes_row s dt takes v i hr h

/-- The level's own row takes the change that it has earned (R41). -/
theorem Input.becomes_own (takes : Option α → Prop) [DecidablePred takes] (v : α) (i : Instr)
    (hr : s.part.resetting = none) (h : exec i s = s.take dt fun p => (u.row takes v p).settle)
    (hown : ¬takes (some v)) (he : u.earned (s.later dt) v) : Becomes i s (u.become v (s.later dt)).settle := by
  rw [← u.row_earned_own takes v _ hown he]
  exact u.becomes_row s dt takes v i hr h

/-- A row takes the change that the level before it had earned, and then tells its own level (log 9). -/
theorem Input.becomes_earned (takes : Option α → Prop) [DecidablePred takes] (v w : α) (i : Instr)
    (hr : s.part.resetting = none) (h : exec i s = s.take dt fun p => (u.row takes v p).settle)
    (hown : ¬takes (some v)) (he : u.earned (s.later dt) w) :
    Becomes i s (u.tell v (u.become w (s.later dt))).settle := by
  rw [← u.row_earned takes v w _ hown he]
  exact u.becomes_row s dt takes v i hr h

end

/-! The rows of the inputs by what exec makes of them. -/

section
variable (s : State) (dt : Nat)

theorem exec_firstDoor (d : Door) : exec (.switchFirstReading dt (.door d)) s =
    s.take dt fun p => (doorInput.row (· = none) d p).settle := rfl

theorem exec_doorOpening : exec (.doorOpening dt) s =
    s.take dt fun p => (doorInput.row (· = some .closed) .opened p).settle := rfl

theorem exec_doorClosing : exec (.doorClosing dt) s =
    s.take dt fun p => (doorInput.row (· = some .opened) .closed p).settle := rfl

theorem exec_firstPaddle (pad : Paddle) (st : PaddleState) : exec (.switchFirstReading dt (.paddle pad st)) s =
    s.take dt fun p => ((paddleInput pad).row (· = none) st p).settle := rfl

theorem exec_paddlePress (pad : Paddle) : exec (.paddlePress dt pad) s =
    s.take dt fun p => ((paddleInput pad).row (· = some .released) .pressed p).settle := rfl

theorem exec_paddleRelease (pad : Paddle) : exec (.paddleRelease dt pad) s =
    s.take dt fun p => ((paddleInput pad).row (· = some .pressed) .released p).settle := rfl

theorem exec_firstHome (c : Contact) : exec (.switchFirstReading dt (.home c)) s =
    s.take dt fun p => (homeInput.row (· = none) c p).settle := rfl

theorem exec_homeSwitch (c : Contact) : exec (.homeSwitchChange dt c) s =
    s.take dt fun p => (homeInput.row (otherThan c) c p).settle := by
  simp only [← homeSwitch_row]
  rfl

theorem exec_firstFlap (c : Contact) : exec (.switchFirstReading dt (.flap c)) s =
    s.take dt fun p => (flapInput.row (· = none) c p).settle := rfl

theorem exec_flapSwitch (c : Contact) : exec (.flapSwitchChange dt c) s =
    s.take dt fun p => (flapInput.row (otherThan c) c p).settle := by
  simp only [← flapSwitch_row]
  rfl

theorem exec_beam (l : BeamLevel) : exec (.beamFilterChange dt l) s =
    s.take dt fun p => (beamInput.row (· ≠ some l) l p).settle := by
  simp only [← beamAt_row]
  rfl

/-- The row of a change of the door to a level. -/
def doorRow : Door → Instr
  | .opened => .doorOpening dt
  | .closed => .doorClosing dt

/-- The row of a change of a paddle to a level. -/
def paddleRow (pad : Paddle) : PaddleState → Instr
  | .pressed => .paddlePress dt pad
  | .released => .paddleRelease dt pad

variable (hr : s.part.resetting = none)
include hr

theorem door_short (d : Door) (hq : doorInput.quiet (s.later dt))
    (hs : ¬(s.later dt).sense.doorPin.stood (s.later dt).clock.now doorTime d) :
    let told := Part.settle ((s.later dt).tellDoor d)
    Becomes (.switchFirstReading dt (.door d)) s told ∧ (d = .opened → Becomes (.doorOpening dt) s told) ∧
      (d = .closed → Becomes (.doorClosing dt) s told) := by
  refine ⟨doorInput.becomes_short s dt _ d _ hr (exec_firstDoor s dt d) hq hs, ?_, ?_⟩
  · rintro rfl
    exact doorInput.becomes_short s dt _ _ _ hr (exec_doorOpening s dt) hq hs
  · rintro rfl
    exact doorInput.becomes_short s dt _ _ _ hr (exec_doorClosing s dt) hq hs

theorem door_own (d : Door) (he : doorInput.earned (s.later dt) d) :
    let next := Part.settle ((s.later dt).doorBecomes d)
    Becomes (.switchFirstReading dt (.door d)) s next ∧ Becomes (doorRow dt d) s next := by
  refine ⟨doorInput.becomes_own s dt _ d _ hr (exec_firstDoor s dt d) (by simp) he, ?_⟩
  cases d
  · exact doorInput.becomes_own s dt _ _ _ hr (exec_doorOpening s dt) (by simp) he
  · exact doorInput.becomes_own s dt _ _ _ hr (exec_doorClosing s dt) (by simp) he

theorem door_earned (d e : Door) (he : doorInput.earned (s.later dt) d) :
    let next := Part.settle (((s.later dt).doorBecomes d).tellDoor e)
    Becomes (.switchFirstReading dt (.door e)) s next ∧ Becomes (doorRow dt e) s next := by
  refine ⟨doorInput.becomes_earned s dt _ e d _ hr (exec_firstDoor s dt e) (by simp) he, ?_⟩
  cases e
  · exact doorInput.becomes_earned s dt _ _ d _ hr (exec_doorOpening s dt) (by simp) he
  · exact doorInput.becomes_earned s dt _ _ d _ hr (exec_doorClosing s dt) (by simp) he

theorem paddle_short (pad : Paddle) (st : PaddleState) (hq : (paddleInput pad).quiet (s.later dt))
    (hs : ¬((s.later dt).sense.paddlePin pad).stood (s.later dt).clock.now paddleTime st) :
    let told := Part.settle ((s.later dt).tellPaddle pad st)
    Becomes (.switchFirstReading dt (.paddle pad st)) s told ∧
      (st = .pressed → Becomes (.paddlePress dt pad) s told) ∧
      (st = .released → Becomes (.paddleRelease dt pad) s told) := by
  refine ⟨(paddleInput pad).becomes_short s dt _ st _ hr (exec_firstPaddle s dt pad st) hq hs, ?_, ?_⟩
  · rintro rfl
    exact (paddleInput pad).becomes_short s dt _ _ _ hr (exec_paddlePress s dt pad) hq hs
  · rintro rfl
    exact (paddleInput pad).becomes_short s dt _ _ _ hr (exec_paddleRelease s dt pad) hq hs

theorem paddle_own (pad : Paddle) (st : PaddleState) (he : (paddleInput pad).earned (s.later dt) st) :
    let next := Part.settle ((s.later dt).paddleBecomes pad st)
    Becomes (.switchFirstReading dt (.paddle pad st)) s next ∧ Becomes (paddleRow dt pad st) s next := by
  refine ⟨(paddleInput pad).becomes_own s dt _ st _ hr (exec_firstPaddle s dt pad st) (by simp) he, ?_⟩
  cases st
  · exact (paddleInput pad).becomes_own s dt _ _ _ hr (exec_paddlePress s dt pad) (by simp) he
  · exact (paddleInput pad).becomes_own s dt _ _ _ hr (exec_paddleRelease s dt pad) (by simp) he

theorem paddle_earned (pad : Paddle) (st e : PaddleState) (he : (paddleInput pad).earned (s.later dt) st) :
    let next := Part.settle (((s.later dt).paddleBecomes pad st).tellPaddle pad e)
    Becomes (.switchFirstReading dt (.paddle pad e)) s next ∧ Becomes (paddleRow dt pad e) s next := by
  refine ⟨(paddleInput pad).becomes_earned s dt _ e st _ hr (exec_firstPaddle s dt pad e) (by simp) he, ?_⟩
  cases e
  · exact (paddleInput pad).becomes_earned s dt _ _ st _ hr (exec_paddlePress s dt pad) (by simp) he
  · exact (paddleInput pad).becomes_earned s dt _ _ st _ hr (exec_paddleRelease s dt pad) (by simp) he

end

/-! The tick brings an earned change (log 1, 9). -/

/-- The row of a pin's change that is due, or of its first reading. -/
theorem pinEvent_earned {α : Type} [DecidableEq α] (now time : Nat) (state : Option α) (pin : Pin α)
    (first : α → FirstReading) (change : α → Instr) (v : α) (h : pin.earned now time state v) :
    pinEvent now time state pin first change =
      [if state.isNone then .switchFirstReading 0 (first v) else change v] := by
  rw [pinEvent, (due_eq_some now time state pin v).2 h]

theorem mem_dueEvents_of_pin (p : Part) (i : Instr) (h : i ∈ p.pinEvents) : i ∈ p.dueEvents := by
  simp [Part.dueEvents, h]

theorem door_due (p : Part) (d : Door) (h : p.sense.doorPin.earned p.clock.now doorTime p.sense.door d) :
    (if p.sense.door.isNone then .switchFirstReading 0 (.door d) else doorChange d) ∈ p.dueEvents := by
  refine mem_dueEvents_of_pin p _ ?_
  simp [Part.pinEvents, pinEvent_earned _ _ _ _ _ _ d h]

theorem paddle_due (p : Part) (pad : Paddle) (st : PaddleState)
    (h : (p.sense.paddlePin pad).earned p.clock.now paddleTime (p.sense.paddle pad) st) :
    (if (p.sense.paddle pad).isNone then .switchFirstReading 0 (.paddle pad st) else paddleChange pad st) ∈
      p.dueEvents := by
  refine mem_dueEvents_of_pin p _ ?_
  cases pad
  · have hev := pinEvent_earned _ _ p.sense.waterPaddle p.sense.waterPin (.paddle .water) (paddleChange .water) st h
    simp [Part.pinEvents, hev, Sense.paddle]
  · have hev := pinEvent_earned _ _ p.sense.icePaddle p.sense.icePin (.paddle .ice) (paddleChange .ice) st h
    simp [Part.pinEvents, hev, Sense.paddle]

theorem home_due (p : Part) (c : Contact) (h : p.sense.homePin.earned p.clock.now switchTime p.sense.home c) :
    (if p.sense.home.isNone then .switchFirstReading 0 (.home c) else .homeSwitchChange 0 c) ∈ p.dueEvents := by
  refine mem_dueEvents_of_pin p _ ?_
  simp [Part.pinEvents, pinEvent_earned _ _ _ _ _ _ c h]

theorem flap_due (p : Part) (c : Contact) (h : p.sense.flapPin.earned p.clock.now switchTime p.sense.flap c) :
    (if p.sense.flap.isNone then .switchFirstReading 0 (.flap c) else .flapSwitchChange 0 c) ∈ p.dueEvents := by
  refine mem_dueEvents_of_pin p _ ?_
  simp [Part.pinEvents, pinEvent_earned _ _ _ _ _ _ c h]

theorem beam_due (p : Part) (l : BeamLevel) (h : beamInput.earned p l) : .beamFilterChange 0 l ∈ p.dueEvents := by
  refine mem_dueEvents_of_pin p _ ?_
  have he : p.beamEvent = [.beamFilterChange 0 l] := by
    rw [Part.beamEvent, beamDue_input, beamInput.due_earned p l h]
  simp [Part.pinEvents, he]

/-- A door whose level has stood has its first reading due, or its change (R41, R42). -/
theorem door_dueRows (p : Part) (d : Door) (hl : p.sense.doorPin.level = some d)
    (ht : p.sense.doorPin.since + 100000 ≤ p.clock.now) :
    (p.sense.door = none → .switchFirstReading 0 (.door d) ∈ p.dueEvents) ∧
      (p.sense.door = some .closed → d = .opened → .doorOpening 0 ∈ p.dueEvents) ∧
      (p.sense.door = some .opened → d = .closed → .doorClosing 0 ∈ p.dueEvents) := by
  have due (hne : p.sense.door ≠ some d) := door_due p d ⟨hl, hne, ht⟩
  refine ⟨fun h => ?_, ?_, ?_⟩
  · simpa [h] using due
  · rintro h rfl
    simpa [h, doorChange] using due
  · rintro h rfl
    simpa [h, doorChange] using due

/-- A paddle whose level has stood has its first reading due, or its change (R41, R42). -/
theorem paddle_dueRows (p : Part) (pad : Paddle) (st : PaddleState) (hl : (p.sense.paddlePin pad).level = some st)
    (ht : (p.sense.paddlePin pad).since + 30000 ≤ p.clock.now) :
    (p.sense.paddle pad = none → .switchFirstReading 0 (.paddle pad st) ∈ p.dueEvents) ∧
      (p.sense.paddle pad = some .released → st = .pressed → .paddlePress 0 pad ∈ p.dueEvents) ∧
      (p.sense.paddle pad = some .pressed → st = .released → .paddleRelease 0 pad ∈ p.dueEvents) := by
  have due (hne : p.sense.paddle pad ≠ some st) := paddle_due p pad st ⟨hl, hne, ht⟩
  refine ⟨fun h => ?_, ?_, ?_⟩
  · simpa [h] using due
  · rintro h rfl
    simpa [h, paddleChange] using due
  · rintro h rfl
    simpa [h, paddleChange] using due

theorem home_dueRows (p : Part) (c : Contact) (hl : p.sense.homePin.level = some c)
    (ht : p.sense.homePin.since + 10000 ≤ p.clock.now) :
    (p.sense.home = none → .switchFirstReading 0 (.home c) ∈ p.dueEvents) ∧
      (p.sense.home.isSome = true → p.sense.home ≠ some c → .homeSwitchChange 0 c ∈ p.dueEvents) := by
  have due (hne : p.sense.home ≠ some c) := home_due p c ⟨hl, hne, ht⟩
  refine ⟨fun h => by simpa [h] using due, fun h hne => ?_⟩
  have hmem := due hne
  rwa [if_neg (by simpa [Option.isSome_iff_ne_none] using h)] at hmem

theorem flap_dueRows (p : Part) (c : Contact) (hl : p.sense.flapPin.level = some c)
    (ht : p.sense.flapPin.since + 10000 ≤ p.clock.now) :
    (p.sense.flap = none → .switchFirstReading 0 (.flap c) ∈ p.dueEvents) ∧
      (p.sense.flap.isSome = true → p.sense.flap ≠ some c → .flapSwitchChange 0 c ∈ p.dueEvents) := by
  have due (hne : p.sense.flap ≠ some c) := flap_due p c ⟨hl, hne, ht⟩
  refine ⟨fun h => by simpa [h] using due, fun h hne => ?_⟩
  have hmem := due hne
  rwa [if_neg (by simpa [Option.isSome_iff_ne_none] using h)] at hmem

/-! The bin beam (R43, R110). -/

theorem beamTime_eq (l : BeamLevel) : beamTime l = if l = .blocked then 5000000 else 2000000 := by cases l <;> rfl

theorem filteredBy_eq (l : BeamLevel) : filteredBy l = if l = .blocked then .full else .notFull := by cases l <;> rfl

/-- A change to FULL sets the stock estimate to BIN_CAPACITY, but not in SETTLE; one to NOT FULL leaves it (R110). -/
theorem beamBecomes_stock (l : BeamLevel) (p : Part) :
    (p.beamBecomes l).ice.stock =
      if l = .blocked ∧ p.ice.state ≠ .settle then p.supervision.params.binCapacity else p.ice.stock := by
  unfold Part.beamBecomes Part.beamChanged
  rw [(harvestAttempt_frame _).2.2.2.1]
  cases l
  · by_cases h : p.ice.state = .settle <;> simp [filteredBy, h]
  · simp [filteredBy]

theorem beamInput_quiet (p : Part)
    (h : ∀ w ∈ p.sense.beamPin.level, p.sense.beam ≠ (if w = .blocked then .full else .notFull) →
      p.clock.now < p.sense.beamPin.since + (if w = .blocked then 5000000 else 2000000)) : beamInput.quiet p := by
  intro w hw hne
  have hlt := h w hw (by rw [← filteredBy_eq]; exact (beam_ne_iff _ _).1 hne)
  rw [← beamTime_eq] at hlt
  exact hlt

theorem beamInput_earned (p : Part) (l : BeamLevel) (hl : p.sense.beamPin.level = some l)
    (hne : p.sense.beam ≠ if l = .blocked then .full else .notFull)
    (ht : p.sense.beamPin.since + (if l = .blocked then 5000000 else 2000000) ≤ p.clock.now) :
    beamInput.earned p l := by
  rw [← filteredBy_eq] at hne
  rw [← beamTime_eq] at ht
  exact ⟨hl, (beam_ne_iff _ _).2 hne, ht⟩

theorem home_short (s : State) (dt : Nat) (hr : s.part.resetting = none) (c : Contact)
    (hq : homeInput.quiet (s.later dt))
    (hs : ¬(s.later dt).sense.homePin.stood (s.later dt).clock.now switchTime c) :
    let told := Part.settle ((s.later dt).tellHome c)
    Becomes (.switchFirstReading dt (.home c)) s told ∧ Becomes (.homeSwitchChange dt c) s told :=
  ⟨homeInput.becomes_short s dt _ c _ hr (exec_firstHome s dt c) hq hs,
    homeInput.becomes_short s dt _ c _ hr (exec_homeSwitch s dt c) hq hs⟩

theorem flap_short (s : State) (dt : Nat) (hr : s.part.resetting = none) (c : Contact)
    (hq : flapInput.quiet (s.later dt))
    (hs : ¬(s.later dt).sense.flapPin.stood (s.later dt).clock.now switchTime c) :
    let told := Part.settle ((s.later dt).tellFlap c)
    Becomes (.switchFirstReading dt (.flap c)) s told ∧ Becomes (.flapSwitchChange dt c) s told :=
  ⟨flapInput.becomes_short s dt _ c _ hr (exec_firstFlap s dt c) hq hs,
    flapInput.becomes_short s dt _ c _ hr (exec_flapSwitch s dt c) hq hs⟩

theorem homeBecomes_rows (s : State) (dt : Nat) (hr : s.part.resetting = none) (c : Contact)
    (he : homeInput.earned (s.later dt) c) :
    let q := (s.later dt).homeBecomes c
    Becomes (if (s.later dt).sense.home = none then .switchFirstReading dt (.home c) else .homeSwitchChange dt c) s
        q.settle ∧
      ∀ e : Contact, Becomes (.switchFirstReading dt (.home e)) s (q.tellHome e).settle ∧
        Becomes (.homeSwitchChange dt e) s (q.tellHome e).settle := by
  refine ⟨?_, fun e => ⟨homeInput.becomes_earned s dt _ e c _ hr (exec_firstHome s dt e) (by simp) he,
    homeInput.becomes_earned s dt _ e c _ hr (exec_homeSwitch s dt e) (by simp) he⟩⟩
  split
  · exact homeInput.becomes_own s dt _ c _ hr (exec_firstHome s dt c) (by simp) he
  · exact homeInput.becomes_own s dt _ c _ hr (exec_homeSwitch s dt c) (by simp) he

theorem flapBecomes_rows (s : State) (dt : Nat) (hr : s.part.resetting = none) (c : Contact)
    (he : flapInput.earned (s.later dt) c) :
    let q := (s.later dt).flapBecomes c
    Becomes (if (s.later dt).sense.flap = none then .switchFirstReading dt (.flap c) else .flapSwitchChange dt c) s
        q.settle ∧
      ∀ e : Contact, Becomes (.switchFirstReading dt (.flap e)) s (q.tellFlap e).settle ∧
        Becomes (.flapSwitchChange dt e) s (q.tellFlap e).settle := by
  refine ⟨?_, fun e => ⟨flapInput.becomes_earned s dt _ e c _ hr (exec_firstFlap s dt e) (by simp) he,
    flapInput.becomes_earned s dt _ e c _ hr (exec_flapSwitch s dt e) (by simp) he⟩⟩
  split
  · exact flapInput.becomes_own s dt _ c _ hr (exec_firstFlap s dt c) (by simp) he
  · exact flapInput.becomes_own s dt _ c _ hr (exec_flapSwitch s dt c) (by simp) he

end Sys2Proof.Machine

namespace Sys2Proof.Machine

/-! The pulse counters (R45, R46), and the statement. -/

theorem flowSilent_of_pulse (p : Part) (t : Nat) (h : p.sense.lastFlow = some t) :
    p.flowSilent = decide (t + 2000000 ≤ p.clock.now) := by
  rw [Part.flowSilent, h, Option.any_some, flowPeriodLimit]

theorem flowSilent_never (p : Part) (h : p.sense.lastFlow = none) : p.flowSilent = false := by
  rw [Part.flowSilent, h]
  rfl

/-- The beam's filtered state once its level has stood for its time (R43). -/
theorem beamRow_stood (l : BeamLevel) (p : Part) (hs : p.sense.beamPin.stood p.clock.now (beamTime l) l) :
    beamInput.row (· ≠ some l) l p =
      if p.sense.beam = filteredBy l then p.tellBeam l else (p.tellBeam l).beamBecomes l := by
  split
  next h =>
    have hstate : beamInput.state p = some l := by
      change some p.sense.beam.level = some l
      rw [h, level_filteredBy]
    refine Input.row_untaken beamInput _ l p (fun w hw hne => ?_) (by simp [hstate])
    rcases hs.1 with hl | hl
    · rw [show (beamInput.pin p).level = none from hl] at hw
      cases hw
    · rw [show (beamInput.pin p).level = some l from hl] at hw
      cases hw
      exact absurd hstate hne
  next h => exact Input.row_stood beamInput (· ≠ some l) l p ((beam_ne_iff _ _).2 h) (by simp) hs

/-! A level told after a change that was taken first: the pin is told from where it stood (log 9). -/

section
variable (p : Part)

theorem tellDoor_doorBecomes (d e : Door) :
    (p.doorBecomes d).tellDoor e =
      { p.doorBecomes d with sense.doorPin := p.sense.doorPin.told p.clock.now e } := by
  have hpin : (p.doorBecomes d).sense.doorPin = p.sense.doorPin := doorInput.pin_become d p
  rw [tellDoor_told, hpin, congrArg Clock.now (doorBecomes_frame d p).1]

theorem tellWater_paddleBecomes (st e : PaddleState) :
    (p.paddleBecomes .water st).tellPaddle .water e =
      { p.paddleBecomes .water st with sense.waterPin := p.sense.waterPin.told p.clock.now e } := by
  have hpin : (p.paddleBecomes .water st).sense.waterPin = p.sense.waterPin :=
    (paddleInput .water).pin_become st p
  rw [tellWater_told, hpin, congrArg Clock.now (paddleBecomes_frame .water st p).1]

theorem tellIce_paddleBecomes (st e : PaddleState) :
    (p.paddleBecomes .ice st).tellPaddle .ice e =
      { p.paddleBecomes .ice st with sense.icePin := p.sense.icePin.told p.clock.now e } := by
  have hpin : (p.paddleBecomes .ice st).sense.icePin = p.sense.icePin := (paddleInput .ice).pin_become st p
  rw [tellIce_told, hpin, congrArg Clock.now (paddleBecomes_frame .ice st p).1]

theorem tellHome_homeBecomes (c e : Contact) :
    (p.homeBecomes c).tellHome e =
      { p.homeBecomes c with sense.homePin := p.sense.homePin.told p.clock.now e } := by
  have hpin : (p.homeBecomes c).sense.homePin = p.sense.homePin := homeInput.pin_become c p
  rw [tellHome_told, hpin, congrArg Clock.now (homeBecomes_frame c p).1]

theorem tellFlap_flapBecomes (c e : Contact) :
    (p.flapBecomes c).tellFlap e =
      { p.flapBecomes c with sense.flapPin := p.sense.flapPin.told p.clock.now e } := by
  have hpin : (p.flapBecomes c).sense.flapPin = p.sense.flapPin := flapInput.pin_become c p
  rw [tellFlap_told, hpin, congrArg Clock.now (flapBecomes_frame c p).1]

theorem tellBeam_beamBecomes (l e : BeamLevel) :
    (p.beamBecomes l).tellBeam e =
      { p.beamBecomes l with sense.beamPin := p.sense.beamPin.told p.clock.now e } := by
  have hpin : (p.beamBecomes l).sense.beamPin = p.sense.beamPin := beamInput.pin_become l p
  rw [tellBeam_told, hpin, congrArg Clock.now (beamBecomes_frame l p).1]

end

/-- The tach pulse, and the end of a flow period (R45, R46, R135). -/
theorem pulseRows (s : State) (dt : Nat) (hr : s.part.resetting = none) :
    let p := s.later dt
    Becomes (.tachPulse dt) s p.countTach.tachSeen ∧
      Becomes (.flowPeriodTimeout dt) s (if p.flowSilent then p.endFlowPeriod else p) :=
  ⟨becomes_row _ s dt (fun p => p.countTach.tachSeen) hr rfl,
    becomes_row _ s dt (fun p => if p.flowSilent then p.endFlowPeriod else p) hr rfl⟩

/-- Settles O20: an input's short level is `Input.row_short`, its earned change `Input.row_earned`, and the tick's rows are
those of `pinEvent_earned`. -/
theorem inputsAreCountedAndFiltered : Obligations.InputsAreCountedAndFiltered := by
  refine ⟨⟨fun s dt hr => ?short, fun p => ?due⟩, fun s dt hr => ?earned, fun s dt level hr => ?beam,
    fun s dt hr => ?pulses⟩
  case short =>
    intro p now
    refine ⟨fun d hq hs => ?_, fun st hq hs => ?_, fun st hq hs => ?_, fun c hq hs => ?_, fun c hq hs => ?_,
      fun l hq hs => ?_⟩
    · rw [← tellDoor_told]
      exact door_short s dt hr d hq hs
    · rw [← tellWater_told]
      exact paddle_short s dt hr .water st hq hs
    · rw [← tellIce_told]
      exact paddle_short s dt hr .ice st hq hs
    · rw [← tellHome_told]
      exact home_short s dt hr c hq hs
    · rw [← tellFlap_told]
      exact flap_short s dt hr c hq hs
    · rw [← tellBeam_told]
      rw [← beamTime_eq] at hs
      exact beamInput.becomes_short s dt _ l _ hr (exec_beam s dt l) (beamInput_quiet p hq) hs
  case due =>
    exact ⟨door_dueRows p, paddle_dueRows p .water, paddle_dueRows p .ice, home_dueRows p, flap_dueRows p,
      fun l hl ht hne => beam_due p l (beamInput_earned p l hl hne ht)⟩
  case earned =>
    intro p now
    refine ⟨fun d he => ?_, fun st he => ?_, fun st he => ?_, fun c he => ?_, fun c he => ?_, ?_⟩
    · obtain ⟨hfirst, hchange⟩ := door_own s dt hr d he
      refine ⟨p.doorBecomes d, ?_, (doorBecomes_frame d p).2.2, doorBecomes_first d p, fun e => ?_⟩
      · split
        · exact hfirst
        · cases d <;> exact hchange
      · obtain ⟨hfirst', hchange'⟩ := door_earned s dt hr d e he
        rw [← tellDoor_doorBecomes p d e]
        exact ⟨hfirst', by cases e <;> exact hchange'⟩
    · obtain ⟨hfirst, hchange⟩ := paddle_own s dt hr .water st he
      refine ⟨p.paddleBecomes .water st, ?_, (paddleBecomes_frame .water st p).2.2, paddleBecomes_first .water st p,
        fun e => ?_⟩
      · split
        · exact hfirst
        · cases st <;> exact hchange
      · obtain ⟨hfirst', hchange'⟩ := paddle_earned s dt hr .water st e he
        rw [← tellWater_paddleBecomes p st e]
        exact ⟨hfirst', by cases e <;> exact hchange'⟩
    · obtain ⟨hfirst, hchange⟩ := paddle_own s dt hr .ice st he
      refine ⟨p.paddleBecomes .ice st, ?_, (paddleBecomes_frame .ice st p).2.2, paddleBecomes_first .ice st p,
        fun e => ?_⟩
      · split
        · exact hfirst
        · cases st <;> exact hchange
      · obtain ⟨hfirst', hchange'⟩ := paddle_earned s dt hr .ice st e he
        rw [← tellIce_paddleBecomes p st e]
        exact ⟨hfirst', by cases e <;> exact hchange'⟩
    · obtain ⟨hown, hnext⟩ := homeBecomes_rows s dt hr c he
      refine ⟨p.homeBecomes c, hown, (homeBecomes_frame c p).2.2, fun e => ?_⟩
      rw [← tellHome_homeBecomes p c e]
      exact hnext e
    · obtain ⟨hown, hnext⟩ := flapBecomes_rows s dt hr c he
      refine ⟨p.flapBecomes c, hown, (flapBecomes_frame c p).2.2, fun e => ?_⟩
      rw [← tellFlap_flapBecomes p c e]
      exact hnext e
    · intro l new hl hne ht
      have he := beamInput_earned p l hl hne ht
      refine ⟨p.beamBecomes l, beamInput.becomes_own s dt _ l _ hr (exec_beam s dt l) (by simp) he, ?_,
        beamBecomes_stock l p, fun e => ?_⟩
      · rw [(beamBecomes_frame l p).2.2, filteredBy_eq]
      · rw [← tellBeam_beamBecomes p l e]
        exact beamInput.becomes_earned s dt _ e l _ hr (exec_beam s dt e) (by simp) he
  case beam =>
    intro p new hs
    have hnew : new = filteredBy level := (filteredBy_eq level).symm
    rw [← beamTime_eq] at hs
    refine ⟨_, beamInput.becomes_row s dt _ level _ hr (exec_beam s dt level), ?_⟩
    rw [hnew]
    have htell : p.tellBeam level = { p with sense.beamPin.level := some level } := by
      rw [Part.tellBeam, tell_of_stood _ _ _ _ hs]
    have hrow := beamRow_stood level p hs
    by_cases hb : p.sense.beam = filteredBy level
    · rw [if_pos hb, htell] at hrow
      refine ⟨fun _ => hrow, ?_, ?_⟩
      · rw [hrow, ← hb]
      · rw [hrow, if_neg fun h => h.1 hb]
    · rw [if_neg hb, htell] at hrow
      refine ⟨fun h => absurd h hb, ?_, ?_⟩
      · rw [hrow, (beamBecomes_frame level _).2.2]
      · rw [hrow, beamBecomes_stock]
        cases level <;> simp [filteredBy] at hb ⊢
        simp [hb]
  case pulses =>
    intro p
    obtain ⟨htach, hflow⟩ := pulseRows s dt hr
    refine ⟨fun t ht => ?_, fun h => ?_, fun h => ?_, fun h => ?_⟩
    · rw [flowSilent_of_pulse p t ht] at hflow
      simp only [decide_eq_true_eq] at hflow
      exact hflow
    · rwa [flowSilent_never p h] at hflow
    · rwa [Part.tachSeen, if_neg (by rw [countTach_outlet, h]; simp)] at htach
    · rwa [Part.tachSeen, if_pos (by rw [countTach_outlet, h])] at htach

end Sys2Proof.Machine

namespace Sys2Proof.Machine

/-! A flow pulse: the filter totals, and the credit by the line state (R68, R77, R85, R88). -/

theorem judgeFilter_line (p : Part) :
    p.judgeFilter.line =
      { p.line with
        filterStatus := filterStatusOf p.supervision.params p.line.filterMl p.line.filterSeconds } := by
  unfold Part.judgeFilter
  dsimp only
  split <;> rfl

theorem judgeFilter_pool (p : Part) : p.judgeFilter.pool = p.pool := by
  unfold Part.judgeFilter
  dsimp only
  split <;> rfl

theorem filterPulse_pool (p : Part) : p.filterPulse.pool = p.pool := judgeFilter_pool _

/-- Of the line a pulse in the filter totals touches those alone. -/
theorem filterPulse_line (p : Part) :
    p.filterPulse.line =
      { p.line with
        filterMl := sat32 (p.line.filterMl + (p.line.filterRem + 1000) / p.supervision.params.flowK)
        filterRem := (p.line.filterRem + 1000) % p.supervision.params.flowK
        filterStatus := p.filterPulse.line.filterStatus } := by
  unfold Part.filterPulse
  rw [judgeFilter_line]

/-- A pulse adds 1000 to volume and remainder together, short of the count's end (R88). -/
theorem filterTotals_add (k ml r : Nat) (hml : ml < 4000000000) (hk : 1 ≤ k) (hk' : k ≤ 5000) (hr : r < k) :
    sat32 (ml + (r + 1000) / k) * k + (r + 1000) % k = ml * k + r + 1000 ∧ (r + 1000) % k < k := by
  have hq : (r + 1000) / k ≤ 6000 := (Nat.div_le_self _ _).trans (by omega)
  have hs : sat32 (ml + (r + 1000) / k) = ml + (r + 1000) / k := min_eq_left (by omega)
  refine ⟨?_, Nat.mod_lt _ (by omega)⟩
  have hdiv := Nat.div_add_mod' (r + 1000) k
  rw [hs, add_mul, add_assoc, hdiv, add_assoc]

/-- A work that ends in OPEN or HELD takes the line into SETTLE, its open time stopped (R77). -/
theorem endWork_line (p : Part) (u : LineUser) (reason : EndingReason)
    (hs : p.line.state = .opened ∨ p.line.state = .held) (ho : p.line.owner = some u) :
    (p.endWork reason).line =
      { p.line.toSettle p.clock.now u (some reason) with work := p.line.work.map (·.stopOpen p.clock.now) } := by
  unfold Part.endWork
  rcases hs with hs | hs <;> rw [hs, ho] <;> exact (tellEnding_frame _ _ _).2.1

theorem endWork_unowned (p : Part) (reason : EndingReason) (ho : p.line.owner = none) : p.endWork reason = p := by
  unfold Part.endWork
  split
  next u _ h => rw [ho] at h; cases h
  next u _ h => rw [ho] at h; cases h
  · rfl

/-- The end of a work keeps its record but for the open time, the supply, the retry timer and the filter totals. -/
theorem endWork_keeps_line (p : Part) (reason : EndingReason) :
    (p.endWork reason).line.supply = p.line.supply ∧ (p.endWork reason).line.dryRetry = p.line.dryRetry ∧
      (p.endWork reason).line.filterMl = p.line.filterMl ∧ (p.endWork reason).line.filterRem = p.line.filterRem ∧
      ∀ w : Work, p.line.work = some w →
        ∃ w', (p.endWork reason).line.work = some w' ∧ w'.pulses = w.pulses ∧ w'.ticket = w.ticket ∧
          w'.target = w.target ∧ w'.noFlowFrom = w.noFlowFrom := by
  unfold Part.endWork
  split
  case h_3 => exact ⟨rfl, rfl, rfl, rfl, fun w hw => ⟨w, hw, rfl, rfl, rfl, rfl⟩⟩
  all_goals
    rw [(tellEnding_frame _ _ _).2.1]
    refine ⟨rfl, rfl, rfl, rfl, fun w hw => ⟨w.stopOpen p.clock.now, ?_, rfl, rfl, rfl, rfl⟩⟩
    rw [hw]
    rfl

theorem checkTarget_reached (p : Part) (w : Work) (hw : p.line.work = some w)
    (ht : w.target.any (· ≤ w.pulses) = true) : p.checkTarget = p.endWork .target := by
  simp only [Part.checkTarget, hw, ht, if_true]

theorem checkTarget_unreached (p : Part) (w : Work) (hw : p.line.work = some w)
    (ht : w.target.any (· ≤ w.pulses) = false) : p.checkTarget = p := by
  unfold Part.checkTarget
  split
  · rfl
  next w' hw' =>
    rw [hw] at hw'
    cases hw'
    rw [ht]
    exact if_neg Bool.false_ne_true

theorem checkTarget_cases (p : Part) : p.checkTarget = p ∨ p.checkTarget = p.endWork .target := by
  unfold Part.checkTarget
  split
  · exact .inl rfl
  · split
    · exact .inr rfl
    · exact .inl rfl

/-- The target check keeps the work record but for the open time, and what is no valve's or owner's of the line. -/
theorem checkTarget_keeps_line (p : Part) :
    p.checkTarget.line.supply = p.line.supply ∧ p.checkTarget.line.dryRetry = p.line.dryRetry ∧
      p.checkTarget.line.filterMl = p.line.filterMl ∧ p.checkTarget.line.filterRem = p.line.filterRem ∧
      ∀ w : Work, p.line.work = some w →
        ∃ w', p.checkTarget.line.work = some w' ∧ w'.pulses = w.pulses ∧ w'.ticket = w.ticket ∧
          w'.target = w.target ∧ w'.noFlowFrom = w.noFlowFrom := by
  rcases checkTarget_cases p with h | h <;> rw [h]
  · exact ⟨rfl, rfl, rfl, rfl, fun w hw => ⟨w, hw, rfl, rfl, rfl, rfl⟩⟩
  · exact endWork_keeps_line p .target

/-- The part with a pulse credited in OPEN, its target not yet checked (R68, R83, R84). -/
def Part.creditedOpen (p : Part) (w : Work) : Part :=
  { p with
    line :=
      { p.line with
        work := some { w.credit with noFlowFrom := p.clock.now }, supply := .ok, dryRetry := none } }

/-- The part with a pulse credited in HELD, its target not yet checked (R68). -/
def Part.creditedHeld (p : Part) (w : Work) : Part := { p with line.work := some w.credit }

theorem creditPulse_opened (p : Part) (w : Work) (hs : p.line.state = .opened) (hw : p.line.work = some w) :
    p.creditPulse = (p.creditedOpen w).checkTarget := by
  unfold Part.creditPulse
  rw [hs, hw]
  rfl

theorem creditPulse_held (p : Part) (w : Work) (hs : p.line.state = .held) (hw : p.line.work = some w) :
    p.creditPulse = (p.creditedHeld w).checkTarget := by
  unfold Part.creditPulse
  rw [hs, hw]
  rfl

theorem creditPulse_closing (p : Part) (w : Work) (hs : p.line.state = .settle) (hw : p.line.work = some w) :
    p.creditPulse = { p with line.work := some w.credit } := by
  unfold Part.creditPulse
  rw [hs, hw]

theorem creditPulse_suspended (p : Part) (w : Work) (hs : p.line.state = .settle) (hw : p.line.work = none)
    (hc : p.line.closingOwner = some .fill) (hsus : p.line.suspended = some w) :
    p.creditPulse.line.suspended = some w.credit := by
  unfold Part.creditPulse
  rw [hs, hw, hc, hsus]
  rfl

theorem creditPulse_leak (p : Part) (hs : p.line.state = .idle) (hl : p.line.leakLatch = false) :
    p.creditPulse = p.leakPulse := by
  unfold Part.creditPulse
  rw [hs, hl]
  rfl

theorem creditPulse_latched (p : Part) (hs : p.line.state = .idle) (hl : p.line.leakLatch = true) :
    p.creditPulse = p := by
  unfold Part.creditPulse
  rw [hs, hl]
  rfl

theorem leakPulse_filter (p : Part) :
    p.leakPulse.line.filterMl = p.line.filterMl ∧ p.leakPulse.line.filterRem = p.line.filterRem := by
  unfold Part.leakPulse
  dsimp only
  split <;> exact ⟨rfl, rfl⟩

/-- The credit of a pulse leaves the filter totals. -/
theorem creditPulse_filter (p : Part) :
    p.creditPulse.line.filterMl = p.line.filterMl ∧ p.creditPulse.line.filterRem = p.line.filterRem := by
  unfold Part.creditPulse
  split
  · obtain ⟨-, -, hml, hrem, -⟩ := checkTarget_keeps_line
      { p with
        line :=
          { p.line with
            work := p.line.work.map fun w => { w.credit with noFlowFrom := p.clock.now }
            supply := .ok
            dryRetry := none } }
    exact ⟨hml, hrem⟩
  · obtain ⟨-, -, hml, hrem, -⟩ := checkTarget_keeps_line { p with line.work := p.line.work.map Work.credit }
    exact ⟨hml, hrem⟩
  · split <;> exact ⟨rfl, rfl⟩
  · split
    · exact ⟨rfl, rfl⟩
    · exact leakPulse_filter p

/-- A leak pulse: the latch is set by the LEAK_PULSES-th of the recent ones (R85, R86). -/
theorem leakPulse_spec (p : Part) :
    let recent := (p.line.leakList.filter fun t => p.clock.now ≤ t + p.supervision.params.leakWindow * 1000000) ++
      [p.clock.now]
    if p.supervision.params.leakPulses ≤ recent.length then
      p.leakPulse.line.leakLatch = true ∧ p.leakPulse.line.leakTime = some p.clock.partSeconds ∧
        p.leakPulse.line.leakList = [] ∧ p.leakPulse.isPending .leak = true
    else p.leakPulse.line.leakLatch = p.line.leakLatch ∧ p.leakPulse.line.leakList = recent := by
  intro recent
  have hpulse : p.leakPulse =
      if p.supervision.params.leakPulses ≤ recent.length then p.setLeakLatch
      else { p with line.leakList := recent } := rfl
  rw [hpulse]
  split
  · exact ⟨rfl, rfl, rfl, by rw [Part.setLeakLatch, isPending_notify]; rfl⟩
  · exact ⟨rfl, rfl⟩

/-- The pulse that reaches its target in OPEN or HELD closes the valves (R77). -/
theorem checkTarget_closes (p : Part) (w : Work) (u : LineUser) (hw : p.line.work = some w)
    (ho : p.line.owner = some u) (hs : p.line.state = .opened ∨ p.line.state = .held)
    (ht : w.target.any (· ≤ w.pulses) = true) :
    let l := p.checkTarget.line
    l.state = .settle ∧ l.inlet = false ∧ l.moldFill = false ∧ l.dispense = false ∧ l.ending = some .target ∧
      l.closingOwner = some u ∧ l.settleEnd = some (p.clock.now + 500000) := by
  intro l
  have hl : l = { p.line.toSettle p.clock.now u (some .target) with
      work := p.line.work.map (·.stopOpen p.clock.now) } := by
    rw [← endWork_line p u .target hs ho, ← checkTarget_reached p w hw ht]
  rw [hl]
  exact ⟨rfl, rfl, rfl, rfl, rfl, rfl, rfl⟩

/-- Settles O32: the credit is `creditPulse_opened` to `creditPulse_latched`, one for each line state. -/
theorem flowPulsesAreCredited : Obligations.FlowPulsesAreCredited := by
  intro s dt hr p recent
  let r := p.countFlow.filterPulse
  refine ⟨r.creditPulse, becomes_row _ s dt (fun p => p.countFlow.filterPulse.creditPulse.settle) hr rfl, ?_⟩
  obtain ⟨hclock, -, hsense, hsup, -⟩ := (filterPulse_frame p.countFlow).1
  obtain ⟨-, -, hsense', -⟩ := (creditPulse_frame r).1
  have hline : r.line = _ := filterPulse_line p.countFlow
  have hstate : r.line.state = p.line.state := by rw [hline]; rfl
  have hwork : r.line.work = p.line.work := by rw [hline]; rfl
  have howner : r.line.owner = p.line.owner := by rw [hline]; rfl
  have hnow : r.clock.now = p.clock.now := congrArg Clock.now hclock
  have hq : r.creditPulse.sense = p.countFlow.sense := hsense'.trans hsense
  rw [hq]
  refine ⟨rfl, rfl, ?_, fun hml hk' hk hrem => ?_, fun w hw hs => ?_, fun w hw hs => ?_, fun w u hw ho hs ht => ?_,
    fun w hw hs => ?_, fun w hw hc hsus hs => ?_, fun hs hl => ?_, fun hs hl => ?_⟩
  · change flowPeriodAt p.clock.now p.sense.lastFlow = _
    cases p.sense.lastFlow <;> rfl
  · obtain ⟨hqml, hqrem⟩ := creditPulse_filter r
    rw [hqml, hqrem, hline]
    exact filterTotals_add _ _ _ hml hk hk' hrem
  · rw [creditPulse_opened r w (hstate.trans hs) (hwork.trans hw)]
    obtain ⟨hsupply, hretry, -, -, hkept⟩ := checkTarget_keeps_line (r.creditedOpen w)
    obtain ⟨w', hw', hpulses, hticket, htarget, hflow⟩ := hkept _ rfl
    refine ⟨hsupply, hretry, ⟨w', hw', hpulses, hticket, htarget, hflow.trans hnow⟩, fun ht => ?_⟩
    rw [checkTarget_unreached (r.creditedOpen w) _ rfl ht]
    exact ⟨hstate.trans hs, howner⟩
  · rw [creditPulse_held r w (hstate.trans hs) (hwork.trans hw)]
    obtain ⟨hsupply, -, -, -, hkept⟩ := checkTarget_keeps_line (r.creditedHeld w)
    refine ⟨hsupply.trans (by rw [show (r.creditedHeld w).line.supply = r.line.supply from rfl, hline]; rfl),
      hkept _ rfl, fun ht => ?_⟩
    rw [checkTarget_unreached (r.creditedHeld w) _ rfl ht]
    refine ⟨hstate.trans hs, howner, rfl, ?_, ?_, filterPulse_pool p.countFlow⟩
    · change r.line.inlet = _
      rw [hline]
      rfl
    · change r.line.dispense = _
      rw [hline]
      rfl
  · rw [← hnow]
    rcases hs with hs | hs
    · rw [creditPulse_opened r w (hstate.trans hs) (hwork.trans hw)]
      exact checkTarget_closes (r.creditedOpen w) _ u rfl (howner.trans ho) (.inl (hstate.trans hs)) ht
    · rw [creditPulse_held r w (hstate.trans hs) (hwork.trans hw)]
      exact checkTarget_closes (r.creditedHeld w) _ u rfl (howner.trans ho) (.inr (hstate.trans hs)) ht
  · rw [creditPulse_closing r w (hstate.trans hs) (hwork.trans hw)]
    refine ⟨rfl, hstate.trans hs, ?_, ?_⟩
    · change r.line.ending = _
      rw [hline]
      rfl
    · change r.line.settleEnd = _
      rw [hline]
      rfl
  · refine creditPulse_suspended r w (hstate.trans hs) (hwork.trans hw) ?_ ?_
    · rw [hline]
      exact hc
    · rw [hline]
      exact hsus
  · have hspec := leakPulse_spec r
    have hlist : r.line.leakList = p.line.leakList := by rw [hline]; rfl
    have hlatch : r.line.leakLatch = p.line.leakLatch := by rw [hline]; rfl
    rw [hlist, hlatch, hl, hclock, hsup] at hspec
    rw [creditPulse_leak r (hstate.trans hs) (hlatch.trans hl)]
    exact hspec
  · have hlatch : r.line.leakLatch = p.line.leakLatch := by rw [hline]; rfl
    rw [creditPulse_latched r (hstate.trans hs) (hlatch.trans hl), hline]
    rfl

end Sys2Proof.Machine

namespace Sys2Proof.Machine

/-! Homing, and the ends of the freeze (R96, R100, R101, R108). -/

/-- A timer that runs has ended exactly once its moment has come. -/
theorem passed_some (now t : Nat) : passed now (some t) = true ↔ t ≤ now := decide_eq_true_iff

/-- A moment that lies ahead is not due. -/
theorem not_due {due : Bool} {now t : Nat} (h : due = true ↔ t ≤ now) (hlt : now < t) : due = false :=
  Bool.eq_false_iff.2 fun hd => Nat.not_le.2 hlt (h.1 hd)

/-- Entry into FAULT: the ejector and the ice maker's heaters are released, and ICE_FAULT is set (R108). -/
theorem enterIceFault_spec (p : Part) :
    let q := p.enterIceFault
    q.ice =
        { p.ice.stopEjector with
          state := .fault, homingDeadline := none, retryEnd := none, heatLimitMark := false, parkPending := false,
          attempts := 0 } ∧
      q.loads.heaters[(2 : HeaterNo)].ownerDemand = false ∧ q.loads.heaters[(3 : HeaterNo)].ownerDemand = false ∧
      q.pool = p.pool := by
  refine ⟨rfl, ?_, ?_, rfl⟩
  · change ((p.loads.update 2 Heater.dropOwner).update 3 Heater.dropOwner).heaters[(2 : HeaterNo)].ownerDemand = false
    rw [heaters_update, if_neg (by decide), heaters_update, if_pos rfl]
    exact (dropOwner_spec _).1
  · change ((p.loads.update 2 Heater.dropOwner).update 3 Heater.dropOwner).heaters[(3 : HeaterNo)].ownerDemand = false
    rw [heaters_update, if_pos rfl]
    exact (dropOwner_spec _).1

theorem homeChanged_homing (p : Part) (h : p.ice.state = .homing) : p.homeChanged .made = p.homingSucceeds := by
  unfold Part.homeChanged
  rw [h]

theorem dueHoming_iff (p : Part) (e : Nat) (h : p.ice.state = .homing) (he : p.ice.homingDeadline = some e) :
    p.dueHoming = true ↔ e ≤ p.clock.now := by
  rw [Part.dueHoming, h, he, beq_self_eq_true, Bool.true_and, passed_some]

theorem homingFails_homing (p : Part) (h : p.ice.state = .homing) : p.homingFails = p.enterIceFault := if_pos h

theorem minFreezeReached_iff (p : Part) (k start : Nat) (h : p.ice.freezeStart = some start) :
    p.minFreezeReached k = true ↔ start + k * p.supervision.params.minFreeze * 60 ≤ p.clock.partSeconds := by
  rw [Part.minFreezeReached, h]
  exact decide_eq_true_iff

theorem dueMinFreeze_iff (p : Part) (start : Nat) (h : p.ice.state = .freezing) (hs : p.ice.freezeStart = some start) :
    p.dueMinFreeze = true ↔ start + p.supervision.params.minFreeze * 60 ≤ p.clock.partSeconds := by
  rw [Part.dueMinFreeze, h, beq_self_eq_true, Bool.true_and, minFreezeReached_iff p 1 start hs, one_mul]

theorem dueFaultFreeze_iff (p : Part) (start : Nat) (h : p.ice.state = .freezing)
    (hs : p.ice.freezeStart = some start) :
    p.dueFaultFreeze = true ↔
      p.sense.channels[mold].fault = true ∧
        start + 2 * p.supervision.params.minFreeze * 60 ≤ p.clock.partSeconds := by
  rw [Part.dueFaultFreeze, h, beq_self_eq_true, Bool.true_and, Bool.and_eq_true, minFreezeReached_iff p 2 start hs]
  rfl

theorem holdRun_some (p : Part) (cold : Nat) (h : p.ice.coldRunStart = some cold) :
    p.holdRun = true ↔ cold + p.supervision.params.freezeHold * 1000000 ≤ p.clock.now := by
  rw [Part.holdRun, h]
  exact decide_eq_true_iff

theorem holdRun_none (p : Part) (h : p.ice.coldRunStart = none) : p.holdRun = false := by
  rw [Part.holdRun, h]

/-- The freeze ends into HARVEST_WAIT, which is handed on (R100, R101). -/
theorem endFreeze_spec (sensor : Bool) (p : Part) :
    (p.endFreeze sensor).ice = { p.ice with state := .harvestWait, coldRunStart := none, notedSensor := sensor } ∧
      (p.endFreeze sensor).defrost = { p.defrost with iceCopy := .harvestWait } := by
  obtain ⟨-, -, -, hice, -, hdefrost⟩ := iceAttempt_frame
    (Part.setIceState .harvestWait { p with ice.coldRunStart := none, ice.notedSensor := sensor })
  exact ⟨hice, hdefrost⟩

theorem takeFreeze_ends (p : Part) (hs : p.ice.state = .freezing) (hf : p.inFault mold = false)
    (hh : p.holdRun = true) (hm : p.minFreezeReached 1 = true) : p.takeFreeze = p.endFreeze false :=
  if_pos ⟨hs, hf, hh, hm⟩

theorem takeFreeze_warm (p : Part) (hh : p.holdRun = false) : p.takeFreeze = p :=
  if_neg fun h => Bool.false_ne_true (hh.symm.trans h.2.2.1)

theorem takeFaultFreeze_ends (p : Part) (hs : p.ice.state = .freezing) (hf : p.inFault mold = true)
    (hm : p.minFreezeReached 2 = true) : p.takeFaultFreeze = p.endFreeze true := if_pos ⟨hs, hf, hm⟩

/-- Settles O37. -/
theorem homingAndFreezeEnd : Obligations.HomingAndFreezeEnd := by
  constructor
  · intro s dt e hr hs p he
    have deadline := dueHoming_iff p e hs he
    refine ⟨fun hhome hstood => ?_, fun hlt => ?_, fun hle => ?_⟩
    · have hrow : Becomes (.homeSwitchChange dt .made) s (p.homeSwitch .made).settle :=
        becomes_row _ s dt (fun p => (p.homeSwitch .made).settle) hr rfl
      rw [homeSwitch_judged .made p (by rw [hhome]; rfl) (by rw [hhome]; decide) hstood,
        homeChanged_homing { p with sense := p.sense.homeAt .made } hs] at hrow
      exact ⟨_, hrow, rfl, rfl, rfl, rfl, rfl, rfl, rfl⟩
    · exact becomes_early _ s dt Part.dueHoming Part.homingFails hr rfl
        (not_due deadline hlt)
    · have hrow := becomes_due (.homingDeadline dt) s dt Part.dueHoming Part.homingFails hr rfl (deadline.2 hle)
      rw [homingFails_homing p hs] at hrow
      obtain ⟨hice, h2, h3, hpool⟩ := enterIceFault_spec p
      refine ⟨_, hrow, ?_, ?_, isPending_enterIceFault _, h2, h3, hpool, ?_, ?_⟩ <;> rw [hice] <;> rfl
  · intro s dt start hr hs p ps hstart
    have reached := dueMinFreeze_iff p start hs hstart
    have faulty := dueFaultFreeze_iff p start hs hstart
    refine ⟨fun cold hfault hcold hhold hmin => ?_, fun hlt => ?_, fun hle hcold => ?_, fun hfault hle => ?_,
      fun hnot => ?_⟩
    · have hrow := becomes_due (.minFreezeReached dt) s dt Part.dueMinFreeze Part.takeFreeze hr rfl (reached.2 hmin)
      rw [takeFreeze_ends p hs hfault ((holdRun_some p cold hcold).2 hhold)
        ((minFreezeReached_iff p 1 start hstart).2 (by rw [one_mul]; exact hmin))] at hrow
      obtain ⟨hice, hdefrost⟩ := endFreeze_spec false p
      exact ⟨_, hrow, by rw [hice], by rw [hdefrost], by rw [hice], by rw [hice]⟩
    · exact becomes_early _ s dt Part.dueMinFreeze Part.takeFreeze hr rfl
        (not_due reached hlt)
    · have hrow := becomes_due (.minFreezeReached dt) s dt Part.dueMinFreeze Part.takeFreeze hr rfl (reached.2 hle)
      rwa [takeFreeze_warm p (holdRun_none p hcold)] at hrow
    · have hrow := becomes_due (.faultFreezeTime dt) s dt Part.dueFaultFreeze Part.takeFaultFreeze hr rfl
        (faulty.2 ⟨hfault, hle⟩)
      rw [takeFaultFreeze_ends p hs hfault ((minFreezeReached_iff p 2 start hstart).2 hle)] at hrow
      obtain ⟨hice, hdefrost⟩ := endFreeze_spec true p
      exact ⟨_, hrow, by rw [hice], by rw [hdefrost], by rw [hice]⟩
    · refine becomes_early _ s dt Part.dueFaultFreeze Part.takeFaultFreeze hr rfl (Bool.eq_false_iff.2 fun h => ?_)
      obtain ⟨hfault, hle⟩ := faulty.1 h
      rcases hnot with hnot | hlt
      · exact Bool.false_ne_true (hnot.symm.trans hfault)
      · simp only [ps] at hlt
        omega

end Sys2Proof.Machine

namespace Sys2Proof.Machine

/-! The harvest: the limit of the heat, the attempts of the ejector, and SETTLE (R104 to R109). -/

/-- The limit of the harvest heat: the full one, or half of it with MOLD in FAULT (R104). -/
def Part.heatLimit (p : Part) : Nat :=
  if p.sense.channels[mold].fault = true then p.supervision.params.moldHeatLimit / 2
  else p.supervision.params.moldHeatLimit

theorem moldLimitReached_iff (p : Part) (start : Nat) (h : p.ice.state = .harvestHeat)
    (hs : p.ice.heatFrom = some start) :
    p.moldLimitReached = true ↔ start + p.heatLimit * 1000000 ≤ p.clock.now := by
  unfold Part.moldLimitReached
  rw [h, hs]
  exact decide_eq_true_iff

theorem compareMoldLimit_reached (p : Part) (h : p.moldLimitReached = true) :
    p.compareMoldLimit = p.endHeat !p.inFault mold := if_pos h

/-- The heat ends into the first attempt: every value it leaves (R104, R105). -/
theorem endHeat_attempt (mark : Bool) (p : Part) :
    let q := p.endHeat mark
    q.ice.state = .eject ∧ q.defrost.iceCopy = .eject ∧ q.ice.heatLimitMark = mark ∧
      q.ice.attempts = p.ice.attempts + 1 ∧ q.ice.ejector = true ∧
      q.ice.returnDeadline = some (p.clock.now + p.supervision.params.ejectLimit * 1000000) ∧
      q.ice.leftHome = (p.sense.home == some .released) ∧
      q.ice.leaveDeadline = (if p.sense.home == some .released then none else some (p.clock.now + 2000000)) ∧
      q.loads = p.loads ∧ q.pool = p.pool := ⟨rfl, rfl, rfl, rfl, rfl, rfl, rfl, rfl, rfl, rfl⟩

theorem homeChanged_ejectLeaves (p : Part) (h : p.ice.state = .eject) (hr : p.ice.returnDeadline.isSome = true) :
    p.homeChanged .released = { p with ice.leftHome := true, ice.leaveDeadline := none } := by
  simp only [Part.homeChanged, h, hr, if_true]

theorem homeChanged_ejectReturns (p : Part) (h : p.ice.state = .eject) (hr : p.ice.returnDeadline.isSome = true)
    (hl : p.ice.leftHome = true) : p.homeChanged .made = p.ejectSucceeds := by
  simp only [Part.homeChanged, Part.attemptSucceeds, h, hr, hl, Bool.and_self, if_true]

/-- Away from HARVEST_WAIT a new stock estimate is nothing more than that (R102, R110). -/
theorem setStock_notWaiting (p : Part) (k : Nat) (h : p.ice.state ≠ .harvestWait) :
    p.setStock k = { p with ice.stock := k } := by
  unfold Part.setStock
  split
  next hk => rw [← hk]
  next => exact harvestAttempt_notWaiting _ h

/-- The cubes that a harvest adds to the stock estimate (R107). -/
def Part.harvested (p : Part) : Nat :=
  min p.supervision.params.cubesPerHarvest (p.supervision.params.binCapacity - p.ice.stock)

/-- The part with the cubes added and the amount noted in the HARVEST, which is next to end (R107). -/
def Part.harvestNoted (n : TicketNo) (p : Part) : Part :=
  Part.updateTicket n (Ticket.withProgress fun g => { g with measured := p.harvested })
    { p with ice.stock := p.ice.stock + p.harvested }

/-- The outcome of a harvest that has ejected (R107). -/
def Part.harvestOutcome (p : Part) : TicketOutcome := if p.ice.heatLimitMark then .heatLimit else .complete

/-- The ice maker after a successful attempt, its ticket ended (R107). -/
def Part.enterSettle (p : Part) : Part :=
  (Part.dropOwner 2
    { p with
      ice :=
        { p.ice.stopEjector with
          moldLoaded := false, freezeStart := none, attempts := 0, heatLimitMark := false,
          settleEnd := some (p.clock.now + 10000000) } }).setIceState .settle

theorem ejectSucceeds_eq (p : Part) (n : TicketNo) (h : p.ice.state = .eject) (hn : p.pool.iceSlot = some n)
    (hfree : 4 ≤ p.pool.free.length) :
    p.ejectSucceeds = ((p.harvestNoted n).toCompletion n p.harvestOutcome).enterSettle := by
  have hstock : p.setStock (p.ice.stock + p.harvested) = { p with ice.stock := p.ice.stock + p.harvested } :=
    setStock_notWaiting p _ (by rw [h]; decide)
  have hnoted : Part.updateSlot p.pool.iceSlot (Ticket.withProgress fun g => { g with measured := p.harvested })
      { p with ice.stock := p.ice.stock + p.harvested } = p.harvestNoted n := by
    rw [hn]
    rfl
  calc p.ejectSucceeds
      = (let u := p.setStock (p.ice.stock + p.harvested)
         let v := u.updateSlot u.pool.iceSlot (Ticket.withProgress fun g => { g with measured := p.harvested })
         (v.finishSlot v.pool.iceSlot v.harvestOutcome).enterSettle) := rfl
    _ = (Part.finishSlot (p.harvestNoted n).pool.iceSlot p.harvestOutcome (p.harvestNoted n)).enterSettle := by
        rw [hstock]
        dsimp only
        rw [hnoted]
        rfl
    _ = (Part.finish n p.harvestOutcome (p.harvestNoted n)).enterSettle := by
        rw [show (p.harvestNoted n).pool.iceSlot = some n from hn]
        rfl
    _ = ((p.harvestNoted n).toCompletion n p.harvestOutcome).enterSettle := by
        rw [finish_enough (p.harvestNoted n) n p.harvestOutcome hfree]

/-- What a successful attempt leaves (R107). -/
theorem ejectSucceeds_spec (p : Part) (n : TicketNo) (h : p.ice.state = .eject) (hn : p.pool.iceSlot = some n)
    (hfree : 4 ≤ p.pool.free.length) :
    let q := p.ejectSucceeds
    q.ice.state = .settle ∧ q.ice.ejector = false ∧ q.ice.stock = p.ice.stock + p.harvested ∧
      q.pool.iceSlot = none ∧
      q.ticket n =
        ((p.ticket n).withProgress fun g => { g with measured := p.harvested }).finished p.clock.partSeconds
          p.harvestOutcome ∧
      q.ice.moldLoaded = false ∧ q.ice.freezeStart = none ∧ q.ice.attempts = 0 ∧
      q.loads.heaters[(2 : HeaterNo)].ownerDemand = false ∧ q.ice.settleEnd = some (p.clock.now + 10000000) := by
  intro q
  have hq : q = _ := ejectSucceeds_eq p n h hn hfree
  have hempty : emptied n p.pool.iceSlot = none := by rw [hn, emptied, if_pos rfl]
  have hticket : ((p.harvestNoted n).toCompletion n p.harvestOutcome).ticket n =
      ((p.ticket n).withProgress fun g => { g with measured := p.harvested }).finished p.clock.partSeconds
        p.harvestOutcome := by
    rw [ticket_toCompletion_self, Part.harvestNoted, ticket_updateTicket, if_pos rfl]
    rfl
  rw [hq]
  refine ⟨rfl, rfl, rfl, hempty, hticket, rfl, rfl, rfl, ?_, rfl⟩
  change (p.loads.update 2 Heater.dropOwner).heaters[(2 : HeaterNo)].ownerDemand = false
  rw [heaters_update, if_pos rfl]
  exact (dropOwner_spec _).1

/-- A first attempt that fails leaves the heat on for 60 s (R106). -/
theorem attemptFails_first (p : Part) (h : p.ice.state = .eject) (ha : p.ice.attempts < 2) :
    p.attemptFails = { p with ice := { p.ice.stopEjector with retryEnd := some (p.clock.now + 60000000) } } := by
  unfold Part.attemptFails
  rw [h]
  exact if_pos ha

/-- A second attempt that fails ends the HARVEST STALL, and the ice maker enters FAULT (R106, R108). -/
theorem attemptFails_second (p : Part) (n : TicketNo) (h : p.ice.state = .eject) (ha : 2 ≤ p.ice.attempts)
    (hn : p.pool.iceSlot = some n) (hfree : 4 ≤ p.pool.free.length) :
    p.attemptFails = (Part.toCompletion n .stall { p with ice := p.ice.stopEjector }).enterIceFault := by
  have hended := finish_enough { p with ice := p.ice.stopEjector } n .stall hfree
  have hslot : Part.finishSlot p.pool.iceSlot .stall { p with ice := p.ice.stopEjector } =
      Part.toCompletion n .stall { p with ice := p.ice.stopEjector } := by
    rw [hn]
    exact hended
  unfold Part.attemptFails
  rw [h]
  refine (if_neg (Nat.not_lt.2 ha)).trans ?_
  exact congrArg Part.enterIceFault hslot

/-- Entry into FILL_WAIT hands the state on and leaves the rest of the ice maker (R95, R98). -/
theorem enterFillWait_ice (p : Part) :
    p.enterFillWait.ice = { p.ice with state := .fillWait } ∧
      p.enterFillWait.defrost = { p.defrost with iceCopy := .fillWait } := by
  obtain ⟨-, -, -, hice, -, hdefrost⟩ := iceAttempt_frame (p.setIceState .fillWait)
  exact ⟨hice, hdefrost⟩

/-- The stock estimate at the end of SETTLE (R109). -/
def Part.settledStock (p : Part) : Nat :=
  if p.sense.beam = .full then p.supervision.params.binCapacity else p.ice.stock

theorem endIceSettle_eq (p : Part) :
    p.endIceSettle =
      let q := { p with ice.stock := p.settledStock, ice.settleEnd := none }
      if p.ice.parkPending then q.enterParked else q.enterFillWait := by
  unfold Part.endIceSettle Part.settledStock
  by_cases h : p.sense.beam = .full
  · simp only [if_pos h]
  · simp only [if_neg h]

theorem endIceSettle_spec (p : Part) :
    let q := p.endIceSettle
    q.ice.stock = p.settledStock ∧ (q.ice.state = if p.ice.parkPending then .parked else .fillWait) ∧
      q.defrost.iceCopy = q.ice.state ∧ q.ice.parkPending = false := by
  intro q
  have hq : q = _ := endIceSettle_eq p
  cases hpark : p.ice.parkPending with
  | true =>
    rw [hpark, if_pos rfl] at hq
    rw [hq]
    exact ⟨rfl, rfl, rfl, rfl⟩
  | false =>
    rw [hpark, if_neg Bool.false_ne_true] at hq
    obtain ⟨hice, hdefrost⟩ := enterFillWait_ice { p with ice.stock := p.settledStock, ice.settleEnd := none }
    rw [hq, hice, hdefrost]
    exact ⟨rfl, rfl, rfl, hpark⟩

theorem dueIceSettle_iff (p : Part) (e : Nat) (h : p.ice.state = .settle) (he : p.ice.settleEnd = some e) :
    p.dueIceSettle = true ↔ e ≤ p.clock.now := by
  rw [Part.dueIceSettle, h, he, beq_self_eq_true, Bool.true_and, passed_some]

theorem dueRetry_iff (p : Part) (e : Nat) (h : p.ice.state = .eject) (he : p.ice.retryEnd = some e) :
    p.dueRetry = true ↔ e ≤ p.clock.now := by
  rw [Part.dueRetry, h, he, beq_self_eq_true, Bool.true_and, passed_some]

/-- Either deadline of an attempt, once passed, fails the attempt (R105). -/
theorem ejectDeadline_fails (i : Instr) (s : State) (dt e : Nat) (hr : s.part.resetting = none)
    (hle : e ≤ (s.later dt).clock.now)
    (hi : (i = .leaveHomeDeadline dt ∧ (s.later dt).ice.leaveDeadline = some e) ∨
      (i = .ejectReturnDeadline dt ∧ (s.later dt).ice.returnDeadline = some e)) :
    Becomes i s (s.later dt).attemptFails.settle := by
  rcases hi with ⟨rfl, he⟩ | ⟨rfl, he⟩
  · exact becomes_due (.leaveHomeDeadline dt) s dt Part.dueLeaveHome Part.attemptFails hr rfl
      (by rw [Part.dueLeaveHome, he, passed_some]; exact hle)
  · exact becomes_due (.ejectReturnDeadline dt) s dt Part.dueReturn Part.attemptFails hr rfl
      (by rw [Part.dueReturn, he, passed_some]; exact hle)

/-- A change of the home switch that has stood reaches the ice maker (R96, R105). -/
theorem homeSwitch_stood (s : State) (dt : Nat) (v : Contact) (hr : s.part.resetting = none)
    (hread : (s.later dt).sense.home.isSome = true) (hne : (s.later dt).sense.home ≠ some v)
    (hst : (s.later dt).sense.homePin.stood (s.later dt).clock.now 10000 v) :
    Becomes (.homeSwitchChange dt v) s
      (Part.homeChanged v { s.later dt with sense := (s.later dt).sense.homeAt v }).settle := by
  have hrow : Becomes (.homeSwitchChange dt v) s ((s.later dt).homeSwitch v).settle :=
    becomes_row _ s dt (fun p => (p.homeSwitch v).settle) hr rfl
  rwa [homeSwitch_judged v (s.later dt) hread hne hst] at hrow

/-- Settles O38. -/
theorem harvestHeatsEjectsAndSettles : Obligations.HarvestHeatsEjectsAndSettles := by
  refine ⟨?_, ?_, ?_⟩
  · intro s dt start hr hs p ps limit hfrom
    have reached := moldLimitReached_iff p start hs hfrom
    refine ⟨fun hlt => ?_, fun hle => ?_⟩
    · exact becomes_early _ s dt Part.moldLimitReached Part.compareMoldLimit hr rfl
        (not_due reached hlt)
    · have hrow := becomes_due (.moldHeatLimitExpiry dt) s dt Part.moldLimitReached Part.compareMoldLimit hr rfl
        (reached.2 hle)
      rw [compareMoldLimit_reached p (reached.2 hle)] at hrow
      obtain ⟨hstate, hcopy, hmark, hattempts, hejector, hreturn, hleft, hleave, hloads, hpool⟩ :=
        endHeat_attempt (!p.inFault mold) p
      refine ⟨_, hrow, hstate, hcopy, hmark, hattempts, hejector, hreturn, fun hhome => ?_, fun hhome => ?_, hloads,
        hpool⟩
      · rw [hleft, hleave, hhome]
        exact ⟨rfl, rfl⟩
      · rw [hleft, hleave, hhome]
        exact ⟨rfl, rfl⟩
  · intro s dt hr hs p ps
    refine ⟨fun e hhome hreturn hstood => ?_, fun e n hhome hreturn hstood hleft hn hfree => ?_,
      fun i e hle hi => ⟨fun ha => ?_, fun n ha hn hfree => ?_⟩, fun e he => ⟨fun hlt => ?_, fun hle => ?_⟩⟩
    · have hrow := homeSwitch_stood s dt .released hr (Option.isSome_of_eq_some hhome) (by rw [hhome]; decide) hstood
      rw [homeChanged_ejectLeaves { p with sense := p.sense.homeAt .released } hs
        (Option.isSome_of_eq_some hreturn)] at hrow
      exact ⟨_, hrow, rfl, rfl, hs, rfl⟩
    · have hrow := homeSwitch_stood s dt .made hr (Option.isSome_of_eq_some hhome) (by rw [hhome]; decide) hstood
      rw [homeChanged_ejectReturns { p with sense := p.sense.homeAt .made } hs
        (Option.isSome_of_eq_some hreturn) hleft] at hrow
      obtain ⟨hstate, hejector, hstock, hslot, hticket, hrest⟩ :=
        ejectSucceeds_spec { p with sense := p.sense.homeAt .made } n hs hn hfree
      refine ⟨_, hrow, hstate, hejector, hstock, hslot, ?_, ?_, ?_, hrest⟩ <;> rw [hticket] <;> rfl
    · have hrow := ejectDeadline_fails i s dt e hr hle hi
      rw [attemptFails_first p hs ha] at hrow
      exact ⟨_, hrow, hs, rfl, rfl, rfl, rfl, rfl, rfl⟩
    · have hrow := ejectDeadline_fails i s dt e hr hle hi
      rw [attemptFails_second p n hs ha hn hfree] at hrow
      obtain ⟨-, h2, -, -⟩ := enterIceFault_spec (Part.toCompletion n .stall { p with ice := p.ice.stopEjector })
      have hempty : emptied n p.pool.iceSlot = none := by rw [hn, emptied, if_pos rfl]
      have hticket := ticket_toCompletion_self { p with ice := p.ice.stopEjector } n .stall
      exact ⟨_, hrow, rfl, rfl, hempty, congrArg Ticket.state hticket,
        congrArg (fun t => t.progress.outcome) hticket, isPending_enterIceFault _, rfl, rfl, h2, rfl, rfl⟩
    · exact becomes_early _ s dt Part.dueRetry Part.beginAttempt hr rfl
        (not_due (dueRetry_iff p e hs he) hlt)
    · exact ⟨_, becomes_due (.ejectRetryTimer dt) s dt Part.dueRetry Part.beginAttempt hr rfl
        ((dueRetry_iff p e hs he).2 hle), rfl, rfl, rfl, hs, rfl⟩
  · intro s dt e hr hs p he
    refine ⟨fun hlt => ?_, fun hle => ?_⟩
    · exact becomes_early _ s dt Part.dueIceSettle Part.endIceSettle hr rfl
        (not_due (dueIceSettle_iff p e hs he) hlt)
    · have hrow := becomes_due (.iceSettleEnd dt) s dt Part.dueIceSettle Part.endIceSettle hr rfl
        ((dueIceSettle_iff p e hs he).2 hle)
      obtain ⟨hstock, hstate, hcopy, hpark⟩ := endIceSettle_spec p
      obtain ⟨-, hline, hloads, -⟩ := endIceSettle_frame p
      exact ⟨_, hrow, hstock, hstate, hcopy, hpark, hloads, hline⟩

end Sys2Proof.Machine

namespace Sys2Proof.Machine

/-! The paddle released (R127). -/

/-- The inputs with a paddle's release taken (R41). -/
def Sense.releasedAt (pad : Paddle) (c : Sense) : Sense :=
  match pad with
  | .water => { c with waterPaddle := some .released, waterPin.level := some .released }
  | .ice => { c with icePaddle := some .released, icePin.level := some .released }

theorem paddleBecomes_released (pad : Paddle) (p : Part) (h : p.sense.paddle pad = some .pressed) :
    p.paddleBecomes pad .released = Part.judgeRelease pad { p with sense := p.sense.setPaddle .released pad } := by
  simp only [Part.paddleBecomes, h]

/-- A release that has stood sets the paddle's state and the level told (R41). -/
theorem releasedAt_eq (pad : Paddle) (c : Sense) (now : Nat) (hs : (c.paddlePin pad).stood now 30000 .released) :
    (c.tellPaddle now .released pad).setPaddle .released pad = c.releasedAt pad := by
  cases pad with
  | water =>
    rw [Sense.tellPaddle, tell_of_stood now 30000 .released c.waterPin hs]
    rfl
  | ice =>
    rw [Sense.tellPaddle, tell_of_stood now 30000 .released c.icePin hs]
    rfl

/-- A release that has stood is judged (R41, R127). -/
theorem unpress_stood (pad : Paddle) (p : Part) (hp : p.sense.paddle pad = some .pressed)
    (hs : (p.sense.paddlePin pad).stood p.clock.now 30000 .released) :
    p.unpress pad = Part.judgeRelease pad { p with sense := p.sense.releasedAt pad } := by
  have htold : (p.tellPaddle pad .released).sense.paddle pad = some .pressed :=
    ((paddleInput pad).state_tell .released p).trans hp
  rw [unpress_row, Input.row_stood (paddleInput pad) (· = some .pressed) .released p hp (by decide) hs,
    ← releasedAt_eq pad p.sense p.clock.now hs]
  exact paddleBecomes_released pad _ htold

theorem Ticket.isWater_iff (t : Ticket) :
    t.isWater = true ↔ t.kind = some .waterPortion ∨ t.kind = some .waterHold ∨ t.kind = some .flush := by
  simp [Ticket.isWater, or_assoc]

theorem Ticket.isIce_iff (t : Ticket) : t.isIce = true ↔ t.kind = some .icePortion ∨ t.kind = some .iceHold := by
  simp [Ticket.isIce]

/-- A ticket's paddle is the one of its medium (R125). -/
theorem paddle_iff (t : Ticket) (pad : Paddle) :
    t.paddle = some pad ↔
      pad = .water ∧ (t.kind = some .waterPortion ∨ t.kind = some .waterHold ∨ t.kind = some .flush) ∨
        pad = .ice ∧ (t.kind = some .icePortion ∨ t.kind = some .iceHold) := by
  rw [← t.isWater_iff, ← t.isIce_iff, Ticket.paddle]
  by_cases hw : t.isWater = true
  · have hi : ¬t.isIce = true := fun h => by
      rw [(isIce_of_kind t (t.isIce_iff.1 h)).2] at hw
      cases hw
    simp [hw, hi, eq_comm]
  · by_cases hi : t.isIce = true <;> simp [hw, hi, eq_comm]

/-- The head is held by a paddle: its press started it, and no LATCH keeps it (R127). -/
theorem heldBy_iff (pad : Paddle) (p : Part) (n : TicketNo) (hh : p.pool.queue.head? = some n) :
    p.heldBy pad = true ↔
      p.outlet.paddleStarted = true ∧ (p.ticket n).paddle = some pad ∧ (p.ticket n).request.latch = false := by
  simp only [Part.heldBy, headIs_of_head p n _ hh, Bool.and_eq_true, beq_iff_eq, Bool.not_eq_true']

theorem judgeRelease_held (pad : Paddle) (p : Part) (n : TicketNo) (hh : p.pool.queue.head? = some n)
    (h : p.heldBy pad = true) : p.judgeRelease pad = p.stopHead (p.ticket n).releaseOutcome := by
  have hrelease : p.headRelease = (p.ticket n).releaseOutcome := by
    rw [Part.headRelease, show p.head = some n from hh]
    rfl
  rw [Part.judgeRelease, if_pos h, hrelease]

theorem judgeRelease_free (pad : Paddle) (p : Part) (h : ¬p.heldBy pad = true) : p.judgeRelease pad = p := if_neg h

theorem releaseOutcome_eq (t : Ticket) :
    t.releaseOutcome = if t.kind = some .waterHold ∨ t.kind = some .iceHold then .complete else .released := by
  simp only [Ticket.releaseOutcome, Bool.or_eq_true, beq_iff_eq]

/-- Settles O41: a release is judged by `heldBy_iff`, and stops the head at its stage (`stopHead_stage`,
`lineWait_of_head`). -/
theorem paddleReleasesEndTheHead : Obligations.PaddleReleasesEndTheHead := by
  intro s dt pad n rest hr p t released water ice held o hpressed hstood hqueue
  have hreleased : released = p.sense.releasedAt pad := by cases pad <;> rfl
  have hpressed' : p.sense.paddle pad = some .pressed := by cases pad <;> exact hpressed
  have hstood' : (p.sense.paddlePin pad).stood p.clock.now 30000 .released := by cases pad <;> exact hstood
  let u : Part := { p with sense := released }
  have hh : u.pool.queue.head? = some n := congrArg List.head? hqueue
  have hrow : Becomes (.paddleRelease dt pad) s (u.judgeRelease pad).settle := by
    have h : Becomes (.paddleRelease dt pad) s (p.unpress pad).settle :=
      becomes_row _ s dt (fun p => (p.unpress pad).settle) hr rfl
    rwa [unpress_stood pad p hpressed' hstood', ← hreleased] at h
  have hheld : u.heldBy pad = true ↔ held := by
    rw [heldBy_iff pad u n hh, paddle_iff]
    exact and_congr_right fun _ => and_comm
  refine ⟨fun hnot => ?_, fun hh' => ?_⟩
  · rwa [judgeRelease_free pad u fun h => hnot (hheld.1 h)] at hrow
  · have hstop : u.judgeRelease pad = u.stopHead o :=
      (judgeRelease_held pad u n hh (hheld.2 hh')).trans (congrArg (Part.stopHead · u) (releaseOutcome_eq _))
    rw [hstop] at hrow
    obtain ⟨-, -, hsense, -⟩ := (stopHead_frame o u).1
    obtain ⟨hopening, hwater, hrun, -⟩ := stopHead_stage u n o hh
    refine ⟨_, hrow, hsense, fun hs hl => ?_, fun hs => ?_, fun hs hw ho hl => ?_, fun hs hi => ?_, fun hs => ?_⟩
    · obtain ⟨hticket, -, hleft, -, -, -, hline, hidle, -⟩ := lineWait_of_head u n o hh hs (.inl hl)
      refine ⟨congrArg Line.dispenseClaim hline, hidle, ?_, ?_, ?_, ?_⟩
      · rw [hleft, hqueue]
        exact List.erase_cons_head n rest
      · rw [hticket]; rfl
      · rw [hticket]; rfl
      · rw [hticket]; rfl
    · obtain ⟨⟨hstopping, -, hending, -⟩, hclosing, -, hopen, hclose, -⟩ := hopening hs
      exact ⟨hclosing, hopen, hclose, hending, hstopping⟩
    · obtain ⟨⟨hstopping, -⟩, hstate, hline, hending, hinlet, hdispense, -⟩ := hwater hs hw hl ho
      exact ⟨hline, hending, hinlet, hdispense, hstate, hstopping⟩
    · obtain ⟨⟨hstopping, -, hending, -⟩, hstate, hforward, hreverse, hcrusher, hhold, -⟩ := hrun hs (.inl hi)
      exact ⟨hstate, hending, hforward, hreverse, hcrusher, hstopping, hhold⟩
    · exact stopHead_rests u o (.inr hs)

end Sys2Proof.Machine

namespace Sys2Proof.Machine

/-! The freezer door, and the pause of the head (R81, R138, R139). -/

/-- A door that has stood open is an opening, handed to the head (R41, R138). -/
theorem doorOpening_stood (p : Part) (hd : p.sense.door = some .closed)
    (hs : p.sense.doorPin.stood p.clock.now 100000 .opened) :
    p.doorOpening =
      Part.doorOpens { p with sense := { p.sense with door := some .opened, doorPin.level := some .opened } } := by
  rw [doorOpening_row, Input.row_stood doorInput (· = some .closed) .opened p hd (by decide) hs]
  change Part.doorBecomes .opened (p.tellDoor .opened) = _
  rw [Part.tellDoor, tell_of_stood _ _ _ _ hs]
  unfold Part.doorBecomes
  rw [hd]

/-- A door that has stood closed is a closing, handed to the head (R41, R139). -/
theorem doorClosing_stood (p : Part) (hd : p.sense.door = some .opened)
    (hs : p.sense.doorPin.stood p.clock.now 100000 .closed) :
    p.doorClosing =
      Part.doorCloses { p with sense := { p.sense with door := some .closed, doorPin.level := some .closed } } := by
  rw [doorClosing_row, Input.row_stood doorInput (· = some .opened) .closed p hd (by decide) hs]
  change Part.doorBecomes .closed (p.tellDoor .closed) = _
  rw [Part.tellDoor, tell_of_stood _ _ _ _ hs]
  unfold Part.doorBecomes
  rw [hd]

theorem doorOpens_waits (p : Part) (h : p.outlet.state = .lineWait ∨ p.outlet.state = .opening) :
    p.doorOpens = p.startPause := by
  rcases h with h | h <;> simp only [Part.doorOpens, h]

/-- Outside LINE_WAIT, OPENING and RUNNING the door changes nothing at the outlet (R138). -/
theorem doorOpens_rests (p : Part) (hr : p.outlet.state ≠ .running) (hw : p.outlet.state ≠ .lineWait)
    (ho : p.outlet.state ≠ .opening) : p.doorOpens = p := by
  unfold Part.doorOpens
  split
  next h => exact absurd h hw
  next h => exact absurd h ho
  next h => exact absurd h hr
  all_goals rfl

theorem doorOpens_water (p : Part) (n : TicketNo) (hh : p.pool.queue.head? = some n) (h : p.outlet.state = .running)
    (hw : (p.ticket n).isWater = true) :
    p.doorOpens = Part.startPause { p.pauseLine with outlet.state := .paused } := by
  simp only [Part.doorOpens, h, headIs_of_head p n _ hh, hw, if_true]

theorem doorOpens_run (p : Part) (n : TicketNo) (hh : p.pool.queue.head? = some n) (h : p.outlet.state = .running)
    (hw : (p.ticket n).isWater = false) :
    p.doorOpens = Part.startPause { p.stopAuger with outlet.state := .paused } := by
  simp only [Part.doorOpens, h, headIs_of_head p n _ hh, hw, Bool.false_eq_true, if_false]

theorem pauseLine_open (p : Part) (h : p.line.state = .opened) (ho : p.line.owner = some .dispense) :
    p.pauseLine =
      { p with line := { p.line.shut with state := .held, work := p.line.work.map (·.stopOpen p.clock.now) } } :=
  if_pos ⟨h, ho⟩

theorem resumeLine_held (p : Part) (h : p.line.state = .held) :
    p.resumeLine =
      { p with line := { p.line.openFor .dispense with work := p.line.work.map (·.resume p.clock.now) } } :=
  if_pos h

theorem doorCloses_waits (p : Part) (h : p.outlet.state = .lineWait ∨ p.outlet.state = .opening) :
    p.doorCloses = { p with outlet.pauseEnd := none } := by
  rcases h with h | h <;> simp only [Part.doorCloses, h]

/-- A head that no paddle started resumes with the door (R139). -/
theorem doorCloses_resumes (p : Part) (h : p.outlet.state = .paused) (hp : p.outlet.paddleStarted = false) :
    p.doorCloses = Part.resumeHead { p with outlet.pauseEnd := none } := by
  simp only [Part.doorCloses, Part.mayResume, h, hp, Bool.not_false, Bool.true_or, if_true]

theorem resumeHead_water (p : Part) (n : TicketNo) (hh : p.pool.queue.head? = some n)
    (hw : (p.ticket n).isWater = true) : p.resumeHead = { p.resumeLine with outlet.state := .running } := by
  rw [Part.resumeHead, headIs_of_head p n _ hh, if_pos hw]

theorem resumeHead_flap (p : Part) (n : TicketNo) (hh : p.pool.queue.head? = some n)
    (hw : (p.ticket n).isWater = false) (hf : p.sense.flap = some .made) : p.resumeHead = p.enterRunning := by
  rw [Part.resumeHead, headIs_of_head p n _ hh, hw, if_neg Bool.false_ne_true, if_pos (.inl hf)]

theorem setRunTarget_eq (p : Part) : p.setRunTarget = { p with outlet.run := p.setRunTarget.outlet.run } := by
  unfold Part.setRunTarget
  split <;> rfl

/-- RUNNING, for a head whose run is the auger's (R134). -/
theorem enterRunning_run (p : Part) (n : TicketNo) (hh : p.pool.queue.head? = some n)
    (hc : (p.ticket n).isChuteTest = false) :
    p.enterRunning = Part.driveForward { p.setRunTarget with outlet.state := .running } := by
  rw [Part.enterRunning, headIs_of_head p n _ hh, hc, if_neg Bool.false_ne_true]

theorem duePause_iff (p : Part) (e : Nat) (hs : p.outlet.state = .paused) (hd : p.sense.door = some .opened)
    (he : p.outlet.pauseEnd = some e) : p.duePause = true ↔ e ≤ p.clock.now := by
  rw [Part.duePause, hs, hd, he, beq_self_eq_true, beq_self_eq_true, Bool.true_and, Bool.true_and, passed_some]

/-- What an opening of the door does to a head, by its stage (R138). -/
theorem doorOpens_stage (p : Part) (n : TicketNo) (hh : p.pool.queue.head? = some n) :
    let q := p.doorOpens
    let pause := some (p.clock.now + p.supervision.params.doorPauseLimit * 1000000)
    (p.outlet.state = .running → (p.ticket n).isWater = true → p.line.state = .opened →
      p.line.owner = some .dispense →
      q.outlet.state = .paused ∧ q.outlet.pauseEnd = pause ∧ q.line.state = .held ∧ q.line.inlet = false ∧
        q.line.dispense = false ∧ q.line.owner = some .dispense) ∧
    (p.outlet.state = .running → (p.ticket n).isWater = false →
      q.outlet.state = .paused ∧ q.outlet.pauseEnd = pause ∧ q.outlet.augerForward = false ∧
        q.outlet.augerReverse = false ∧ q.outlet.crusher = false ∧ q.outlet.flap = p.outlet.flap) := by
  refine ⟨fun hs hw hl ho => ?_, fun hs hw => ?_⟩
  · rw [doorOpens_water p n hh hs hw, pauseLine_open p hl ho]
    exact ⟨rfl, rfl, rfl, rfl, rfl, ho⟩
  · rw [doorOpens_run p n hh hs hw]
    exact ⟨rfl, rfl, rfl, rfl, rfl, rfl⟩

/-- The resumption of a paused head that no paddle started, by its kind (R81, R139). -/
theorem doorCloses_stage (p : Part) (n : TicketNo) (hh : p.pool.queue.head? = some n) (hs : p.outlet.state = .paused)
    (hp : p.outlet.paddleStarted = false) :
    let q := p.doorCloses
    ((p.ticket n).isWater = true → p.line.state = .held →
      q.outlet.state = .running ∧ q.outlet.pauseEnd = none ∧ q.line.state = .opened ∧ q.line.inlet = true ∧
        q.line.dispense = true) ∧
    ((p.ticket n).isWater = false → (p.ticket n).isChuteTest = false → p.sense.flap = some .made →
      q.outlet.state = .running ∧ q.outlet.pauseEnd = none ∧ q.outlet.augerForward = true ∧
        q.outlet.run.jamDeadline = some (p.clock.now + 1000000)) := by
  let u : Part := { p with outlet.pauseEnd := none }
  intro q
  have hq : q = u.resumeHead := doorCloses_resumes p hs hp
  rw [hq]
  refine ⟨fun hw hl => ?_, fun hw hc hf => ?_⟩
  · rw [resumeHead_water u n hh hw, resumeLine_held u hl]
    exact ⟨rfl, rfl, rfl, rfl, rfl⟩
  · rw [resumeHead_flap u n hh hw hf, enterRunning_run u n hh hc, setRunTarget_eq u]
    exact ⟨rfl, rfl, rfl, rfl⟩

/-- The end of a delivery with the door still open, by the head's kind (R139). -/
theorem stopDelivery_stage (p : Part) (n : TicketNo) (o : TicketOutcome) (hh : p.pool.queue.head? = some n) :
    let q := p.stopDelivery o
    ((p.ticket n).isWater = true → p.line.state = .held → p.line.owner = some .dispense →
      q.line.state = .settle ∧ q.line.ending = some (.release o) ∧ q.outlet.state = .stopping ∧
        q.outlet.ending = some o ∧ (q.ticket n).state = .stopping) ∧
    ((p.ticket n).isWater = false → (p.ticket n).isChuteTest = false →
      q.outlet.state = .stopping ∧ q.outlet.ending = some o ∧ (q.ticket n).state = .stopping ∧
        q.outlet.holdEnd = some (p.clock.now + p.supervision.params.chuteHold * 1000000)) := by
  refine ⟨fun hw hl ho => ?_, fun hw hc => ?_⟩
  · obtain ⟨⟨hstopping, -, hending, -⟩, -, hstate, hline, hreason, -⟩ := endWork_of_head p n o hh (.inr hl) ho
    rw [stopDelivery_water p n o hh hw]
    exact ⟨hline, hreason, hstate, hending, hstopping⟩
  · obtain ⟨⟨hstopping, -, hending, -⟩, hstate, -, -, -, hhold, -⟩ := stopRun_of_head p n o hh hc
    rw [stopDelivery_run p n o hh hw hc]
    exact ⟨hstate, hending, hstopping, hhold⟩

/-- Settles O42: the stages of the head at an opening, at a closing, and at the end of the pause. -/
theorem doorPausesTheHead : Obligations.DoorPausesTheHead := by
  intro s dt n rest hr p t water ice pause hqueue
  have hh : p.pool.queue.head? = some n := congrArg List.head? hqueue
  have iceRuns (h : ice) : t.isWater = false ∧ t.isChuteTest = false := runs_of_kind t (.inl h)
  refine ⟨fun hd hst => ?_, fun hd hst => ?_, fun e hs hd he => ⟨fun hlt => ?_, fun hle => ?_⟩⟩
  · let u : Part := { p with sense := { p.sense with door := some .opened, doorPin.level := some .opened } }
    have hrow : Becomes (.doorOpening dt) s p.doorOpening.settle :=
      becomes_row _ s dt (fun p => p.doorOpening.settle) hr rfl
    rw [doorOpening_stood p hd hst] at hrow
    obtain ⟨-, -, hsense, -⟩ := (doorOpens_frame u).1
    obtain ⟨hwater, hice⟩ := doorOpens_stage u n hh
    refine ⟨u.doorOpens, hrow, hsense, fun hs hw => hwater hs (isWater_of_kind t hw),
      fun hs hi => hice hs (iceRuns hi).1, fun hs => ?_, fun hs hl ho => ?_⟩
    · rw [hsense, doorOpens_waits u hs]
      rfl
    · rw [doorOpens_rests u hs hl ho]
  · let u : Part := { p with sense := { p.sense with door := some .closed, doorPin.level := some .closed } }
    have hrow : Becomes (.doorClosing dt) s p.doorClosing.settle :=
      becomes_row _ s dt (fun p => p.doorClosing.settle) hr rfl
    rw [doorClosing_stood p hd hst] at hrow
    obtain ⟨-, -, hsense, -⟩ := (doorCloses_frame u).1
    refine ⟨u.doorCloses, hrow, hsense, fun hs hp hw => (doorCloses_stage u n hh hs hp).1 (isWater_of_kind t hw),
      fun hs hp hi => (doorCloses_stage u n hh hs hp).2 (iceRuns hi).1 (iceRuns hi).2, fun hs => ?_⟩
    rw [hsense, doorCloses_waits u hs]
  · exact becomes_early _ s dt Part.duePause (Part.stopDelivery .doorOpen) hr rfl
      (not_due (duePause_iff p e hs hd he) hlt)
  · have hrow := becomes_due (.pauseTimerEnd dt) s dt Part.duePause (Part.stopDelivery .doorOpen) hr rfl
      ((duePause_iff p e hs hd he).2 hle)
    obtain ⟨hwater, hice⟩ := stopDelivery_stage p n .doorOpen hh
    exact ⟨_, hrow, fun hw => hwater (isWater_of_kind t hw), fun hi => hice (iceRuns hi).1 (iceRuns hi).2⟩

end Sys2Proof.Machine

namespace Sys2Proof.Machine

/-! The motions of the flap, and the falls of the open switch (R130 to R132, R137, R142). -/

/-- A change of the open switch that has stood reaches the outlet (R41, R130). -/
theorem flapSwitch_stood (s : State) (dt : Nat) (c w : Contact) (hr : s.part.resetting = none)
    (hw : (s.later dt).sense.flap = some w) (hne : w ≠ c)
    (hs : (s.later dt).sense.flapPin.stood (s.later dt).clock.now 10000 c) :
    Becomes (.flapSwitchChange dt c) s
      (Part.flapChanged c
        { s.later dt with
          sense := { (s.later dt).sense with flap := some c, flapPin.level := some c } }).settle := by
  have hrow : Becomes (.flapSwitchChange dt c) s ((s.later dt).flapSwitch c).settle :=
    becomes_row _ s dt (fun p => (p.flapSwitch c).settle) hr rfl
  have htakes : otherThan c (s.later dt).sense.flap := by
    rw [hw]
    exact ⟨rfl, fun h => hne (Option.some.inj h)⟩
  rw [flapSwitch_row, Input.row_stood flapInput (otherThan c) c _ htakes (fun h => h.2 rfl) hs] at hrow
  change Becomes _ _ (Part.flapBecomes c ((s.later dt).tellFlap c)).settle at hrow
  have hread : ((s.later dt).tellFlap c).sense.flap ≠ none := by
    change (s.later dt).sense.flap ≠ none
    rw [hw]
    exact Option.some_ne_none w
  rwa [Part.flapBecomes, if_neg hread, Part.tellFlap, tell_of_stood _ _ _ _ hs] at hrow

theorem flapChanged_opens (p : Part) (h : p.outlet.flap = .opening) : p.flapChanged .made = p.openingSucceeds := by
  simp only [Part.flapChanged, h]

theorem flapChanged_rises (p : Part) (h : p.outlet.flap = .closed) : p.flapChanged .made = p.beginClosing := by
  simp only [Part.flapChanged, h]

theorem flapChanged_clears (p : Part) (h : p.outlet.flap = .opened) (hf : p.outlet.chuteFault = true) :
    p.flapChanged .released = Part.flapCloses { p with outlet.chuteFault := false } := by
  simp only [Part.flapChanged, h, hf, if_true]

theorem flapChanged_falls (p : Part) (h : p.outlet.flap = .opened) (hf : p.outlet.chuteFault = false) :
    p.flapChanged .released = p.flapFalls := by
  simp only [Part.flapChanged, h, hf, Bool.false_eq_true, if_false]

/-- What the flap become CLOSED leaves: both outputs released, and the duct timer or no H4 demand (R130, R142). -/
def Part.FlapClosed (q p : Part) : Prop :=
  q.outlet.flap = .closed ∧ q.outlet.flapOpenOut = false ∧ q.outlet.flapCloseOut = false ∧
    q.outlet.flapDeadline = none ∧
    (1 ≤ p.supervision.params.ductAfter →
      q.outlet.ductEnd = some (p.clock.now + p.supervision.params.ductAfter * 1000000)) ∧
    (p.supervision.params.ductAfter = 0 → q.loads.heaters[(4 : HeaterNo)].ownerDemand = false)

theorem flapCloses_eq (p : Part) :
    p.flapCloses = { p with outlet := p.flapCloses.outlet, loads := p.flapCloses.loads } := by
  unfold Part.flapCloses Part.startDuct
  split <;> rfl

theorem flapCloses_pool (p : Part) : p.flapCloses.pool = p.pool := by rw [flapCloses_eq p]

theorem flapCloses_closed (p : Part) : p.flapCloses.FlapClosed p := by
  rw [Part.FlapClosed, flapCloses_outlet]
  refine ⟨rfl, rfl, rfl, rfl, fun h => ?_, fun h => ?_⟩
  · exact if_neg (Nat.ne_of_gt h)
  · rw [Part.flapCloses, Part.startDuct, if_pos h]
    change (p.loads.update 4 Heater.dropOwner).heaters[(4 : HeaterNo)].ownerDemand = false
    rw [heaters_update, if_pos rfl]
    exact (dropOwner_spec _).1

/-- The head ends with its record kept, and the outlet is IDLE (R12, R122). -/
theorem finishHead_of_head (p : Part) (n : TicketNo) (o : TicketOutcome) (hh : p.pool.queue.head? = some n)
    (hk : p.keepsRecord n) : p.finishHead o = (p.toCompletion n o).idleOutlet := by
  rw [Part.finishHead, show p.head = some n from hh]
  exact congrArg Part.idleOutlet (finish_kept p n o hk)

/-- What the end of the head leaves (R12, R122). -/
def Part.HeadEnded (q p : Part) (n : TicketNo) (rest : List TicketNo) (o : TicketOutcome) : Prop :=
  q.outlet.state = .idle ∧ q.pool.queue = rest ∧ q.ticket n = (p.ticket n).finished p.clock.partSeconds o

theorem finishHead_ended (p : Part) (n : TicketNo) (rest : List TicketNo) (o : TicketOutcome)
    (hq : p.pool.queue = n :: rest) (hk : p.keepsRecord n) : (p.finishHead o).HeadEnded p n rest o := by
  rw [finishHead_of_head p n o (congrArg List.head? hq) hk]
  refine ⟨rfl, ?_, ticket_toCompletion_self p n o⟩
  change p.pool.queue.erase n = rest
  rw [hq]
  exact List.erase_cons_head n rest

/-- The outlet at the end of the head: its flap and its motors are as they were. -/
theorem finishHead_outlet (p : Part) (n : TicketNo) (o : TicketOutcome) (hh : p.pool.queue.head? = some n)
    (hk : p.keepsRecord n) :
    (p.finishHead o).outlet =
      { p.outlet with
        state := .idle, paddleStarted := false, tankNote := none, ending := none, run := {}, pauseEnd := none,
        holdEnd := none } := by
  rw [finishHead_of_head p n o hh hk]
  rfl

theorem finishHead_closed (p q : Part) (n : TicketNo) (o : TicketOutcome) (hh : q.pool.queue.head? = some n)
    (hk : q.keepsRecord n) (h : q.FlapClosed p) : (q.finishHead o).FlapClosed p := by
  obtain ⟨-, -, hloads, -⟩ := finishHead_frame o q
  rw [Part.FlapClosed, finishHead_outlet q n o hh hk, hloads]
  exact h

/-- The run of a head with the flap open: what an opening that succeeds with the door closed starts (R130, R133, R134). -/
theorem openingSucceeds_runs (p : Part) (n : TicketNo) (hh : p.pool.queue.head? = some n)
    (hd : p.sense.door ≠ some .opened) (hc : (p.ticket n).isChuteTest = false) (he : p.outlet.run.entered = false) :
    let q := p.openingSucceeds
    q.sense = p.sense ∧ q.outlet.flap = .opened ∧ q.outlet.flapOpenOut = false ∧ q.outlet.state = .running ∧
      q.outlet.augerForward = true ∧ q.outlet.augerReverse = false ∧
      q.outlet.crusher = ((p.ticket n).isIce && (p.ticket n).request.form == some .crushed) ∧
      q.outlet.run.entered = true ∧ q.outlet.run.target = p.runTarget (p.ticket n) ∧
      q.outlet.run.jamDeadline = some (p.clock.now + 1000000) := by
  let u : Part := { p with outlet := p.outlet.restFlap .opened }
  have hu : p.openingSucceeds = u.enterRunning := if_neg hd
  have htarget : u.setRunTarget =
      { u with outlet.run := { u.outlet.run with entered := true, target := p.runTarget (p.ticket n) } } := by
    have hnot : ¬u.outlet.run.entered = true := by
      change ¬p.outlet.run.entered = true
      rw [he]
      decide
    rw [Part.setRunTarget, if_neg hnot, show u.head = some n from hh]
    rfl
  intro q
  have hq : q = _ := hu.trans (enterRunning_run u n hh hc)
  rw [htarget] at hq
  rw [hq]
  exact ⟨rfl, rfl, rfl, rfl, rfl, rfl,
    headIs_of_head u n (fun t => t.isIce && t.request.form == some .crushed) hh, rfl, rfl, rfl⟩

theorem runTarget_portion (p : Part) (t : Ticket) (h : t.kind = some .icePortion) :
    p.runTarget t =
      t.request.amount.map fun a =>
        (a * 10000 + p.supervision.params.augerRate - 1) / p.supervision.params.augerRate := by
  have ha : t.isAugerTest = false := by
    rw [Ticket.isAugerTest, h]
    rfl
  rw [Part.runTarget, ha, if_neg Bool.false_ne_true, if_pos h]

theorem runTarget_hold (p : Part) (t : Ticket) (h : t.kind = some .iceHold) : p.runTarget t = none := by
  have ha : t.isAugerTest = false := by
    rw [Ticket.isAugerTest, h]
    rfl
  rw [Part.runTarget, ha, if_neg Bool.false_ne_true, if_neg (by rw [h]; decide)]

theorem dueFlapOpen_iff (p : Part) (e : Nat) (h : p.outlet.flap = .opening) (he : p.outlet.flapDeadline = some e) :
    p.dueFlapOpen = true ↔ e ≤ p.clock.now := by
  rw [Part.dueFlapOpen, h, he, beq_self_eq_true, Bool.true_and, passed_some]

theorem dueFlapClose_iff (p : Part) (e : Nat) (h : p.outlet.flap = .closing) (he : p.outlet.flapDeadline = some e) :
    p.dueFlapClose = true ↔ e ≤ p.clock.now := by
  rw [Part.dueFlapClose, h, he, beq_self_eq_true, Bool.true_and, passed_some]

theorem abandonOpening_ice (p : Part) (n : TicketNo) (o : TicketOutcome) (hh : p.pool.queue.head? = some n) :
    (p.abandonOpening o).ice = p.ice := by
  rw [Part.abandonOpening, stopping_of_head p n o hh]
  rfl

/-! The end of a closing (R130, R131, R137). -/

/-- The part at the end of a closing, the flap judged by its switch and no ticket ended yet (R130, R131). -/
def Part.flapJudged (p : Part) : Part :=
  if p.sense.flap = some .made then
    Part.notify .chuteFault { p with outlet := { p.outlet.restFlap .opened with chuteFault := true } }
  else p.flapCloses

theorem flapJudged_made (p : Part) (h : p.sense.flap = some .made) :
    p.flapJudged = Part.notify .chuteFault { p with outlet := { p.outlet.restFlap .opened with chuteFault := true } } :=
  if_pos h

theorem flapJudged_fell (p : Part) (h : p.sense.flap ≠ some .made) : p.flapJudged = p.flapCloses := if_neg h

/-- The judgement of a closing leaves the pool, the clock and the outlet's stage. -/
theorem flapJudged_keeps (p : Part) :
    p.flapJudged.pool = p.pool ∧ p.flapJudged.clock = p.clock ∧ p.flapJudged.outlet.state = p.outlet.state ∧
      p.flapJudged.outlet.ending = p.outlet.ending ∧ p.flapJudged.outlet.flapCloseOut = false := by
  by_cases h : p.sense.flap = some .made
  · rw [flapJudged_made p h]
    exact ⟨rfl, rfl, rfl, rfl, rfl⟩
  · rw [flapJudged_fell p h, flapCloses_outlet]
    exact ⟨flapCloses_pool p, (flapCloses_frame p).1.1, rfl, rfl, rfl⟩

theorem judgeClosing_eq (p : Part) :
    p.judgeClosing = Part.endClosing (decide (p.sense.flap = some .made)) p.flapJudged := by
  by_cases h : p.sense.flap = some .made
  · rw [flapJudged_made p h, Part.judgeClosing, if_pos h, decide_eq_true h]
  · rw [flapJudged_fell p h, Part.judgeClosing, if_neg h, decide_eq_false h]

/-- A closing of the controller's own ends no ticket (R137). -/
theorem judgeClosing_own (p : Part) (h : p.outlet.state ≠ .closing) : p.judgeClosing = p.flapJudged := by
  rw [judgeClosing_eq]
  exact if_neg (by rw [(flapJudged_keeps p).2.2.1]; exact h)

/-- The end of a head's closing ends the head (R137). -/
theorem judgeClosing_head (p : Part) (o : TicketOutcome) (h : p.outlet.state = .closing) (he : p.outlet.ending = some o) :
    p.judgeClosing =
      p.flapJudged.finishHead (closingOutcome (decide (p.sense.flap = some .made)) o) := by
  obtain ⟨-, -, hstate, hending, -⟩ := flapJudged_keeps p
  rw [judgeClosing_eq, Part.endClosing, if_pos (hstate.trans h), hending, he]
  rfl

end Sys2Proof.Machine

namespace Sys2Proof.Machine

/-! The fall of the open switch while the flap is OPEN for the head (R132), and the verdict on the flap's motions. -/

theorem needsFlap_of_kind (t : Ticket)
    (h : (t.kind = some .icePortion ∨ t.kind = some .iceHold) ∨
      (t.kind = some .loadTest ∧ t.request.load = some .chute) ∨
      (t.kind = some .loadTest ∧ t.request.load = some .auger)) : t.needsFlap = true := by
  rw [Ticket.needsFlap, Bool.or_eq_true, Bool.or_eq_true, t.isIce_iff, isChuteTest_iff, isAugerTest_iff]
  exact or_assoc.2 h

theorem flapFalls_runs (p : Part) (n : TicketNo) (hh : p.pool.queue.head? = some n)
    (hn : (p.ticket n).needsFlap = true) (hs : p.outlet.state = .running ∨ p.outlet.state = .paused) :
    p.flapFalls = p.endRun.flapCloses.finishHead .chuteFault := by
  rw [Part.flapFalls, headIs_of_head p n _ hh, if_pos hn]
  rcases hs with hs | hs <;> rw [hs]

theorem flapFalls_holds (p : Part) (n : TicketNo) (o : TicketOutcome) (hh : p.pool.queue.head? = some n)
    (hn : (p.ticket n).needsFlap = true) (hs : p.outlet.state = .stopping) (ho : p.outlet.ending = some o) :
    p.flapFalls = p.flapCloses.finishHead o := by
  rw [Part.flapFalls, headIs_of_head p n _ hh, if_pos hn, hs, ho]
  rfl

/-- The closing of the flap touches no ticket, so what it leaves of a head is the head's own end. -/
theorem flapCloses_finishHead (p : Part) (n : TicketNo) (rest : List TicketNo) (o : TicketOutcome)
    (hq : p.pool.queue = n :: rest) (hk : p.keepsRecord n) :
    let q := p.flapCloses.finishHead o
    q.FlapClosed p ∧ q.HeadEnded p n rest o ∧ q.ice = p.ice ∧
      q.outlet.augerForward = p.outlet.augerForward ∧ q.outlet.augerReverse = p.outlet.augerReverse ∧
      q.outlet.crusher = p.outlet.crusher ∧ q.outlet.holdEnd = none := by
  have hpool := flapCloses_pool p
  obtain ⟨⟨hclock, -⟩, -, hice, -⟩ := flapCloses_frame p
  have hticket (m : TicketNo) : p.flapCloses.ticket m = p.ticket m := by rw [Part.ticket, hpool]; rfl
  have hq' : p.flapCloses.pool.queue = n :: rest := by rw [hpool, hq]
  have hh' : p.flapCloses.pool.queue.head? = some n := congrArg List.head? hq'
  have hk' : p.flapCloses.keepsRecord n := by
    rw [Part.keepsRecord, hticket, hpool]
    exact hk
  obtain ⟨hidle, hqueue, hended⟩ := finishHead_ended p.flapCloses n rest o hq' hk'
  obtain ⟨-, -, -, hice', -⟩ := finishHead_frame o p.flapCloses
  refine ⟨finishHead_closed p _ n o hh' hk' (flapCloses_closed p), ⟨hidle, hqueue, ?_⟩, hice'.trans hice, ?_⟩
  · rw [hended, hticket, hclock]
  · rw [finishHead_outlet _ n o hh' hk', flapCloses_outlet]
    exact ⟨rfl, rfl, rfl, rfl⟩

theorem endRun_stock (p : Part) (n : TicketNo) (hh : p.pool.queue.head? = some n) :
    p.endRun.ice.stock =
      if (p.ticket n).isChuteTest = true then p.ice.stock
      else p.ice.stock - cubesOf p.supervision.params.augerRate (p.outlet.run.forward.read p.clock.now / 1000) := by
  rw [endRun_of_head p n hh]
  split
  · rfl
  · rw [reportAuger_stock]
    rfl

/-- A fall in RUNNING or PAUSED: the run ends, the flap is CLOSED, and the head is DONE CHUTE_FAULT (R132). -/
theorem flapFalls_run (p : Part) (n : TicketNo) (rest : List TicketNo) (hq : p.pool.queue = n :: rest)
    (hk : p.keepsRecord n) (hn : (p.ticket n).needsFlap = true)
    (hs : p.outlet.state = .running ∨ p.outlet.state = .paused) :
    let q := p.flapFalls
    q.FlapClosed p ∧ q.outlet.state = .idle ∧ q.pool.queue = rest ∧
      q.ticket n =
        ((p.ticket n).measure (p.stopAuger.runAmount (p.ticket n))).finished p.clock.partSeconds .chuteFault ∧
      q.ice.stock = p.endRun.ice.stock ∧ q.outlet.augerForward = false ∧ q.outlet.augerReverse = false ∧
      q.outlet.crusher = false ∧ q.outlet.holdEnd = none := by
  have hh : p.pool.queue.head? = some n := congrArg List.head? hq
  obtain ⟨hqueue, -, hfree, -, -, -, -, horigin, -⟩ := endRun_touches p n hh
  obtain ⟨⟨hclock, -, -, hsupervision, -⟩, -⟩ := endRun_frame p
  have hk' : p.endRun.keepsRecord n := by
    rw [Part.keepsRecord, horigin, hfree]
    exact hk
  obtain ⟨hclosed, ⟨hidle, hleft, hended⟩, hice, hforward, hreverse, hcrusher, hhold⟩ :=
    flapCloses_finishHead p.endRun n rest .chuteFault (hqueue.trans hq) hk'
  have houtlet := endRun_outlet p n hh
  rw [flapFalls_runs p n hh hn hs]
  refine ⟨?_, hidle, hleft, ?_, congrArg IceMaker.stock hice, ?_, ?_, ?_, hhold⟩
  · rwa [Part.FlapClosed, hclock, hsupervision] at hclosed
  · rw [hended, ticket_endRun p n hh, hclock]
  · rw [hforward, houtlet]
    rfl
  · rw [hreverse, houtlet]
    rfl
  · rw [hcrusher, houtlet]
    rfl

/-- The measured amount of an ice head is its cubes (R136). -/
theorem runAmount_ice (p : Part) (t : Ticket) (h : t.kind = some .icePortion ∨ t.kind = some .iceHold) :
    p.runAmount t = cubesOf p.supervision.params.augerRate p.forwardMs := by
  have hload : t.kind ≠ some .loadTest := by rcases h with h | h <;> rw [h] <;> decide
  have ha : ¬t.isAugerTest = true := fun h => hload ((isAugerTest_iff t).1 h).1
  have hc : ¬t.isChuteTest = true := fun h => hload ((isChuteTest_iff t).1 h).1
  rw [Part.runAmount, if_neg ha, if_neg hc]

/-- A head's opening: what the switch, or the deadline, makes of it (R130, R133, R134). -/
theorem opening_judged (s : State) (dt e : Nat) (n : TicketNo) (rest : List TicketNo) (hr : s.part.resetting = none) :
    let p := s.later dt
    let t := p.ticket n
    let ps := p.supervision.params
    p.pool.queue = n :: rest → p.outlet.flapDeadline = some e → p.outlet.flap = .opening →
    (p.sense.flap = some .released → p.sense.door = some .closed → p.sense.flapPin.stood p.clock.now 10000 .made →
      (t.kind = some .icePortion ∨ t.kind = some .iceHold) → p.outlet.run.entered = false →
      ∃ q : Part, Becomes (.flapSwitchChange dt .made) s q.settle ∧
        q.sense = { p.sense with flap := some .made, flapPin.level := some .made } ∧
        q.outlet.flap = .opened ∧ q.outlet.flapOpenOut = false ∧ q.outlet.state = .running ∧
        q.outlet.augerForward = true ∧ q.outlet.augerReverse = false ∧
        q.outlet.crusher = (t.request.form == some .crushed) ∧ q.outlet.run.entered = true ∧
        (∀ a : Nat, t.kind = some .icePortion → t.request.amount = some a →
          q.outlet.run.target = some ((a * 10000 + ps.augerRate - 1) / ps.augerRate)) ∧
        (t.kind = some .iceHold → q.outlet.run.target = none) ∧
        q.outlet.run.jamDeadline = some (p.clock.now + 1000000)) ∧
    (p.clock.now < e → Becomes (.flapOpenDeadline dt) s p) ∧
    (e ≤ p.clock.now →
      ∃ q : Part, Becomes (.flapOpenDeadline dt) s q.settle ∧ q.outlet.state = .closing ∧
        q.outlet.flap = .closing ∧ q.outlet.flapOpenOut = false ∧ q.outlet.flapCloseOut = true ∧
        q.outlet.flapDeadline = some (p.clock.now + 1500000) ∧ q.outlet.ending = some .chuteFault ∧
        (q.ticket n).state = .stopping ∧ q.ice.stock = p.ice.stock) := by
  intro p t ps hq he hflap
  have hh : p.pool.queue.head? = some n := congrArg List.head? hq
  have due := dueFlapOpen_iff p e hflap he
  refine ⟨fun hread hdoor hstood hice hentered => ?_, fun hlt => ?_, fun hle => ?_⟩
  · let u : Part := { p with sense := { p.sense with flap := some .made, flapPin.level := some .made } }
    have hrow := flapSwitch_stood s dt .made .released hr hread (by decide) hstood
    rw [flapChanged_opens u hflap] at hrow
    have hdoor' : u.sense.door ≠ some .opened := by
      change p.sense.door ≠ some .opened
      rw [hdoor]
      decide
    obtain ⟨hsense, hopened, hout, hrunning, hforward, hreverse, hcrusher, hentered', htarget, hjam⟩ :=
      openingSucceeds_runs u n hh hdoor' (runs_of_kind t (.inl hice)).2 hentered
    refine ⟨_, hrow, hsense, hopened, hout, hrunning, hforward, hreverse, ?_, hentered', fun a hk ha => ?_, fun hk => ?_,
      hjam⟩
    · rw [hcrusher, show (u.ticket n).isIce = true from (isIce_of_kind t hice).1, Bool.true_and]
      rfl
    · rw [htarget, runTarget_portion u (u.ticket n) hk, show (u.ticket n).request.amount = some a from ha]
      rfl
    · rw [htarget, runTarget_hold u (u.ticket n) hk]
  · exact becomes_early _ s dt Part.dueFlapOpen Part.openingFails hr rfl
      (not_due due hlt)
  · have hrow := becomes_due (.flapOpenDeadline dt) s dt Part.dueFlapOpen Part.openingFails hr rfl (due.2 hle)
    obtain ⟨⟨hstopping, -, hending, -⟩, ⟨hstate, hclosing, hopen, hclose, hdeadline⟩, -⟩ :=
      abandonOpening_of_head p n .chuteFault hh
    exact ⟨_, hrow, hstate, hclosing, hopen, hclose, hdeadline, hending, hstopping,
      congrArg IceMaker.stock (abandonOpening_ice p n .chuteFault hh)⟩

/-- The end of the head leaves the pending notices pending. -/
theorem finishHead_pending (p : Part) (n : TicketNo) (o : TicketOutcome) (m : Notice) (hh : p.pool.queue.head? = some n)
    (hk : p.keepsRecord n) (h : p.isPending m = true) : (p.finishHead o).isPending m = true := by
  rw [finishHead_of_head p n o hh hk]
  change (p.toCompletion n o).isPending m = true
  rw [Part.toCompletion, isPending_notify, Bool.or_eq_true]
  exact .inr h

theorem closingOutcome_failed (o : TicketOutcome) :
    closingOutcome true o = if o = .complete then .chuteFault else o := by
  simp only [closingOutcome, Bool.true_and, beq_iff_eq]

/-- A head's closing, judged at its end (R130, R131, R137). -/
theorem closing_judged (s : State) (dt e : Nat) (n : TicketNo) (rest : List TicketNo) (o : TicketOutcome)
    (hr : s.part.resetting = none) :
    let p := s.later dt
    let t := p.ticket n
    let ps := p.supervision.params
    p.pool.queue = n :: rest → p.outlet.flapDeadline = some e → p.outlet.flap = .closing →
    p.outlet.state = .closing → p.outlet.ending = some o →
    (p.clock.now < e → Becomes (.flapCloseEnd dt) s p) ∧
    (e ≤ p.clock.now → (t.origin = some .link ∨ 4 ≤ p.pool.free.length) →
      ∃ q : Part, Becomes (.flapCloseEnd dt) s q.settle ∧ q.outlet.flapCloseOut = false ∧
        q.outlet.state = .idle ∧ q.pool.queue = rest ∧ (q.ticket n).state = .done ∧
        (p.sense.flap = some .released →
          q.outlet.flap = .closed ∧ q.outlet.chuteFault = p.outlet.chuteFault ∧
            (q.ticket n).progress.outcome = some o ∧
            (1 ≤ ps.ductAfter → q.outlet.ductEnd = some (p.clock.now + ps.ductAfter * 1000000))) ∧
        (p.sense.flap = some .made →
          q.outlet.flap = .opened ∧ q.outlet.chuteFault = true ∧ q.isPending .chuteFault = true ∧
            (q.ticket n).progress.outcome = some (if o = .complete then .chuteFault else o))) := by
  intro p t ps hq he hflap hstate hending
  have due := dueFlapClose_iff p e hflap he
  refine ⟨fun hlt => ?_, fun hle hk => ?_⟩
  · exact becomes_early _ s dt Part.dueFlapClose Part.judgeClosing hr rfl
      (not_due due hlt)
  · have hrow := becomes_due (.flapCloseEnd dt) s dt Part.dueFlapClose Part.judgeClosing hr rfl (due.2 hle)
    rw [judgeClosing_head p o hstate hending] at hrow
    obtain ⟨hpool, hclock, -, -, hout⟩ := flapJudged_keeps p
    have hticket : p.flapJudged.ticket n = t := by rw [Part.ticket, hpool]; rfl
    have hq' : p.flapJudged.pool.queue = n :: rest := by rw [hpool, hq]
    have hk' : p.flapJudged.keepsRecord n := by
      rw [Part.keepsRecord, hticket, hpool]
      exact hk
    obtain ⟨hidle, hleft, hended⟩ := finishHead_ended p.flapJudged n rest
      (closingOutcome (decide (p.sense.flap = some .made)) o) hq' hk'
    have houtlet := finishHead_outlet p.flapJudged n (closingOutcome (decide (p.sense.flap = some .made)) o)
      (congrArg List.head? hq') hk'
    refine ⟨_, hrow, ?_, hidle, hleft, by rw [hended]; rfl, fun hrel => ?_, fun hmade => ?_⟩
    · rw [houtlet]
      exact hout
    · have hno : p.sense.flap ≠ some .made := by rw [hrel]; decide
      obtain ⟨hclosed, -, -, -, hduct, -⟩ := flapCloses_closed p
      rw [houtlet, hended, flapJudged_fell p hno, decide_eq_false hno]
      refine ⟨hclosed, ?_, rfl, hduct⟩
      rw [flapCloses_outlet]
      rfl
    · have hpending : p.flapJudged.isPending .chuteFault = true := by
        rw [flapJudged_made p hmade, isPending_notify]
        rfl
      refine ⟨?_, ?_, finishHead_pending _ n _ .chuteFault (congrArg List.head? hq') hk' hpending, ?_⟩
      · rw [houtlet, flapJudged_made p hmade]
        rfl
      · rw [houtlet, flapJudged_made p hmade]
        rfl
      · rw [hended, decide_eq_true hmade]
        exact congrArg some (closingOutcome_failed o)

/-- A closing of the controller's own, judged at its end: no ticket ends (R130, R131). -/
theorem ownClosing_judged (s : State) (dt e : Nat) (hr : s.part.resetting = none) :
    let p := s.later dt
    p.outlet.flap = .closing → p.outlet.state ≠ .closing → p.outlet.flapDeadline = some e → e ≤ p.clock.now →
    (p.sense.flap = some .released →
      ∃ q : Part, Becomes (.flapCloseEnd dt) s q.settle ∧ q.FlapClosed p ∧ q.outlet.state = p.outlet.state ∧
        q.outlet.chuteFault = p.outlet.chuteFault ∧ q.pool = p.pool) ∧
    (p.sense.flap = some .made →
      ∃ q : Part, Becomes (.flapCloseEnd dt) s q.settle ∧ q.outlet.flap = .opened ∧ q.outlet.chuteFault = true ∧
        q.isPending .chuteFault = true ∧ q.outlet.flapCloseOut = false ∧ q.outlet.state = p.outlet.state ∧
        q.pool = p.pool) := by
  intro p hflap hstate he hle
  have hrow := becomes_due (.flapCloseEnd dt) s dt Part.dueFlapClose Part.judgeClosing hr rfl
    ((dueFlapClose_iff p e hflap he).2 hle)
  rw [judgeClosing_own p hstate] at hrow
  refine ⟨fun hrel => ?_, fun hmade => ?_⟩
  · rw [flapJudged_fell p (by rw [hrel]; decide)] at hrow
    refine ⟨_, hrow, flapCloses_closed p, ?_, ?_, flapCloses_pool p⟩
    · rw [flapCloses_outlet]
      rfl
    · rw [flapCloses_outlet]
      rfl
  · rw [flapJudged_made p hmade] at hrow
    refine ⟨_, hrow, rfl, rfl, ?_, rfl, rfl, rfl⟩
    rw [isPending_notify]
    rfl

/-- A fall with the chute fault set clears it, and the flap is CLOSED (R131). -/
theorem fault_cleared (s : State) (dt : Nat) (hr : s.part.resetting = none) :
    let p := s.later dt
    p.sense.flap = some .made → p.sense.flapPin.stood p.clock.now 10000 .released → p.outlet.flap = .opened →
    p.outlet.chuteFault = true →
    ∃ q : Part, Becomes (.flapSwitchChange dt .released) s q.settle ∧ q.outlet.chuteFault = false ∧ q.FlapClosed p ∧
      q.outlet.state = p.outlet.state ∧ q.pool = p.pool := by
  intro p hread hstood hopened hfault
  let u : Part := { p with sense := { p.sense with flap := some .released, flapPin.level := some .released } }
  let v : Part := { u with outlet.chuteFault := false }
  have hrow := flapSwitch_stood s dt .released .made hr hread (by decide) hstood
  rw [flapChanged_clears u hopened hfault] at hrow
  refine ⟨_, hrow, ?_, flapCloses_closed v, ?_, flapCloses_pool v⟩
  · rw [flapCloses_outlet]
    rfl
  · rw [flapCloses_outlet]
    rfl

/-- A fall while the flap is open for the head ends the head, by its stage (R132). -/
theorem fall_endsTheHead (s : State) (dt : Nat) (n : TicketNo) (rest : List TicketNo) (hr : s.part.resetting = none) :
    let p := s.later dt
    let t := p.ticket n
    let ice := t.kind = some .icePortion ∨ t.kind = some .iceHold
    let chute := t.kind = some .loadTest ∧ t.request.load = some .chute
    let auger := t.kind = some .loadTest ∧ t.request.load = some .auger
    let ended (o : TicketOutcome) (q : Part) : Prop :=
      q.FlapClosed p ∧ q.outlet.state = .idle ∧ q.pool.queue = rest ∧ (q.ticket n).state = .done ∧
        (q.ticket n).progress.outcome = some o
    let cubes := p.outlet.run.forward.read p.clock.now / 1000 * p.supervision.params.augerRate / 10000
    p.sense.flap = some .made → p.sense.flapPin.stood p.clock.now 10000 .released → p.outlet.flap = .opened →
    p.outlet.chuteFault = false → p.pool.queue = n :: rest → (t.origin = some .link ∨ 4 ≤ p.pool.free.length) →
    ice ∨ chute ∨ auger →
    ((p.outlet.state = .running ∨ p.outlet.state = .paused) →
      ∃ q : Part, Becomes (.flapSwitchChange dt .released) s q.settle ∧ ended .chuteFault q ∧
        q.outlet.augerForward = false ∧ q.outlet.augerReverse = false ∧ q.outlet.crusher = false ∧
        q.outlet.holdEnd = none ∧
        (ice ∨ auger → q.ice.stock = p.ice.stock - cubes) ∧ (chute → q.ice.stock = p.ice.stock) ∧
        (ice → (q.ticket n).progress.measured = min cubes 65535)) ∧
    (∀ o : TicketOutcome, p.outlet.state = .stopping → p.outlet.ending = some o →
      ∃ q : Part, Becomes (.flapSwitchChange dt .released) s q.settle ∧ ended o q ∧ q.outlet.holdEnd = none) := by
  intro p t ice chute auger ended cubes hread hstood hopened hfault hq hk hkind
  let u : Part := { p with sense := { p.sense with flap := some .released, flapPin.level := some .released } }
  have hh : u.pool.queue.head? = some n := congrArg List.head? hq
  have hn : (u.ticket n).needsFlap = true := needsFlap_of_kind t hkind
  have hrow := flapSwitch_stood s dt .released .made hr hread (by decide) hstood
  rw [flapChanged_falls u hopened hfault] at hrow
  refine ⟨fun hs => ?_, fun o hs ho => ?_⟩
  · obtain ⟨hclosed, hidle, hleft, hticket, hstock, hforward, hreverse, hcrusher, hhold⟩ :=
      flapFalls_run u n rest hq hk hn hs
    rw [endRun_stock u n hh] at hstock
    refine ⟨_, hrow, ⟨hclosed, hidle, hleft, by rw [hticket]; rfl, by rw [hticket]; rfl⟩, hforward, hreverse, hcrusher,
      hhold, fun hi => ?_, fun hc => ?_, fun hi => ?_⟩
    · rw [hstock, if_neg (by rw [show (u.ticket n).isChuteTest = false from (runs_of_kind t hi).2]; decide)]
      rfl
    · rw [hstock, if_pos ((isChuteTest_iff (u.ticket n)).2 hc)]
    · rw [hticket]
      change min (u.stopAuger.runAmount (u.ticket n)) 65535 = _
      rw [runAmount_ice u.stopAuger (u.ticket n) hi]
      rfl
  · rw [flapFalls_holds u n o hh hn hs ho] at hrow
    obtain ⟨hclosed, ⟨hidle, hleft, hticket⟩, -, -, -, -, hhold⟩ := flapCloses_finishHead u n rest o hq hk
    exact ⟨_, hrow, ⟨hclosed, hidle, hleft, by rw [hticket]; rfl, by rw [hticket]; rfl⟩, hhold⟩

/-- A switch that rises under a closed flap drives a closing of the controller's own (R130, R131). -/
theorem rise_drivesClosing (s : State) (dt : Nat) (hr : s.part.resetting = none) :
    let p := s.later dt
    p.sense.flap = some .released → p.sense.flapPin.stood p.clock.now 10000 .made → p.outlet.flap = .closed →
    ∃ q : Part, Becomes (.flapSwitchChange dt .made) s q.settle ∧ q.outlet.flap = .closing ∧
      q.outlet.flapCloseOut = true ∧ q.outlet.flapOpenOut = false ∧
      q.outlet.flapDeadline = some (p.clock.now + 1500000) ∧ q.loads.heaters[(4 : HeaterNo)].ownerDemand = true ∧
      q.outlet.state = p.outlet.state ∧ q.pool = p.pool := by
  intro p hread hstood hclosed
  let u : Part := { p with sense := { p.sense with flap := some .made, flapPin.level := some .made } }
  have hrow := flapSwitch_stood s dt .made .released hr hread (by decide) hstood
  rw [flapChanged_rises u hclosed] at hrow
  obtain ⟨houtlet, hdemand, hpool⟩ := beginClosing_spec u
  refine ⟨_, hrow, ?_, ?_, ?_, ?_, hdemand, ?_, hpool⟩ <;> rw [houtlet]

/-- Settles O43, each motion by its own lemma. -/
theorem flapMotionsAreJudged : Obligations.FlapMotionsAreJudged := by
  constructor
  · intro s dt e n rest hr p t ps hq he
    refine ⟨fun hflap hread hdoor hstood hice hentered => ?_, fun hflap => ?_, fun o hflap hstate hending => ?_⟩
    · exact (opening_judged s dt e n rest hr hq he hflap).1 hread hdoor hstood hice hentered
    · exact (opening_judged s dt e n rest hr hq he hflap).2
    · exact closing_judged s dt e n rest o hr hq he hflap hstate hending
  · intro s dt hr p ps closed
    refine ⟨fun hread hstood hopened => ⟨?_, ?_⟩, fun hread hstood hclosed _ => ?_,
      fun e hflap hstate he hle => ?_⟩
    · exact fault_cleared s dt hr hread hstood hopened
    · intro n rest hfault hq t ice chute auger hk hkind ended cubes
      exact fall_endsTheHead s dt n rest hr hread hstood hopened hfault hq hk hkind
    · exact rise_drivesClosing s dt hr hread hstood hclosed
    · exact ownClosing_judged s dt e hr hflap hstate he hle

end Sys2Proof.Machine

namespace Sys2Proof.Machine

/-! No job clears a notice: what is pending stays pending (R198). -/

/-- Every notice that is pending before is pending after. -/
def Link.KeepsNotices (after before : Link) : Prop :=
  ∀ k : Notice, before.pendingSet.getLsbD k.position = true → after.pendingSet.getLsbD k.position = true

theorem Link.KeepsNotices.refl (l : Link) : l.KeepsNotices l := fun _ => id

theorem Link.KeepsNotices.trans {a b c : Link} (h : c.KeepsNotices b) (g : b.KeepsNotices a) : c.KeepsNotices a :=
  fun k hk => h k (g k hk)

theorem keepsNotices_of_eq {a b : Link} (h : b = a) : b.KeepsNotices a := h ▸ .refl a

theorem notify_keepsNotices (n : Notice) (p : Part) : (p.notify n).link.KeepsNotices p.link := by
  intro k hk
  change (p.notify n).isPending k = true
  rw [isPending_notify, Part.isPending, hk, Bool.or_true]

@[simp] theorem updateSlot_link (p : Part) (slot : Option TicketNo) (f : Ticket → Ticket) :
    (p.updateSlot slot f).link = p.link := by cases slot <;> rfl

theorem finishSlot_keepsNotices (slot : Option TicketNo) (o : TicketOutcome) (p : Part) :
    (p.finishSlot slot o).link.KeepsNotices p.link := by
  cases slot with
  | none => exact .refl _
  | some n => exact fun k hk => pending_finish p n o k hk

theorem draw_keepsNotices (kind : TicketKind) (o : Origin) (tag : Option Byte) (r : Request) (p : Part) :
    (p.draw kind o tag r).2.link.KeepsNotices p.link := by
  unfold Part.draw
  split
  · exact .refl _
  · split
    · exact fun k hk => pending_retireUpTo 4 _ k hk
    · exact .refl _

/-! The start of a head (R123, R128, R133). -/

theorem finishUnstarted_keepsNotices (o : TicketOutcome) (p : Part) :
    (p.finishUnstarted o).link.KeepsNotices p.link :=
  (finishSlot_keepsNotices _ o _).trans (keepsNotices_of_eq (updateSlot_link p _ _))

theorem pauseLine_link (p : Part) : p.pauseLine.link = p.link := by
  unfold Part.pauseLine
  split <;> rfl

theorem grantDispense_link (n : TicketNo) (p : Part) : (p.grantDispense n).link = p.link := by
  unfold Part.grantDispense
  dsimp only
  split
  · exact pauseLine_link _
  · rfl

theorem claimDispense_keepsNotices (n : TicketNo) (p : Part) : (p.claimDispense n).link.KeepsNotices p.link := by
  unfold Part.claimDispense
  split
  · exact finishUnstarted_keepsNotices _ p
  · split
    · exact keepsNotices_of_eq (grantDispense_link n p)
    · exact .refl _
    · exact .refl _

theorem startWater_keepsNotices (n : TicketNo) (p : Part) : (p.startWater n).link.KeepsNotices p.link := by
  unfold Part.startWater
  dsimp only
  split
  · split
    · exact finishUnstarted_keepsNotices _ _
    · split
      · exact finishUnstarted_keepsNotices _ _
      · exact claimDispense_keepsNotices n _
  · exact claimDispense_keepsNotices n _

theorem startFlap_keepsNotices (n : TicketNo) (p : Part) : (p.startFlap n).link.KeepsNotices p.link := by
  unfold Part.startFlap
  split
  · exact finishUnstarted_keepsNotices _ p
  · exact .refl _

theorem startHead_keepsNotices (n : TicketNo) (byPaddle : Bool) (p : Part) :
    (p.startHead n byPaddle).link.KeepsNotices p.link := by
  unfold Part.startHead
  dsimp only
  split
  · exact startWater_keepsNotices n _
  · exact startFlap_keepsNotices n _

theorem startOne_keepsNotices (press : Option Paddle) (p : Part) : (p.startOne press).link.KeepsNotices p.link := by
  unfold Part.startOne
  split
  · exact .refl _
  · split
    · exact startHead_keepsNotices _ _ p
    · exact .refl _

theorem startUpTo_keepsNotices (j : Nat) (p : Part) : (p.startUpTo j).link.KeepsNotices p.link := by
  induction j generalizing p with
  | zero => exact .refl _
  | succ j ih =>
    unfold Part.startUpTo
    split
    · exact (ih _).trans (startOne_keepsNotices none p)
    · exact .refl _

/-! The Defrost Controller and the ice maker (R98, R102, R151, R159). -/

theorem compareTarget_keepsNotices (p : Part) : p.compareTarget.link.KeepsNotices p.link := by
  unfold Part.compareTarget
  split
  · exact (keepsNotices_of_eq (setDefrostState_link _ .wanted)).trans (notify_keepsNotices .defrostWanted _)
  · exact .refl _

theorem flagDefrostSensor_link (p : Part) : p.flagDefrostSensor.link = p.link := updateSlot_link _ _ _

theorem enterHeating_link (p : Part) : p.enterHeating.link = p.link := by
  have hflag (u : Part) : (if u.inFault evap then u.flagDefrostSensor else u).link = u.link := by
    split
    · exact flagDefrostSensor_link u
    · rfl
  unfold Part.enterHeating
  dsimp only
  rw [setDefrostState_link]
  split <;> exact hflag _

theorem prepWait_link (p : Part) : p.prepWait.link = p.link := by
  unfold Part.prepWait
  split
  · exact enterHeating_link p
  · rfl

theorem redraw_keepsNotices (p : Part) : p.redraw.link.KeepsNotices p.link := by
  unfold Part.redraw
  split
  · split
    · exact .refl _
    · next kind _ =>
      have hdraw := draw_keepsNotices kind .iceMaker none {} p
      split
      next q hq => rwa [hq] at hdraw
      next n q hq =>
        rw [hq] at hdraw
        split <;> exact hdraw
  · exact .refl _

theorem judgeFill_link (p : Part) : p.judgeFill.link = p.link := by
  unfold Part.judgeFill
  split
  · split
    · unfold Part.resumeFill
      split
      · exact updateSlot_link _ _ _
      · rfl
    · rfl
    · rfl
  · rfl

/-- What follows from a command clears no notice. -/
theorem settle_keepsNotices (p : Part) : p.settle.link.KeepsNotices p.link := by
  have hjudge := keepsNotices_of_eq (judgeFill_link p.startHeads.compareTarget.prepWait.redraw)
  have hwait := keepsNotices_of_eq (prepWait_link p.startHeads.compareTarget)
  exact hjudge.trans <| (redraw_keepsNotices _).trans <| hwait.trans <|
    (compareTarget_keepsNotices _).trans (startUpTo_keepsNotices 8 p)

/-! A reading handed on (R32). -/

theorem endHeating_link (r : EndReason) (p : Part) : (p.endHeating r).link = p.link := by
  unfold Part.endHeating
  dsimp only
  rw [setDefrostState_link]
  exact updateSlot_link _ _ _

theorem writeLog_link (r : EndReason) (k : Nat) (p : Part) : (p.writeLog r k).link = p.link := by
  unfold Part.writeLog
  split <;> rfl

theorem endRecover_keepsNotices (p : Part) : p.endRecover.link.KeepsNotices p.link := by
  unfold Part.endRecover
  split
  · exact .refl _
  · dsimp only
    rw [setDefrostState_link]
    exact (notify_keepsNotices .fanRelease _).trans
      ((finishSlot_keepsNotices _ _ _).trans (keepsNotices_of_eq (writeLog_link _ _ _)))

theorem compareHeatLimit_link (p : Part) : p.compareHeatLimit.link = p.link := by
  unfold Part.compareHeatLimit
  split
  · exact endHeating_link _ p
  · rfl

theorem evapReading_keepsNotices (entered : Bool) (p : Part) : (p.evapReading entered).link.KeepsNotices p.link := by
  unfold Part.evapReading
  split
  · dsimp only
    split
    · exact keepsNotices_of_eq (endHeating_link _ _)
    · exact .refl _
  · split
    · exact keepsNotices_of_eq ((compareHeatLimit_link _).trans (flagDefrostSensor_link p))
    · exact .refl _
  · exact .refl _
  · split
    · exact endRecover_keepsNotices p
    · exact .refl _
  · split
    · exact keepsNotices_of_eq (flagDefrostSensor_link p)
    · exact .refl _
  · exact .refl _

theorem compareMoldLimit_link (p : Part) : p.compareMoldLimit.link = p.link := by
  unfold Part.compareMoldLimit
  split <;> rfl

theorem endFreeze_link (sensor : Bool) (p : Part) : (p.endFreeze sensor).link = p.link := iceAttempt_link _

theorem takeFreeze_link (p : Part) : p.takeFreeze.link = p.link := by
  unfold Part.takeFreeze
  split
  · exact endFreeze_link false p
  · rfl

theorem takeFaultFreeze_link (p : Part) : p.takeFaultFreeze.link = p.link := by
  unfold Part.takeFaultFreeze
  split
  · exact endFreeze_link true p
  · rfl

theorem freezeReading_link (p : Part) : p.freezeReading.link = p.link := by
  unfold Part.freezeReading
  split
  · rw [takeFreeze_link]
    split <;> rfl
  · exact takeFaultFreeze_link _

theorem heatReading_link (entered : Bool) (p : Part) : (p.heatReading entered).link = p.link := by
  unfold Part.heatReading
  split
  · split <;> rfl
  · split
    · exact (compareMoldLimit_link _).trans (updateSlot_link _ _ _)
    · rfl

theorem moldReading_link (entered : Bool) (p : Part) : (p.moldReading entered).link = p.link := by
  unfold Part.moldReading
  split
  · exact freezeReading_link p
  · exact heatReading_link entered p
  · rfl

/-- A reading that is handed on clears no notice. -/
theorem handReading_keepsNotices (ch : ChannelNo) (entered : Bool) (p : Part) :
    (p.handReading ch entered).link.KeepsNotices p.link := by
  unfold Part.handReading
  split
  · exact evapReading_keepsNotices entered p
  · split
    · exact keepsNotices_of_eq (moldReading_link entered p)
    · exact .refl _

end Sys2Proof.Machine

namespace Sys2Proof.Machine

/-! The end of a conversion, in the Sense Unit (R28 to R34, R40). -/

/-- The class of a count (R29). -/
theorem classify_eq (count : Nat) :
    classify count = if count < 500 then .short else if count < 65535 then .good else .opened := rfl

theorem classify_good (count : Nat) (h : 500 ≤ count ∧ count < 65535) : classify count = .good := by
  rw [classify_eq, if_neg (Nat.not_lt.2 h.1), if_pos h.2]

theorem classify_bad (count : Nat) (h : ¬(500 ≤ count ∧ count < 65535)) : classify count ≠ .good := by
  rw [classify_eq]
  split
  · decide
  · split
    next hs hl => exact absurd ⟨Nat.not_lt.1 hs, hl⟩ h
    next => decide

theorem pushRing_eq (ring : List Nat) (raw : Nat) :
    pushRing ring raw = (if ring.length < 4 then ring else ring.tail) ++ [raw] := by
  unfold pushRing
  split <;> rfl

/-- A channel at the end of a good conversion (R31, R34). -/
theorem convert_good (c : Channel) (count : Nat) (h : 500 ≤ count ∧ count < 65535) :
    c.convert count =
      if c.fault = false then
        { c with
          ring := (if c.ring.length < 4 then c.ring else c.ring.tail) ++ [count]
          badRun := 0
          last := some (classify count) }
      else if c.goodRun.length + 1 < 8 then { c with goodRun := c.goodRun ++ [count], last := some (classify count) }
      else
        { c with
          ring := (c.goodRun ++ [count]).drop 4
          fault := false
          badRun := 0
          heldMean := none
          goodRun := []
          last := some (classify count) } := by
  have hgood := classify_good count h
  cases hf : c.fault with
  | false => simp only [Channel.convert, hgood, hf, if_true, pushRing_eq]
  | true =>
    simp only [Channel.convert, Channel.recover, hgood, hf, Bool.true_eq_false, if_false]

/-- A channel at the end of a bad conversion (R33, R34). -/
theorem convert_bad (c : Channel) (count : Nat) (h : ¬(500 ≤ count ∧ count < 65535)) :
    c.convert count =
      if c.fault = false then
        if c.badRun + 1 < 3 then { c with badRun := c.badRun + 1, last := some (classify count) }
        else
          { c with
            badRun := 3
            fault := true
            goodRun := []
            heldMean := if c.ring.length = 4 then some (c.ring.sum / 4) else none
            last := some (classify count) }
      else { c with goodRun := [], last := some (classify count) } := by
  have hbad := classify_bad count h
  unfold Channel.convert
  cases hf : c.fault with
  | false =>
    cases hc : classify count with
    | good => exact absurd hc hbad
    | short => rfl
    | opened => rfl
  | true =>
    cases hc : classify count with
    | good => exact absurd hc hbad
    | short => rfl
    | opened => rfl

theorem convert_eq (c : Channel) (count : Nat) :
    let good := 500 ≤ count ∧ count < 65535
    let cls := classify count
    c.convert count =
      if c.fault = false then
        if good then
          { c with
            ring := (if c.ring.length < 4 then c.ring else c.ring.tail) ++ [count]
            badRun := 0
            last := some cls }
        else if c.badRun + 1 < 3 then { c with badRun := c.badRun + 1, last := some cls }
        else
          { c with
            badRun := 3
            fault := true
            goodRun := []
            heldMean := if c.ring.length = 4 then some (c.ring.sum / 4) else none
            last := some cls }
      else if good then
        if c.goodRun.length + 1 < 8 then { c with goodRun := c.goodRun ++ [count], last := some cls }
        else
          { c with
            ring := (c.goodRun ++ [count]).drop 4
            fault := false
            badRun := 0
            heldMean := none
            goodRun := []
            last := some cls }
      else { c with goodRun := [], last := some cls } := by
  intro good cls
  by_cases h : good
  · rw [convert_good c count h, if_pos h, if_pos h]
  · rw [convert_bad c count h, if_neg h, if_neg h]

/-- A third bad conversion in a row makes a fault (R33). -/
theorem convert_third (c : Channel) (count : Nat) (hf : c.fault = false) (h : ¬(500 ≤ count ∧ count < 65535))
    (hb : ¬c.badRun + 1 < 3) : (c.convert count).fault = true := by
  rw [convert_bad c count h, if_pos hf, if_neg hb]

/-- The count of the conversion that ends (R28, log 27). -/
def Part.conversionCount (raw : BitVec 16) (p : Part) : Nat :=
  min 65535 (max raw.toNat (p.clock.now - (p.sense.scan.startedAt + 1000)))

/-- The part at the end of a conversion, its reading not handed on yet. -/
def Part.converted (raw : BitVec 16) (p : Part) : Part :=
  (p.reach (p.sense.scan.startedAt + 1000 + p.conversionCount raw)).convertChannel p.sense.scan.current
    (p.conversionCount raw)

/-- The part with the reading of its conversion handed on, the next conversion not begun. -/
def Part.readingHanded (raw : BitVec 16) (p : Part) : Part :=
  (p.converted raw).handReading p.sense.scan.current
    ((p.converted raw).inFault p.sense.scan.current && !p.inFault p.sense.scan.current)

/-- The scan with its conversion counted for the FRESH request (R40). -/
def Part.scanCounted (p : Part) : Scan := { p.sense.scan with fresh := p.sense.scan.fresh.map Fresh.count }

/-- The scan at the end of a conversion: the FRESH request counts it, and the next one begins (R40). -/
def Part.scanOn (raw : BitVec 16) (p : Part) : Scan :=
  p.scanCounted.next (max p.clock.now (p.sense.scan.startedAt + 1000 + p.conversionCount raw))

theorem converted_eq (raw : BitVec 16) (p : Part) :
    p.converted raw =
      { p with
        clock.now := max p.clock.now (p.sense.scan.startedAt + 1000 + p.conversionCount raw)
        sense.channels :=
          p.sense.channels.set p.sense.scan.current
            (p.sense.channels[p.sense.scan.current].convert (p.conversionCount raw))
        link := (p.converted raw).link } := by
  unfold Part.converted Part.convertChannel
  dsimp only
  split <;> rfl

theorem converted_link (raw : BitVec 16) (p : Part) :
    (p.converted raw).link.inbox = p.link.inbox ∧ (p.converted raw).link.executing = p.link.executing ∧
      (p.converted raw).link.reply = p.link.reply := by
  unfold Part.converted Part.convertChannel
  dsimp only
  split <;> exact ⟨rfl, rfl, rfl⟩

/-- An entry into FAULT sets SENSOR_FAULT (R33). -/
theorem convertChannel_fault (ch : ChannelNo) (count : Nat) (p : Part) (hf : p.sense.channels[ch].fault = false)
    (hn : (p.sense.channels[ch].convert count).fault = true) :
    (p.convertChannel ch count).isPending .sensorFault = true := by
  unfold Part.convertChannel
  dsimp only
  rw [hn, hf, Bool.not_false, Bool.and_self, if_pos rfl, isPending_notify]
  rfl

theorem readingHanded_frame (raw : BitVec 16) (p : Part) :
    let q := p.readingHanded raw
    q.clock = (p.converted raw).clock ∧ q.sense = (p.converted raw).sense ∧ q.supervision = p.supervision ∧
      q.link.inbox = p.link.inbox ∧ q.link.executing = p.link.executing ∧ q.link.reply = p.link.reply := by
  obtain ⟨⟨hclock, -, hsense, hsupervision, -, -, hinbox, hexecuting, hreply, -⟩, -⟩ :=
    handReading_frame p.sense.scan.current
      ((p.converted raw).inFault p.sense.scan.current && !p.inFault p.sense.scan.current) (p.converted raw)
  obtain ⟨cinbox, cexecuting, creply⟩ := converted_link raw p
  have hsup : (p.converted raw).supervision = p.supervision := by rw [converted_eq]
  exact ⟨hclock, hsense, hsupervision.trans hsup, hinbox.trans cinbox,
    hexecuting.trans cexecuting, hreply.trans creply⟩

/-- The end of a conversion: the scan alone differs from what the reading has left. -/
theorem endConversion_eq (raw : BitVec 16) (p : Part) :
    p.endConversion raw = { p.readingHanded raw with sense.scan := p.scanOn raw } := by
  obtain ⟨hclock, hsense, -⟩ := readingHanded_frame raw p
  have hscan : (p.readingHanded raw).sense.scan = p.sense.scan := by rw [hsense, converted_eq]
  have hnext : Scan.next (p.readingHanded raw).clock.now
      { (p.readingHanded raw).sense.scan with fresh := (p.readingHanded raw).sense.scan.fresh.map Fresh.count } =
        p.scanOn raw := by
    rw [hclock, hscan, converted_eq]
    rfl
  exact congrArg (fun scan => { p.readingHanded raw with sense.scan := scan }) hnext

/-- What the end of a conversion leaves of the clock, the Sense Unit and the link (R28 to R34, R40). -/
theorem endConversion_frame (raw : BitVec 16) (p : Part) :
    let q := p.endConversion raw
    q.clock = { p.clock with now := max p.clock.now (p.sense.scan.startedAt + 1000 + p.conversionCount raw) } ∧
      q.sense =
        { p.sense with
          channels :=
            p.sense.channels.set p.sense.scan.current
              (p.sense.channels[p.sense.scan.current].convert (p.conversionCount raw))
          scan := p.scanOn raw } ∧
      q.link.inbox = p.link.inbox ∧ q.link.executing = p.link.executing ∧ q.link.reply = p.link.reply := by
  obtain ⟨hclock, hsense, -, hinbox, hexecuting, hreply⟩ := readingHanded_frame raw p
  rw [converted_eq] at hclock hsense
  rw [endConversion_eq]
  refine ⟨hclock, ?_, hinbox, hexecuting, hreply⟩
  dsimp only
  rw [hsense]

theorem endConversion_keepsNotices (raw : BitVec 16) (p : Part) :
    (p.endConversion raw).link.KeepsNotices (p.converted raw).link := by
  rw [endConversion_eq]
  exact handReading_keepsNotices _ _ _

/-- The answer to a held READ_SENSORS touches the request and the reply alone (R40). -/
theorem answerFresh_frame (p : Part) :
    let q := p.answerFresh
    q.clock = p.clock ∧ q.sense = { p.sense with scan.fresh := q.sense.scan.fresh } ∧ q.supervision = p.supervision ∧
      q.link.pendingSet = p.link.pendingSet := by
  unfold Part.answerFresh
  split
  · exact ⟨rfl, rfl, rfl, rfl⟩
  · exact ⟨rfl, rfl, rfl, rfl⟩

/-- The row of a conversion that ends. -/
theorem conversionEnd_row (s : State) (dt : Nat) (raw : BitVec 16) (hr : s.part.resetting = none) :
    Becomes (.conversionEnd dt raw) s (((s.later dt).endConversion raw).settle.answerFresh) :=
  becomes_row _ s dt (fun p => (p.endConversion raw).settle.answerFresh) hr rfl

/-- The first part of O18: the channel of the conversion, and no other. -/
theorem conversionEnd_channel (s : State) (dt : Nat) (raw : BitVec 16) :
    let p := s.later dt
    let ch := p.sense.scan.current
    let c := p.sense.channels[ch]
    let count := p.conversionCount raw
    let t := (p.endConversion raw).settle.answerFresh
    t.sense.channels = p.sense.channels.set ch (c.convert count) ∧
      (c.fault = false → (c.convert count).fault = true → t.isPending .sensorFault = true) := by
  intro p ch c count t
  obtain ⟨-, hanswered, -, hpending⟩ := answerFresh_frame (p.endConversion raw).settle
  obtain ⟨-, -, hsettled, -⟩ := settle_frame (p.endConversion raw)
  obtain ⟨-, hsense, -⟩ := endConversion_frame raw p
  refine ⟨?_, fun hf hn => ?_⟩
  · rw [hanswered, hsettled, hsense]
  · have hset := convertChannel_fault ch count (p.reach (p.sense.scan.startedAt + 1000 + count)) hf hn
    have hkept := settle_keepsNotices _ _ (endConversion_keepsNotices raw p .sensorFault hset)
    rw [Part.isPending, hpending]
    exact hkept

end Sys2Proof.Machine

namespace Sys2Proof.Machine

/-! The scan, and the drive of the thermistor pins (R28, R30, R40). -/

theorem next_inRound (now : Nat) (c : Scan) (ch : ChannelNo) (more : List ChannelNo) (h : c.rest = ch :: more) :
    c.next now = { c with current := ch, rest := more, startedAt := now } := by
  unfold Scan.next
  rw [h]

theorem roundOrder_eq (named : List ChannelNo) :
    roundOrder named =
      ((List.finRange 6).filter fun ch => ch ∈ named) ++ (List.finRange 6).filter (fun ch => ch ∉ named) := by
  have hall : List.finRange 6 = ([0, 1, 2, 3, 4, 5] : List ChannelNo) := rfl
  have hmem : named.contains = fun ch => decide (ch ∈ named) := funext fun ch => List.contains_eq_mem ch named
  unfold roundOrder
  rw [hall, hmem]
  simp only [decide_not]

/-- Every round has the channel T0. -/
theorem roundOrder_ne_nil (named : List ChannelNo) : roundOrder named ≠ [] := by
  have hmem : (0 : ChannelNo) ∈ roundOrder named := by
    rw [roundOrder_eq, List.mem_append, List.mem_filter, List.mem_filter]
    by_cases h : (0 : ChannelNo) ∈ named
    · exact .inl ⟨List.mem_finRange 0, decide_eq_true h⟩
    · exact .inr ⟨List.mem_finRange 0, decide_eq_true h⟩
  exact List.ne_nil_of_mem hmem

/-- After the last channel a round begins, and takes up the request that is held (R30, R40). -/
theorem next_round (now : Nat) (c : Scan) (h : c.rest = []) :
    (c.next now).current :: (c.next now).rest = roundOrder ((c.fresh.map Fresh.waiting).getD []) ∧
      (c.next now).fresh = c.fresh.map Fresh.takeUp := by
  unfold Scan.next
  rw [h]
  dsimp only
  split
  next ch more horder => exact ⟨horder.symm, rfl⟩
  next horder => exact absurd horder (roundOrder_ne_nil _)

theorem next_startedAt (now : Nat) (c : Scan) : (c.next now).startedAt = now := by
  unfold Scan.next
  split
  · rfl
  · split <;> rfl

/-- A request that a round serves goes on unchanged with the next conversion (R40). -/
theorem next_served (now k : Nat) (c : Scan) (chs : List ChannelNo)
    (h : c.fresh = some { channels := chs, left := some k }) :
    (c.next now).fresh = some { channels := chs, left := some k } := by
  cases hrest : c.rest with
  | cons ch more =>
    rw [next_inRound now c ch more hrest]
    exact h
  | nil =>
    rw [(next_round now c hrest).2, h]
    rfl

theorem next_unheld (now : Nat) (c : Scan) (h : c.fresh = none) : (c.next now).fresh = none := by
  cases hrest : c.rest with
  | cons ch more =>
    rw [next_inRound now c ch more hrest]
    exact h
  | nil =>
    rw [(next_round now c hrest).2, h]
    rfl

/-- The part that a conversion leaves has the scan of the next one, whatever follows (R28). -/
theorem settled_scan (raw : BitVec 16) (p : Part) : (p.endConversion raw).settle.sense.scan = p.scanOn raw := by
  obtain ⟨-, -, hsettled, -⟩ := settle_frame (p.endConversion raw)
  obtain ⟨-, hsense, -⟩ := endConversion_frame raw p
  rw [hsettled, hsense]

theorem settled_link (raw : BitVec 16) (p : Part) :
    let q := (p.endConversion raw).settle
    q.link.inbox = p.link.inbox ∧ q.link.executing = p.link.executing ∧ q.link.reply = p.link.reply := by
  obtain ⟨-, -, -, -, -, -, hinbox, hexecuting, hreply, -⟩ := settle_frame (p.endConversion raw)
  obtain ⟨-, -, einbox, eexecuting, ereply⟩ := endConversion_frame raw p
  exact ⟨hinbox.trans einbox, hexecuting.trans eexecuting, hreply.trans ereply⟩

/-- No reply is sent while a channel of the request is still to be converted, or without a request (R40). -/
theorem conversionEnd_waits (raw : BitVec 16) (p : Part)
    (h : ∀ chs : List ChannelNo, (p.scanOn raw).fresh ≠ some { channels := chs, left := some 0 }) :
    (p.endConversion raw).settle.answerFresh = (p.endConversion raw).settle :=
  answerFresh_waits _ fun chs => by rw [settled_scan]; exact h chs

theorem answerFresh_scan (p : Part) :
    p.answerFresh.sense.scan.current = p.sense.scan.current ∧ p.answerFresh.sense.scan.rest = p.sense.scan.rest ∧
      p.answerFresh.sense.scan.startedAt = p.sense.scan.startedAt := by
  unfold Part.answerFresh
  split
  · exact ⟨rfl, rfl, rfl⟩
  · exact ⟨rfl, rfl, rfl⟩

theorem waiting_count (f : Fresh) : f.count.waiting = f.waiting := by
  rw [Fresh.waiting, Fresh.count, Option.isNone_map]
  rfl

/-- The clock and the scan at the end of a conversion (R28, R30, R40). -/
theorem conversionEnd_scan (raw : BitVec 16) (p : Part) :
    let scan := p.sense.scan
    let t := (p.endConversion raw).settle.answerFresh
    t.clock.now = max p.clock.now (scan.startedAt + 1000 + p.conversionCount raw) ∧
      t.sense.scan.startedAt = t.clock.now ∧
      (∀ (ch : ChannelNo) (rest : List ChannelNo), scan.rest = ch :: rest →
        t.sense.scan.current = ch ∧ t.sense.scan.rest = rest) ∧
      (scan.rest = [] →
        t.sense.scan.current :: t.sense.scan.rest = roundOrder ((scan.fresh.map Fresh.waiting).getD [])) := by
  intro scan t
  obtain ⟨hclock, -⟩ := answerFresh_frame (p.endConversion raw).settle
  obtain ⟨csettled, -⟩ := settle_frame (p.endConversion raw)
  obtain ⟨cclock, -⟩ := endConversion_frame raw p
  obtain ⟨hcurrent, hrest, hstarted⟩ := answerFresh_scan (p.endConversion raw).settle
  rw [settled_scan] at hcurrent hrest hstarted
  have hnow : t.clock.now = max p.clock.now (scan.startedAt + 1000 + p.conversionCount raw) := by
    rw [hclock, csettled, cclock]
  refine ⟨hnow, ?_, fun ch rest h => ?_, fun h => ?_⟩
  · rw [hstarted, hnow]
    exact next_startedAt _ _
  · rw [hcurrent, hrest, Part.scanOn, next_inRound _ p.scanCounted ch rest h]
    exact ⟨rfl, rfl⟩
  · obtain ⟨horder, -⟩ := next_round (max p.clock.now (scan.startedAt + 1000 + p.conversionCount raw)) p.scanCounted h
    have hwaiting : Fresh.waiting ∘ Fresh.count = Fresh.waiting := funext waiting_count
    rw [hcurrent, hrest]
    refine horder.trans ?_
    rw [Part.scanCounted, Option.map_map, hwaiting]

/-- A request that waits is taken up by the round that begins (R40). -/
theorem conversionEnd_takesUp (raw : BitVec 16) (p : Part) (chs : List ChannelNo) (hrest : p.sense.scan.rest = [])
    (hne : chs ≠ []) (hf : p.sense.scan.fresh = some { channels := chs, left := none }) :
    let t := (p.endConversion raw).settle.answerFresh
    t.sense.scan.fresh = some { channels := chs, left := some chs.length } ∧ t.link.reply = p.link.reply := by
  intro t
  have hfresh : (p.scanOn raw).fresh = some { channels := chs, left := some chs.length } := by
    rw [Part.scanOn, (next_round _ p.scanCounted hrest).2, Part.scanCounted, hf]
    rfl
  have ht : t = (p.endConversion raw).settle := conversionEnd_waits raw p fun chs' h => by
    rw [hfresh] at h
    have hlength : chs.length = 0 := Option.some.inj (congrArg Fresh.left (Option.some.inj h))
    exact hne (List.eq_nil_of_length_eq_zero hlength)
  obtain ⟨-, -, hreply⟩ := settled_link raw p
  rw [ht, settled_scan]
  exact ⟨hfresh, hreply⟩

/-- A conversion of the round that serves a request counts for it (R40). -/
theorem scanOn_served (raw : BitVec 16) (p : Part) (chs : List ChannelNo) (k : Nat)
    (hf : p.sense.scan.fresh = some { channels := chs, left := some (k + 1) }) :
    (p.scanOn raw).fresh = some { channels := chs, left := some k } :=
  next_served _ k p.scanCounted chs (by rw [Part.scanCounted, hf]; rfl)

theorem conversionEnd_counts (raw : BitVec 16) (p : Part) (chs : List ChannelNo) (k : Nat)
    (hf : p.sense.scan.fresh = some { channels := chs, left := some (k + 2) }) :
    let t := (p.endConversion raw).settle.answerFresh
    t.sense.scan.fresh = some { channels := chs, left := some (k + 1) } ∧ t.link.reply = p.link.reply := by
  intro t
  have hfresh := scanOn_served raw p chs (k + 1) hf
  have ht : t = (p.endConversion raw).settle := conversionEnd_waits raw p fun chs' h => by
    rw [hfresh] at h
    cases h
  obtain ⟨-, -, hreply⟩ := settled_link raw p
  rw [ht, settled_scan]
  exact ⟨hfresh, hreply⟩

/-- The part has replied to a held READ_SENSORS with the inputs as they stand, `waiting` commands being in its inbox (R40). -/
def Part.Replied (t : Part) (waiting : Nat) (chs : List ChannelNo) (f : Frame) : Prop :=
  t.sense.scan.fresh = none ∧
    ∃ u : Part, u.sense = { t.sense with scan := u.sense.scan } ∧ u.clock = t.clock ∧
      u.supervision = t.supervision ∧
      t.link.reply = some (frameBytes (f.kind ||| 0x80) f.tag (0 :: byte (4 - waiting) :: u.sensorData chs))

theorem answerFresh_replied (p : Part) (chs : List ChannelNo) (f : Frame)
    (h : p.sense.scan.fresh = some { channels := chs, left := some 0 }) (he : p.link.executing = some f) :
    p.answerFresh.Replied p.link.inbox.length chs f := by
  rw [answerFresh_done p chs f h he]
  exact ⟨rfl, p, rfl, rfl, rfl, rfl⟩

/-- The conversion of the last named channel sends the reply (R40). -/
theorem conversionEnd_answers (raw : BitVec 16) (p : Part) (chs : List ChannelNo) (f : Frame)
    (hf : p.sense.scan.fresh = some { channels := chs, left := some 1 }) (hx : p.link.executing = some f) :
    ((p.endConversion raw).settle.answerFresh).Replied p.link.inbox.length chs f := by
  obtain ⟨hinbox, hexecuting, -⟩ := settled_link raw p
  have hfresh : (p.endConversion raw).settle.sense.scan.fresh = some { channels := chs, left := some 0 } := by
    rw [settled_scan]
    exact scanOn_served raw p chs 0 hf
  have hreplied := answerFresh_replied (p.endConversion raw).settle chs f hfresh (hexecuting.trans hx)
  rwa [hinbox] at hreplied

/-- The drive of a thermistor's pin (R28). -/
theorem thermistorDrive_spec (p : Part) (ch : ChannelNo) (hr : p.resetting = none) :
    (p.sense.scan.current = ch → p.clock.now < p.sense.scan.startedAt + 1000 → p.thermistorDrive ch = .high) ∧
      (p.sense.scan.current = ch → p.sense.scan.startedAt + 1000 ≤ p.clock.now → p.thermistorDrive ch = .released) ∧
      (p.sense.scan.current ≠ ch → p.thermistorDrive ch = .low) := by
  have hawake : ¬p.resetting.isSome = true := by rw [hr]; decide
  refine ⟨fun hc ht => ?_, fun hc ht => ?_, fun hc => if_pos (.inr hc)⟩
  · rw [Part.thermistorDrive, if_neg fun h => h.elim hawake fun h => h hc]
    exact if_pos ht
  · rw [Part.thermistorDrive, if_neg fun h => h.elim hawake fun h => h hc]
    exact if_neg (Nat.not_lt.2 ht)

/-- A conversion that has reached the longest count is due (R28). -/
theorem conversion_due (p : Part) (h : p.sense.scan.startedAt + 1000 + 65535 ≤ p.clock.now) :
    .conversionEnd 0 65535 ∈ p.dueEvents := by
  have hdue : p.dueConversion = true := decide_eq_true h
  refine mem_dueEvents_of_pin p _ ?_
  simp [Part.pinEvents, hdue, ifDue]

end Sys2Proof.Machine

namespace Sys2Proof.Machine

/-! A reading handed to the Defrost Controller (R32, R161, R162, R165, R166). -/

/-- A curve gives OK or RANGE (R35). -/
theorem throughCurve_status (curve : List CurvePoint) (m : Nat) :
    (throughCurve curve m).1 = .ok ∨ (throughCurve curve m).1 = .range := by
  induction curve with
  | nil => exact .inr rfl
  | cons q rest ih =>
    cases rest with
    | nil =>
      unfold throughCurve
      by_cases h : m = q.count
      · exact .inl (if_pos h)
      · exact .inr (if_neg h)
    | cons r rest =>
      unfold throughCurve
      split
      · exact .inr rfl
      · split
        · exact .inl rfl
        · exact ih

/-- A reading is FAULT exactly for a channel in FAULT (R32). -/
theorem reading_fault_iff (p : Part) (ch : ChannelNo) : (p.reading ch).status = .fault ↔ p.inFault ch = true := by
  unfold Part.reading Channel.readThrough Part.inFault
  cases hf : p.sense.channels[ch].fault with
  | true => simp
  | false =>
    simp only [Bool.false_eq_true, if_false, iff_false]
    split
    · exact fun h => nomatch h
    · next m _ =>
      have hvalid := throughCurve_status (p.sense.curve p.supervision.params.classes[ch]) m
      intro hfault
      change (throughCurve _ m).1 = .fault at hfault
      rw [hfault] at hvalid
      exact hvalid.elim (fun h => nomatch h) fun h => nomatch h

theorem measured_of_valid (r : Reading) (t : Int) (h : r.status = .ok ∨ r.status = .range) (ht : r.temp = some t) :
    r.measured = some t := by
  rcases h with h | h <;> rw [Reading.measured, h] <;> exact ht

theorem measured_of_fault (r : Reading) (h : r.status = .fault) : r.measured = none := by
  rw [Reading.measured, h]

theorem measured_of_notReady (r : Reading) (h : r.status = .notReady) : r.measured = none := by
  rw [Reading.measured, h]

theorem evapReading_heating (entered : Bool) (p : Part) (t : Int) (hs : p.defrost.state = .heating)
    (hm : (p.reading evap).measured = some t) :
    p.evapReading entered =
      if p.supervision.params.terminateTemp ≤ t then (p.updateCycle (Cycle.seePeak t)).endHeating .terminated
      else p.updateCycle (Cycle.seePeak t) := by
  unfold Part.evapReading
  rw [hs, hm]
  rfl

theorem evapReading_dwell (entered : Bool) (p : Part) (t : Int) (hs : p.defrost.state = .dwell)
    (hm : (p.reading evap).measured = some t) : p.evapReading entered = p.updateCycle (Cycle.seePeak t) := by
  unfold Part.evapReading
  rw [hs, hm]

theorem evapReading_recover (entered : Bool) (p : Part) (t : Int) (hs : p.defrost.state = .recover)
    (hm : (p.reading evap).measured = some t) :
    p.evapReading entered = if t ≤ p.supervision.params.fanStartTemp then p.endRecover else p := by
  unfold Part.evapReading
  rw [hs, hm]

theorem evapReading_heatingFault (p : Part) (hs : p.defrost.state = .heating)
    (hm : (p.reading evap).measured = none) : p.evapReading true = p.flagDefrostSensor.compareHeatLimit := by
  unfold Part.evapReading
  rw [hs, hm]
  rfl

theorem evapReading_recoverFault (p : Part) (hs : p.defrost.state = .recover)
    (hm : (p.reading evap).measured = none) : p.evapReading true = p.flagDefrostSensor := by
  unfold Part.evapReading
  rw [hs, hm]
  rfl

/-- The cycle record at the end of the heating (R164). -/
def Part.heatedCycle (r : EndReason) (p : Part) (c : Cycle) : Cycle :=
  { c with
    heatSeconds := p.clock.partSeconds - c.heatingStart.getD p.clock.partSeconds
    endReason := some r
    starved := c.isStarved }

/-- The end of the heating (R164, R165): the heater is dropped, and the cycle record keeps its peak and its SENSOR flag. -/
theorem endHeating_spec (r : EndReason) (p : Part) (c : Cycle) (hc : p.defrost.cycle = some c) :
    let q := p.endHeating r
    q.defrost.state = .dwell ∧ q.ice.defrostCopy = .dwell ∧
      q.loads.heaters[(0 : HeaterNo)].ownerDemand = false ∧
      q.defrost.cycle = some (p.heatedCycle r c) := by
  have hcycle : p.defrost.cycle.map (p.heatedCycle r) = some (p.heatedCycle r c) := congrArg (Option.map _) hc
  unfold Part.endHeating
  refine ⟨?_, ?_, ?_, ?_⟩
  · rw [setDefrostState_defrost]
  · rw [setDefrostState_ice]
  · simp only [setDefrostState_frame, updateSlot_frame]
    change (p.loads.update 0 Heater.dropOwner).heaters[(0 : HeaterNo)].ownerDemand = false
    rw [heaters_update, if_pos rfl]
    exact (dropOwner_spec _).1
  · simp only [setDefrostState_defrost, updateSlot_frame]
    exact hcycle

/-- The end of RECOVER (R166). -/
theorem endRecover_spec (p : Part) (c : Cycle) (hc : p.defrost.cycle = some c) :
    let q := p.endRecover
    q.defrost.state = .accruing ∧ q.defrost.credit = 0 ∧ q.defrost.cycle = none ∧ q.isPending .fanRelease = true := by
  unfold Part.endRecover
  rw [hc]
  refine ⟨?_, ?_, ?_, ?_⟩
  · rw [setDefrostState_defrost]
  · rw [setDefrostState_defrost]
    rfl
  · rw [setDefrostState_defrost]
    rfl
  · rw [isPending_setDefrostState, isPending_notify]
    rfl

theorem flagDefrostSensor_defrost (p : Part) :
    p.flagDefrostSensor.defrost = { p.defrost with cycle := p.defrost.cycle.map fun c => { c with sensor := true } } := by
  unfold Part.flagDefrostSensor
  obtain ⟨-, -, -, -, -, hdefrost⟩ := updateSlot_frame (p.updateCycle fun c => { c with sensor := true }).pool.defrostSlot
    (Ticket.withProgress fun g => { g with sensor := true }) (p.updateCycle fun c => { c with sensor := true })
  exact hdefrost

/-- The limit of the heating with EVAP in FAULT is half of it (R162). -/
theorem heatLimitReached_fault (p : Part) (c : Cycle) (start : Nat) (hs : p.defrost.state = .heating)
    (hc : p.defrost.cycle = some c) (hstart : c.heatingFrom = some start) (hf : p.inFault evap = true) :
    p.heatLimitReached = true ↔ start + p.supervision.params.defrostHeatLimit * 30 * 1000000 ≤ p.clock.now := by
  have hfrom : p.defrost.cycle.bind (·.heatingFrom) = some start := by rw [hc]; exact hstart
  unfold Part.heatLimitReached
  rw [hs, hfrom, hf]
  exact decide_eq_true_iff

/-- An entry into FAULT in HEATING flags SENSOR, and ends the heating where half its limit has passed (R161, R162). -/
theorem heatingFault_spec (p : Part) (c : Cycle) (start : Nat) (hs : p.defrost.state = .heating)
    (hc : p.defrost.cycle = some c) (hstart : c.heatingFrom = some start) (hf : p.inFault evap = true) :
    let q := p.flagDefrostSensor.compareHeatLimit
    (∃ d : Cycle, q.defrost.cycle = some d ∧ d.sensor = true) ∧
      q.defrost.state =
        if start + p.supervision.params.defrostHeatLimit * 30 * 1000000 ≤ p.clock.now then .dwell else .heating := by
  let c' : Cycle := { c with sensor := true }
  obtain ⟨⟨hclock, -, hsense, hsupervision, -⟩, -⟩ := flagDefrostSensor_frame p
  have hdefrost := flagDefrostSensor_defrost p
  have hcycle : p.flagDefrostSensor.defrost.cycle = some c' := by rw [hdefrost, hc]; rfl
  have hfault : p.flagDefrostSensor.inFault evap = true := by rw [Part.inFault, hsense]; exact hf
  have hstate : p.flagDefrostSensor.defrost.state = .heating := by rw [hdefrost]; exact hs
  have hlimit := heatLimitReached_fault p.flagDefrostSensor c' start hstate hcycle hstart hfault
  rw [hclock, hsupervision] at hlimit
  unfold Part.compareHeatLimit
  by_cases h : start + p.supervision.params.defrostHeatLimit * 30 * 1000000 ≤ p.clock.now
  · obtain ⟨hdwell, -, -, hd⟩ := endHeating_spec (if p.flagDefrostSensor.inFault evap then .sensor else .heatLimit)
      p.flagDefrostSensor c' hcycle
    rw [if_pos (hlimit.2 h), if_pos h]
    exact ⟨⟨_, hd, rfl⟩, hdwell⟩
  · rw [if_neg fun hl => h (hlimit.1 hl), if_neg h]
    exact ⟨⟨c', hcycle, rfl⟩, hstate⟩

end Sys2Proof.Machine

namespace Sys2Proof.Machine

/-! The conversions of EVAP and MOLD, their readings handed on (R32). -/

/-- A conversion touches the clock, its channel and the pending set before its reading is handed on. -/
theorem converted_blocks (raw : BitVec 16) (p : Part) :
    let u := p.converted raw
    u.defrost = p.defrost ∧ u.ice = p.ice ∧ u.loads = p.loads ∧ u.pool = p.pool ∧ u.supervision = p.supervision ∧
      u.clock.partSeconds = p.clock.partSeconds := by
  rw [converted_eq]
  exact ⟨rfl, rfl, rfl, rfl, rfl, rfl⟩

/-- The blocks at the end of a conversion are those that its reading has left. -/
theorem endConversion_blocks (raw : BitVec 16) (p : Part) :
    let q := p.endConversion raw
    let v := p.readingHanded raw
    q.defrost = v.defrost ∧ q.ice = v.ice ∧ q.loads = v.loads ∧ q.pool = v.pool ∧ q.link = v.link ∧
      q.clock = (p.converted raw).clock := by
  obtain ⟨hclock, -⟩ := readingHanded_frame raw p
  rw [endConversion_eq]
  exact ⟨rfl, rfl, rfl, rfl, rfl, hclock⟩

theorem endConversion_reading (raw : BitVec 16) (p : Part) (ch : ChannelNo) :
    (p.endConversion raw).reading ch = (p.converted raw).reading ch := by
  obtain ⟨-, hsense, hsupervision, -⟩ := readingHanded_frame raw p
  obtain ⟨-, -, -, -, csupervision, -⟩ := converted_blocks raw p
  rw [endConversion_eq]
  change (p.readingHanded raw).reading ch = _
  rw [Part.reading, hsense, hsupervision, Part.reading, csupervision]

theorem readingHanded_evap (raw : BitVec 16) (p : Part) (h : p.sense.scan.current = 0) :
    p.readingHanded raw = (p.converted raw).evapReading ((p.converted raw).inFault evap && !p.inFault evap) := by
  rw [Part.readingHanded, h]
  exact if_pos rfl

theorem readingHanded_mold (raw : BitVec 16) (p : Part) (h : p.sense.scan.current = 2) :
    p.readingHanded raw = (p.converted raw).moldReading ((p.converted raw).inFault mold && !p.inFault mold) := by
  rw [Part.readingHanded, h]
  exact (if_neg (by decide)).trans (if_pos rfl)

/-- A conversion of EVAP that gives a measurement, by the state of the Defrost Controller (R161, R165, R166). -/
theorem conversionEnd_evapValid (raw : BitVec 16) (p : Part) (h : p.sense.scan.current = 0) (c : Cycle)
    (hc : p.defrost.cycle = some c) (t : Int)
    (hv : ((p.endConversion raw).reading 0).status = .ok ∨ ((p.endConversion raw).reading 0).status = .range)
    (ht : ((p.endConversion raw).reading 0).temp = some t) :
    let q := p.endConversion raw
    let ps := p.supervision.params
    let peak := c.seePeak t
    (p.defrost.state = .heating → ps.terminateTemp ≤ t →
      q.defrost.state = .dwell ∧ q.ice.defrostCopy = .dwell ∧
        q.loads.heaters[(0 : HeaterNo)].ownerDemand = false ∧
        ∃ d : Cycle, q.defrost.cycle = some d ∧ d.endReason = some .terminated ∧ d.peak = peak.peak) ∧
    (p.defrost.state = .heating → t < ps.terminateTemp →
      q.defrost = { p.defrost with cycle := some peak } ∧ q.loads = p.loads) ∧
    (p.defrost.state = .dwell → q.defrost = { p.defrost with cycle := some peak } ∧ q.loads = p.loads) ∧
    (p.defrost.state = .recover → t ≤ ps.fanStartTemp →
      q.defrost.state = .accruing ∧ q.defrost.credit = 0 ∧ q.defrost.cycle = none ∧
        q.isPending .fanRelease = true) ∧
    (p.defrost.state = .recover → ps.fanStartTemp < t → q.defrost = p.defrost) := by
  intro q ps peak
  obtain ⟨hdefrost, hice, hloads, -, hlink, -⟩ := endConversion_blocks raw p
  obtain ⟨cdefrost, -, cloads, -, csupervision, -⟩ := converted_blocks raw p
  rw [endConversion_reading] at hv ht
  have hm : ((p.converted raw).reading evap).measured = some t := measured_of_valid _ t hv ht
  have hc' : (p.converted raw).defrost.cycle = some c := by rw [cdefrost, hc]
  have hpeak : ((p.converted raw).updateCycle (Cycle.seePeak t)).defrost = { p.defrost with cycle := some peak } := by
    change { (p.converted raw).defrost with cycle := (p.converted raw).defrost.cycle.map (Cycle.seePeak t) } = _
    rw [hc', cdefrost]
    rfl
  have hpending : q.isPending .fanRelease = (p.readingHanded raw).isPending .fanRelease := by
    rw [Part.isPending, hlink]
    rfl
  rw [hdefrost, hice, hloads, hpending, readingHanded_evap raw p h]
  refine ⟨fun hs hle => ?_, fun hs hlt => ?_, fun hs => ?_, fun hs hle => ?_, fun hs hlt => ?_⟩
  · rw [evapReading_heating _ _ t (by rw [cdefrost, hs]) hm, csupervision, if_pos hle]
    obtain ⟨hdwell, hcopy, hdemand, hcycle⟩ := endHeating_spec .terminated
      ((p.converted raw).updateCycle (Cycle.seePeak t)) peak (congrArg Defrost.cycle hpeak)
    exact ⟨hdwell, hcopy, hdemand, _, hcycle, rfl, rfl⟩
  · rw [evapReading_heating _ _ t (by rw [cdefrost, hs]) hm, csupervision, if_neg (Int.not_le.2 hlt)]
    exact ⟨hpeak, cloads⟩
  · rw [evapReading_dwell _ _ t (by rw [cdefrost, hs]) hm]
    exact ⟨hpeak, cloads⟩
  · rw [evapReading_recover _ _ t (by rw [cdefrost, hs]) hm, csupervision, if_pos hle]
    exact endRecover_spec _ c hc'
  · rw [evapReading_recover _ _ t (by rw [cdefrost, hs]) hm, csupervision, if_neg (Int.not_le.2 hlt)]
    exact cdefrost

/-- A conversion by which EVAP enters FAULT (R161, R162, R166). -/
theorem conversionEnd_evapFault (raw : BitVec 16) (p : Part) (h : p.sense.scan.current = 0) (c : Cycle)
    (hc : p.defrost.cycle = some c) (hf : p.sense.channels[(0 : ChannelNo)].fault = false)
    (hr : ((p.endConversion raw).reading 0).status = .fault) :
    let q := p.endConversion raw
    (p.defrost.state = .recover → q.defrost = { p.defrost with cycle := some { c with sensor := true } }) ∧
    (∀ start : Nat, p.defrost.state = .heating → c.heatingFrom = some start →
      (∃ d : Cycle, q.defrost.cycle = some d ∧ d.sensor = true) ∧
        q.defrost.state =
          if start + p.supervision.params.defrostHeatLimit * 30 * 1000000 ≤ q.clock.now then .dwell else .heating) := by
  intro q
  obtain ⟨hdefrost, -, -, -, -, hclock⟩ := endConversion_blocks raw p
  obtain ⟨cdefrost, -, -, -, csupervision, -⟩ := converted_blocks raw p
  rw [endConversion_reading] at hr
  have hfault : (p.converted raw).inFault evap = true := (reading_fault_iff _ _).1 hr
  have hm : ((p.converted raw).reading evap).measured = none := measured_of_fault _ hr
  have hc' : (p.converted raw).defrost.cycle = some c := by rw [cdefrost, hc]
  have hentered : ((p.converted raw).inFault evap && !p.inFault evap) = true := by
    rw [hfault, show p.inFault evap = false from hf]
    rfl
  rw [hdefrost, hclock, readingHanded_evap raw p h, hentered]
  refine ⟨fun hs => ?_, fun start hs hstart => ?_⟩
  · rw [evapReading_recoverFault _ (by rw [cdefrost, hs]) hm, flagDefrostSensor_defrost, hc', cdefrost]
    rfl
  · have hs' : (p.converted raw).defrost.state = .heating := by rw [cdefrost, hs]
    have hspec := heatingFault_spec (p.converted raw) c start hs' hc' hstart hfault
    rw [csupervision] at hspec
    rw [evapReading_heatingFault _ hs' hm]
    exact hspec

end Sys2Proof.Machine

namespace Sys2Proof.Machine

/-! A reading handed to the Ice Maker Controller (R32, R100, R101, R104). -/

theorem moldReading_freezing (entered : Bool) (p : Part) (hs : p.ice.state = .freezing) :
    p.moldReading entered = p.freezeReading := by
  unfold Part.moldReading
  rw [hs]

theorem moldReading_heat (entered : Bool) (p : Part) (hs : p.ice.state = .harvestHeat) :
    p.moldReading entered = p.heatReading entered := by
  unfold Part.moldReading
  rw [hs]

/-- The cold run as a cold reading leaves it: begun, or going on (R100). -/
def Part.coldRun (p : Part) : Part := { p with ice.coldRunStart := some (p.ice.coldRunStart.getD p.clock.now) }

/-- No cold run (R100). -/
def Part.noColdRun (p : Part) : Part := { p with ice.coldRunStart := none }

theorem freezeReading_cold (p : Part) (t : Int) (hm : (p.reading mold).measured = some t)
    (ht : t ≤ p.supervision.params.harvestTemp) : p.freezeReading = p.coldRun.takeFreeze := by
  unfold Part.freezeReading
  rw [hm]
  exact congrArg Part.takeFreeze (if_pos ht)

theorem freezeReading_warm (p : Part) (t : Int) (hm : (p.reading mold).measured = some t)
    (ht : p.supervision.params.harvestTemp < t) : p.freezeReading = p.noColdRun := by
  have hnone : p.freezeReading = p.noColdRun.takeFreeze := by
    unfold Part.freezeReading
    rw [hm]
    exact congrArg Part.takeFreeze (if_neg (Int.not_le.2 ht))
  rw [hnone, takeFreeze_warm _ (holdRun_none _ rfl)]

theorem freezeReading_none (p : Part) (hm : (p.reading mold).measured = none) :
    p.freezeReading = p.noColdRun.takeFaultFreeze := by
  unfold Part.freezeReading
  rw [hm]
  rfl

/-- A cold reading in FREEZING ends the freeze, or leaves the cold run (R100). -/
theorem coldRun_taken (p : Part) (start : Nat) (hs : p.ice.state = .freezing) (hf : p.inFault mold = false)
    (hstart : p.ice.freezeStart = some start) :
    let q := p.coldRun.takeFreeze
    let cold := p.ice.coldRunStart.getD p.clock.now
    if cold + p.supervision.params.freezeHold * 1000000 ≤ p.clock.now ∧
        start + p.supervision.params.minFreeze * 60 ≤ p.clock.partSeconds then
      q.ice.state = .harvestWait ∧ q.defrost.iceCopy = .harvestWait ∧ q.ice.notedSensor = false
    else q.ice = { p.ice with coldRunStart := some cold } := by
  intro q cold
  have hhold := holdRun_some p.coldRun cold rfl
  have hmin := minFreezeReached_iff p.coldRun 1 start hstart
  rw [one_mul] at hmin
  split
  next h =>
    obtain ⟨hice, hdefrost⟩ := endFreeze_spec false p.coldRun
    have hq : q = p.coldRun.endFreeze false := takeFreeze_ends p.coldRun hs hf (hhold.2 h.1) (hmin.2 h.2)
    rw [hq, hice, hdefrost]
    exact ⟨rfl, rfl, rfl⟩
  next h =>
    have hq : q = p.coldRun := if_neg fun ⟨_, _, hh, hm⟩ => h ⟨hhold.1 hh, hmin.1 hm⟩
    rw [hq]
    rfl

/-- A FAULT reading in FREEZING ends the freeze at twice its minimum, or leaves no cold run (R101, log 33). -/
theorem faultRun_taken (p : Part) (start : Nat) (hs : p.ice.state = .freezing) (hf : p.inFault mold = true)
    (hstart : p.ice.freezeStart = some start) :
    let q := p.noColdRun.takeFaultFreeze
    if start + 2 * p.supervision.params.minFreeze * 60 ≤ p.clock.partSeconds then
      q.ice.state = .harvestWait ∧ q.ice.notedSensor = true
    else q.ice = { p.ice with coldRunStart := none } := by
  intro q
  have hmin := minFreezeReached_iff p.noColdRun 2 start hstart
  split
  next h =>
    obtain ⟨hice, -⟩ := endFreeze_spec true p.noColdRun
    have hq : q = p.noColdRun.endFreeze true := takeFaultFreeze_ends p.noColdRun hs hf (hmin.2 h)
    rw [hq, hice]
    exact ⟨rfl, rfl⟩
  next h =>
    have hq : q = p.noColdRun := if_neg fun ⟨_, _, hm⟩ => h (hmin.1 hm)
    rw [hq]
    rfl

theorem takeFaultFreeze_well (p : Part) (hf : p.inFault mold = false) : p.takeFaultFreeze = p :=
  if_neg fun ⟨_, h, _⟩ => Bool.false_ne_true (hf.symm.trans h)

theorem heatReading_valid (entered : Bool) (p : Part) (t : Int) (hm : (p.reading mold).measured = some t) :
    p.heatReading entered = if p.supervision.params.releaseTemp ≤ t then p.endHeat false else p := by
  unfold Part.heatReading
  rw [hm]

theorem heatReading_fault (p : Part) (hm : (p.reading mold).measured = none) :
    p.heatReading true =
      (p.updateSlot p.pool.iceSlot (Ticket.withProgress fun g => { g with sensor := true })).compareMoldLimit := by
  unfold Part.heatReading
  rw [hm]
  rfl

/-- An entry into FAULT in HARVEST_HEAT flags SENSOR, and ends the heat where half its limit has passed (R104). -/
theorem moldFault_spec (p : Part) (start : Nat) (n : TicketNo) (hs : p.ice.state = .harvestHeat)
    (hf : p.inFault mold = true) (hstart : p.ice.heatFrom = some start) (hn : p.pool.iceSlot = some n)
    (hm : (p.reading mold).measured = none) :
    let q := p.heatReading true
    (q.ticket n).progress.sensor = true ∧
      q.ice.state =
        if start + p.supervision.params.moldHeatLimit / 2 * 1000000 ≤ p.clock.now then .eject else .harvestHeat := by
  let u : Part := p.updateTicket n (Ticket.withProgress fun g => { g with sensor := true })
  intro q
  have hslot : p.updateSlot p.pool.iceSlot (Ticket.withProgress fun g => { g with sensor := true }) = u := by
    rw [hn, updateSlot_some]
  have hq : q = u.compareMoldLimit := (heatReading_fault p hm).trans (congrArg Part.compareMoldLimit hslot)
  have hticket : (u.ticket n).progress.sensor = true := by
    rw [ticket_updateTicket, if_pos rfl]
    rfl
  have hlimit := moldLimitReached_iff u start hs hstart
  rw [show u.heatLimit = p.supervision.params.moldHeatLimit / 2 from if_pos hf] at hlimit
  rw [hq]
  split
  next h =>
    obtain ⟨heject, -, -, -, -, -, -, -, -, hpool⟩ := endHeat_attempt (!u.inFault mold) u
    rw [compareMoldLimit_reached u (hlimit.2 h)]
    refine ⟨?_, heject⟩
    rw [Part.ticket, hpool]
    exact hticket
  next h =>
    have hstays : u.compareMoldLimit = u := if_neg fun hl => h (hlimit.1 hl)
    rw [hstays]
    exact ⟨hticket, hs⟩

theorem inFault_of_status (p : Part) (ch : ChannelNo) (h : (p.reading ch).status ≠ .fault) : p.inFault ch = false :=
  Bool.eq_false_iff.2 fun hf => h ((reading_fault_iff p ch).2 hf)

/-- A conversion of MOLD that gives a measurement, by the state of the ice maker (R100, R104). -/
theorem conversionEnd_moldValid (raw : BitVec 16) (p : Part) (h : p.sense.scan.current = 2) (t : Int)
    (hv : ((p.endConversion raw).reading 2).status = .ok ∨ ((p.endConversion raw).reading 2).status = .range)
    (ht : ((p.endConversion raw).reading 2).temp = some t) :
    let q := p.endConversion raw
    let ps := p.supervision.params
    (∀ start : Nat, p.ice.state = .freezing → p.ice.freezeStart = some start → t ≤ ps.harvestTemp →
      let cold := p.ice.coldRunStart.getD q.clock.now
      if cold + ps.freezeHold * 1000000 ≤ q.clock.now ∧ start + ps.minFreeze * 60 ≤ p.clock.partSeconds then
        q.ice.state = .harvestWait ∧ q.defrost.iceCopy = .harvestWait ∧ q.ice.notedSensor = false
      else q.ice = { p.ice with coldRunStart := some cold }) ∧
    (p.ice.state = .freezing → ps.harvestTemp < t → q.ice = { p.ice with coldRunStart := none }) ∧
    (p.ice.state = .harvestHeat → ps.releaseTemp ≤ t →
      q.ice.state = .eject ∧ q.defrost.iceCopy = .eject ∧ q.ice.heatLimitMark = false ∧
        q.ice.attempts = p.ice.attempts + 1 ∧ q.ice.ejector = true ∧ q.loads = p.loads) ∧
    (p.ice.state = .harvestHeat → t < ps.releaseTemp → q.ice = p.ice) := by
  intro q ps
  obtain ⟨hdefrost, hice, hloads, -, -, hclock⟩ := endConversion_blocks raw p
  obtain ⟨-, cice, cloads, -, csupervision, cseconds⟩ := converted_blocks raw p
  rw [endConversion_reading] at hv ht
  have hm : ((p.converted raw).reading mold).measured = some t := measured_of_valid _ t hv ht
  have hwell : (p.converted raw).inFault mold = false := by
    refine inFault_of_status _ _ fun hf => ?_
    rw [measured_of_fault _ hf] at hm
    cases hm
  rw [hdefrost, hice, hloads, hclock, readingHanded_mold raw p h]
  refine ⟨fun start hs hstart hle => ?_, fun hs hlt => ?_, fun hs hle => ?_, fun hs hlt => ?_⟩
  · have hs' : (p.converted raw).ice.state = .freezing := by rw [cice, hs]
    have htaken := coldRun_taken (p.converted raw) start hs' hwell (by rw [cice, hstart])
    rw [cice, csupervision, cseconds] at htaken
    rw [moldReading_freezing _ _ hs', freezeReading_cold _ t hm (by rw [csupervision]; exact hle)]
    exact htaken
  · have hs' : (p.converted raw).ice.state = .freezing := by rw [cice, hs]
    rw [moldReading_freezing _ _ hs', freezeReading_warm _ t hm (by rw [csupervision]; exact hlt), Part.noColdRun, cice]
  · have hs' : (p.converted raw).ice.state = .harvestHeat := by rw [cice, hs]
    obtain ⟨hstate, hcopy, hmark, hattempts, hejector, -, -, -, eloads, -⟩ := endHeat_attempt false (p.converted raw)
    rw [moldReading_heat _ _ hs', heatReading_valid _ _ t hm, csupervision, if_pos hle]
    rw [cice] at hattempts
    exact ⟨hstate, hcopy, hmark, hattempts, hejector, eloads.trans cloads⟩
  · have hs' : (p.converted raw).ice.state = .harvestHeat := by rw [cice, hs]
    rw [moldReading_heat _ _ hs', heatReading_valid _ _ t hm, csupervision, if_neg (Int.not_le.2 hlt)]
    exact cice

/-- A conversion of MOLD that gives no measurement, by the state of the ice maker (R100, R101, R104). -/
theorem conversionEnd_moldInvalid (raw : BitVec 16) (p : Part) (h : p.sense.scan.current = 2) :
    let q := p.endConversion raw
    let r := q.reading 2
    let ps := p.supervision.params
    (p.ice.state = .freezing → r.status = .notReady → q.ice = { p.ice with coldRunStart := none }) ∧
    (∀ start : Nat, p.ice.state = .freezing → r.status = .fault → p.ice.freezeStart = some start →
      if start + 2 * ps.minFreeze * 60 ≤ p.clock.partSeconds then
        q.ice.state = .harvestWait ∧ q.ice.notedSensor = true
      else q.ice = { p.ice with coldRunStart := none }) ∧
    (∀ (start : Nat) (n : TicketNo), p.ice.state = .harvestHeat → p.sense.channels[(2 : ChannelNo)].fault = false →
      r.status = .fault → p.ice.heatFrom = some start → p.pool.iceSlot = some n →
      (q.ticket n).progress.sensor = true ∧
        q.ice.state =
          if start + ps.moldHeatLimit / 2 * 1000000 ≤ q.clock.now then .eject else .harvestHeat) := by
  intro q r ps
  obtain ⟨-, hice, -, hpool, -, hclock⟩ := endConversion_blocks raw p
  obtain ⟨-, cice, -, cpool, csupervision, cseconds⟩ := converted_blocks raw p
  have hr : r = (p.converted raw).reading mold := endConversion_reading raw p 2
  have hticket (n : TicketNo) : q.ticket n = (p.readingHanded raw).ticket n := by
    rw [Part.ticket, hpool]
    rfl
  rw [hr, hice, hclock, readingHanded_mold raw p h]
  refine ⟨fun hs hready => ?_, fun start hs hfault hstart => ?_, fun start n hs hf hfault hstart hn => ?_⟩
  · have hs' : (p.converted raw).ice.state = .freezing := by rw [cice, hs]
    have hwell := inFault_of_status _ _ (by rw [hready]; decide)
    rw [moldReading_freezing _ _ hs', freezeReading_none _ (measured_of_notReady _ hready),
      takeFaultFreeze_well (p.converted raw).noColdRun hwell, Part.noColdRun, cice]
  · have hs' : (p.converted raw).ice.state = .freezing := by rw [cice, hs]
    have htaken := faultRun_taken (p.converted raw) start hs' ((reading_fault_iff _ _).1 hfault)
      (by rw [cice, hstart])
    rw [cice, csupervision, cseconds] at htaken
    rw [moldReading_freezing _ _ hs', freezeReading_none _ (measured_of_fault _ hfault)]
    exact htaken
  · have hs' : (p.converted raw).ice.state = .harvestHeat := by rw [cice, hs]
    have hin : (p.converted raw).inFault mold = true := (reading_fault_iff _ _).1 hfault
    have hentered : ((p.converted raw).inFault mold && !p.inFault mold) = true := by
      rw [hin, show p.inFault mold = false from hf]
      rfl
    have hspec := moldFault_spec (p.converted raw) start n hs' hin (by rw [cice, hstart]) (by rw [cpool, hn])
      (measured_of_fault _ hfault)
    rw [csupervision] at hspec
    rw [hticket, readingHanded_mold raw p h, hentered, moldReading_heat _ _ hs']
    exact hspec

end Sys2Proof.Machine

namespace Sys2Proof.Machine

/-! The end of a conversion, as a whole (R28 to R34, R40). -/

/-- Settles O18: `conversionEnd_channel` and `convert_eq` for the channel, `conversionEnd_scan` and the answers to a FRESH
request for the scan, and the readings of EVAP and MOLD handed on. -/
theorem conversionActsOnItsChannel : Obligations.ConversionActsOnItsChannel := by
  refine ⟨?_, ⟨?_, ?_⟩, ?_⟩
  · intro s dt raw hr p ch c count good cls
    obtain ⟨hchannels, hpending⟩ := conversionEnd_channel s dt raw
    refine ⟨_, conversionEnd_row s dt raw hr, ?_, fun hf hbad hthird => ?_⟩
    · rw [hchannels, convert_eq]
      rfl
    · exact hpending hf (convert_third c count hf hbad hthird)
  · intro s dt raw hr p scan count
    obtain ⟨hclock, hstarted, hnext, hround⟩ := conversionEnd_scan raw p
    refine ⟨(p.endConversion raw).settle.answerFresh, conversionEnd_row s dt raw hr, hclock, hstarted, hnext,
      fun hrest hfresh => ?_, fun chs hrest hne hfresh => ?_, fun chs k hfresh => ?_, fun chs f hfresh hx => ?_⟩
    · have horder := hround hrest
      rw [show p.sense.scan.fresh = none from hfresh] at horder
      exact List.cons.inj horder
    · have horder := hround hrest
      rw [show p.sense.scan.fresh = some { channels := chs, left := none } from hfresh] at horder
      exact ⟨horder.trans (roundOrder_eq chs), conversionEnd_takesUp raw p chs hrest hne hfresh⟩
    · exact conversionEnd_counts raw p chs k hfresh
    · exact conversionEnd_answers raw p chs f hfresh hx
  · intro p ch hr
    obtain ⟨hhigh, hreleased, hlow⟩ := thermistorDrive_spec p ch hr
    exact ⟨hhigh, hreleased, hlow, conversion_due p⟩
  · intro s dt raw hr hfresh p ps
    have hnone : p.scanCounted.fresh = none := congrArg (Option.map Fresh.count) hfresh
    have hwaits : (p.endConversion raw).settle.answerFresh = (p.endConversion raw).settle := by
      refine conversionEnd_waits raw p fun chs => ?_
      rw [Part.scanOn, next_unheld _ _ hnone]
      exact fun h => nomatch h
    have hrow := conversionEnd_row s dt raw hr
    rw [hwaits] at hrow
    refine ⟨_, hrow, fun h c hc => ⟨fun t hv ht => ?_, fun hf hfault => ?_⟩, fun h => ⟨fun t hv ht => ?_, ?_⟩⟩
    · exact conversionEnd_evapValid raw p h c hc t hv ht
    · exact conversionEnd_evapFault raw p h c hc hf hfault
    · exact conversionEnd_moldValid raw p h t hv ht
    · exact conversionEnd_moldInvalid raw p h

end Sys2Proof.Machine

namespace Sys2Proof.Machine

/-! Demands at the end of a reset (R51, R96, R188). -/

/-- While a reset lasts: a home switch read MADE, and a HARVEST at work in HARVEST_HEAT with H2 demanded. -/
def heatedHarvestInReset : Part :=
  { Part.reset with
    resetting := some .powerOn
    sense.home := some .made
    ice.state := .harvestHeat
    loads := Part.reset.loads.update 2 Heater.raiseOwner
    pool.iceSlot := some 0
    pool.free := Part.reset.pool.free.tail
    pool.tickets := Part.reset.pool.tickets.set 0 { state := .active, kind := some .harvest, origin := some .iceMaker } }

theorem heatedHarvestInReset_sound : heatedHarvestInReset.ticketsSound := by
  refine ⟨?_, ?_, ?_, ?_⟩
  · unfold Part.ticketsPlaced; decide +kernel
  · unfold Part.queueOrdered; decide +kernel
  · unfold Part.outletServesHead; decide +kernel
  · refine ⟨fun n h => ?_, fun w h => ?_, fun w h => ?_, ?_⟩
    · cases h
    · cases h
    · cases h
    · intro _; rfl

theorem heatedHarvestInReset_demandsStand : heatedHarvestInReset.demandsStand := by
  unfold Part.demandsStand
  decide +kernel

/-- RESET_END homes the ice maker from HARVEST_HEAT, and leaves the demand of H2. -/
theorem heatedHarvestInReset_endReset :
    heatedHarvestInReset.endReset.loads.heaters[(2 : HeaterNo)].ownerDemand = true ∧
      heatedHarvestInReset.endReset.ice.state = .freezing := by
  decide +kernel

/-- Refutes O55: the end of a reset homes the ice maker by its home switch, from whatever state the part is in, and drops no
demand. From a part in reset (which `ticketsSound` and `demandsStand` let stand) whose HARVEST heats the mold, RESET_END leads
to FREEZING with H2 still demanded, which R51 forbids. No reset of the part begins so: only the statement's second half, which
does not speak of resets, is too strong. -/
theorem not_grantsStayWithinTheBudget : ¬ Obligations.GrantsStayWithinTheBudget := by
  intro h
  obtain ⟨-, hstand⟩ := h
  obtain ⟨-, -, hmold, -⟩ := hstand { part := heatedHarvestInReset, pending := [.resetEnd 0] }
    { part := heatedHarvestInReset.endReset, pending := [] } heatedHarvestInReset_sound
    heatedHarvestInReset_demandsStand rfl
  obtain ⟨hdemand, hstate⟩ := heatedHarvestInReset_endReset
  have hheat := hmold hdemand
  rw [hstate] at hheat
  rcases hheat with hheat | hheat <;> cases hheat

end Sys2Proof.Machine

namespace Sys2Proof.Machine

/-! The answers on an idle link to commands that change nothing, or the loads alone. -/

/-- An answer that leaves the part as its owner was handed it. -/
theorem answers_unchanged (i : Instr) (s : State) (dt : Nat) (f : Frame) (st : Status) (data : List Byte)
    (hs : s.linkIdle) (h : hostRow i = some (dt, f)) (hl : f.payload.length ≤ 64)
    (hk : Part.takeKind f (s.heard i) = (some ⟨st, data⟩, s.heard i)) : Answers i s st data (s.heard i) :=
  answers_of_takeKind i s dt f st data (s.heard i) hs h hl hk (heard_inbox i s dt f hs h)

theorem answers_setLoad (s : State) (dt : Nat) (tag : Byte) (payload : List Byte) (st : Status) (q : Part)
    (hs : s.linkIdle) (hl : payload.length ≤ 64)
    (hk : (s.heard (.setLoad dt tag payload)).takeSetLoad payload = (⟨st, []⟩, q)) (hq : q.link.inbox = []) :
    Answers (.setLoad dt tag payload) s st [] q :=
  answers_of_takeKind _ s dt ⟨0x14, tag, payload⟩ st [] q hs rfl hl (congrArg atOnce hk) hq

theorem answers_setRotation (s : State) (dt : Nat) (tag : Byte) (payload : List Byte) (st : Status) (q : Part)
    (hs : s.linkIdle) (hl : payload.length ≤ 64)
    (hk : (s.heard (.setRotation dt tag payload)).takeSetRotation payload = (⟨st, []⟩, q)) (hq : q.link.inbox = []) :
    Answers (.setRotation dt tag payload) s st [] q :=
  answers_of_takeKind _ s dt ⟨0x16, tag, payload⟩ st [] q hs rfl hl (congrArg atOnce hk) hq

/-! SET_LOAD (R60). -/

/-- A number that names no heater is refused RANGE (R60). -/
theorem takeSetLoad_noHeater (p : Part) (n hi lo period duty : Byte) (hn : 4 < n.toNat) :
    p.takeSetLoad [n, hi, lo, period, duty] = refuse .range p := by
  simp only [Part.takeSetLoad, dif_neg (show ¬ n.toNat < 5 by omega)]

/-- A SET_LOAD of a heater that `loadRefusal` refuses changes nothing (R60). -/
theorem takeSetLoad_refused (p : Part) (n hi lo period duty : Byte) (h : HeaterNo) (hn : n.toNat = h.val) (st : Status)
    (hst : p.loadRefusal h ⟨read16 hi lo, period.toNat, duty.toNat⟩ = some st) :
    p.takeSetLoad [n, hi, lo, period, duty] = refuse st p := by
  have hlt : n.toNat < 5 := by omega
  have hh : (⟨n.toNat, hlt⟩ : HeaterNo) = h := Fin.ext hn
  simp only [Part.takeSetLoad, dif_pos hlt, hh, hst]

/-- One that it does not refuse replaces the heater's accepted configuration (R60). -/
theorem takeSetLoad_accepted (p : Part) (n hi lo period duty : Byte) (h : HeaterNo) (hn : n.toNat = h.val)
    (hst : p.loadRefusal h ⟨read16 hi lo, period.toNat, duty.toNat⟩ = none) :
    p.takeSetLoad [n, hi, lo, period, duty] =
      accept { p with loads := p.loads.update h fun r =>
        { r with accepted := ⟨read16 hi lo, period.toNat, duty.toNat⟩ } } := by
  have hlt : n.toNat < 5 := by omega
  have hh : (⟨n.toNat, hlt⟩ : HeaterNo) = h := Fin.ext hn
  simp only [Part.takeSetLoad, dif_pos hlt, hh, hst]

/-- The cases of R60, in order. -/
theorem loadRefusal_eq (p : Part) (h : HeaterNo) (watts period duty : Nat) :
    p.loadRefusal h ⟨watts, period, duty⟩ =
      if p.supervision.lock = true ∧ watts ≠ p.loads.heaters[h].accepted.watts then some .locked
      else if 400 < watts ∨ watts % 5 ≠ 0 ∨ period < 1 ∨ 16 < period ∨ 16 < duty then some .range
      else if p.supervision.params.heaterBudget < watts then some .range
      else none := by
  simp [Part.loadRefusal]

/-! SET_ROTATION (R59). -/

/-- The byte of an entry names that entry (Table 9-10). -/
theorem rotationEntry_rotationByte (e : Option HeaterNo) : rotationEntry (rotationByte e) = some e := by
  revert e
  decide

/-- A byte that is neither a heater nor NONE names no entry (Table 9-10). -/
theorem rotationEntry_none (b : Byte) (h5 : 5 ≤ b.toNat) (hff : b ≠ 0xFF) : rotationEntry b = none := by
  rw [rotationEntry, dif_neg (by omega), if_neg hff]

/-- One byte that names no entry refuses them all. -/
theorem mapM_rotationEntry_none (bytes : List Byte) (b : Byte) (hb : b ∈ bytes) (h : rotationEntry b = none) :
    bytes.mapM rotationEntry = none := by
  induction bytes with
  | nil => cases hb
  | cons c bytes ih =>
    rw [List.mapM_cons]
    rcases List.mem_cons.1 hb with rfl | hb
    · rw [h]; rfl
    · rw [ih hb]
      cases rotationEntry c <;> rfl

/-- The bytes of entries name those entries, in order. -/
theorem mapM_rotationByte (l : List (Option HeaterNo)) : (l.map rotationByte).mapM rotationEntry = some l := by
  induction l with
  | nil => rfl
  | cons e l ih => rw [List.map_cons, List.mapM_cons, rotationEntry_rotationByte, ih]; rfl

/-- The 16 bytes of a table name that table (R59). -/
theorem rotationOf_bytes (t : Vector (Option HeaterNo) 16) : rotationOf (t.toList.map rotationByte) = some t := by
  rw [rotationOf, mapM_rotationByte]
  exact dif_pos (by simp)

/-- Settles O21: SET_LOAD is judged by `loadRefusal`, and the bytes of a rotation table by `rotationEntry`. -/
theorem loadsAreConfigured : Obligations.LoadsAreConfigured := by
  constructor
  · intro s dt tag n hi lo period duty hs i q watts
    have hin : q.link.inbox = [] := heard_inbox i s dt ⟨0x14, tag, _⟩ hs rfl
    have answer (st : Status) (t : Part) (hk : q.takeSetLoad [n, hi, lo, period, duty] = (⟨st, []⟩, t))
        (ht : t.link.inbox = []) : Answers i s st [] t :=
      answers_setLoad s dt tag _ st t hs (by simp) hk ht
    refine ⟨fun hn => answer _ _ (takeSetLoad_noHeater q n hi lo period duty hn) hin, fun h hn => ?_⟩
    have heq : q.loadRefusal h ⟨read16 hi lo, period.toNat, duty.toNat⟩ = _ := loadRefusal_eq q h watts _ _
    have refused (st : Status) (hst : q.loadRefusal h ⟨read16 hi lo, period.toNat, duty.toNat⟩ = some st) :
        Answers i s st [] q := answer _ _ (takeSetLoad_refused q n hi lo period duty h hn st hst) hin
    split_ifs with hlock hrange hbudget
    · exact refused _ (by rw [heq, if_pos hlock])
    · exact refused _ (by rw [heq, if_neg hlock, if_pos hrange])
    · exact refused _ (by rw [heq, if_neg hlock, if_neg hrange, if_pos hbudget])
    · have hst := heq.trans (by rw [if_neg hlock, if_neg hrange, if_neg hbudget])
      exact answer _ _ (takeSetLoad_accepted q n hi lo period duty h hn hst) hin
  · intro s dt tag payload hs hl i q
    have hin : q.link.inbox = [] := heard_inbox i s dt ⟨0x16, tag, payload⟩ hs rfl
    have answer (st : Status) (t : Part) (hk : q.takeSetRotation payload = (⟨st, []⟩, t)) (ht : t.link.inbox = []) :
        Answers i s st [] t :=
      answers_setRotation s dt tag payload st t hs hl hk ht
    refine ⟨fun hne => answer _ _ (if_neg hne) hin, fun hlen hbad => answer _ _ ?_ hin, fun t ht => answer _ _ ?_ hin⟩
    · obtain ⟨b, hb, h5, hff⟩ := hbad
      have hnone := mapM_rotationEntry_none payload b hb (rotationEntry_none b h5 hff)
      simp only [Part.takeSetRotation, if_pos hlen, rotationOf, hnone]
      rfl
    · have hbytes : payload = t.toList.map rotationByte := by
        rw [ht]
        refine List.map_congr_left fun e _ => ?_
        cases e <;> rfl
      rw [Part.takeSetRotation, if_pos (by rw [hbytes]; simp), hbytes, rotationOf_bytes]
      rfl

end Sys2Proof.Machine

namespace Sys2Proof.Machine

/-! The trial of the candidates (R54). -/

/-- A trial of two runs of candidates: the second is tried with what the first leaves. -/
theorem grantTrial_append (w : HeaterNo → Nat) (left : Nat) (pre post : List HeaterNo) :
    grantTrial w left (pre ++ post) =
      grantTrial w left pre ++ grantTrial w (left - ((grantTrial w left pre).map w).sum) post := by
  induction pre generalizing left with
  | nil => simp [grantTrial]
  | cons n pre ih =>
    simp only [List.cons_append, grantTrial]
    split
    · simp [ih, Nat.sub_sub]
    · exact ih left

/-- Only candidates are granted, each at most once. -/
theorem grantTrial_sublist (w : HeaterNo → Nat) (left : Nat) (order : List HeaterNo) :
    (grantTrial w left order).Sublist order := by
  induction order generalizing left with
  | nil => exact .refl _
  | cons n order ih =>
    rw [grantTrial]
    split
    · exact (ih _).cons_cons n
    · exact (ih left).cons n

/-- R58: the watts granted never exceed the budget. -/
theorem grantTrial_sum_le (w : HeaterNo → Nat) (left : Nat) (order : List HeaterNo) :
    ((grantTrial w left order).map w).sum ≤ left := by
  induction order generalizing left with
  | nil => exact Nat.zero_le _
  | cons n order ih =>
    rw [grantTrial]
    split
    · have hrest := ih (left - w n)
      rw [List.map_cons, List.sum_cons]
      omega
    · exact ih left

/-- Candidates that fit the budget together are all granted. -/
theorem grantTrial_all (w : HeaterNo → Nat) (left : Nat) (order : List HeaterNo) (h : (order.map w).sum ≤ left) :
    grantTrial w left order = order := by
  induction order generalizing left with
  | nil => rfl
  | cons n order ih =>
    rw [List.map_cons, List.sum_cons] at h
    rw [grantTrial, if_pos (by omega), ih _ (by omega)]

/-- A candidate rated at 0 W is granted. -/
theorem mem_grantTrial_of_zero (w : HeaterNo → Nat) (left : Nat) (order : List HeaterNo) (n : HeaterNo)
    (hn : n ∈ order) (hw : w n = 0) : n ∈ grantTrial w left order := by
  obtain ⟨pre, post, rfl⟩ := List.append_of_mem hn
  rw [grantTrial_append, grantTrial, if_pos (by omega)]
  simp

/-- The ratings of a list of heaters, summed over all five. -/
theorem sum_ite_mem (w : HeaterNo → Nat) (l : List HeaterNo) (hl : l.Nodup) :
    ((List.finRange 5).map fun m => if m ∈ l then w m else 0).sum = (l.map w).sum := by
  rw [← Fin.sum_univ_def, ← List.sum_toFinset w hl]
  simp [← List.mem_toFinset, Finset.sum_ite_mem]

/-- R54: a candidate is granted exactly when its watts and those granted to the candidates tried before it fit. -/
theorem mem_grantTrial_iff (w : HeaterNo → Nat) (left : Nat) (order : List HeaterNo)
    (before : HeaterNo → HeaterNo → Prop) [DecidableRel before] (hasymm : ∀ m n, before m n → ¬ before n m)
    (horder : order.Pairwise before) (n : HeaterNo) (hn : n ∈ order) :
    n ∈ grantTrial w left order ↔
      w n + ((List.finRange 5).map fun m => if m ∈ grantTrial w left order ∧ before m n then w m else 0).sum ≤ left := by
  have hirrefl (m : HeaterNo) : ¬ before m m := fun h => hasymm m m h h
  have hnodup : order.Nodup := horder.imp fun {a b} h => by rintro rfl; exact hirrefl a h
  obtain ⟨pre, post, rfl⟩ := List.append_of_mem hn
  obtain ⟨-, hpost, hpre⟩ := List.pairwise_append.1 horder
  have hafter : ∀ m ∈ post, before n m := (List.pairwise_cons.1 hpost).1
  have hpren : ∀ m ∈ pre, before m n := fun m hm => hpre m hm n List.mem_cons_self
  have hfirst (m : HeaterNo) :
      (m ∈ grantTrial w left (pre ++ n :: post) ∧ before m n) ↔ m ∈ grantTrial w left pre := by
    rw [grantTrial_append, List.mem_append]
    constructor
    · rintro ⟨hm | hm, hb⟩
      · exact hm
      · rcases List.mem_cons.1 ((grantTrial_sublist w _ _).subset hm) with rfl | hm
        · exact absurd hb (hirrefl m)
        · exact absurd hb (hasymm n m (hafter m hm))
    · exact fun hm => ⟨.inl hm, hpren m ((grantTrial_sublist w _ _).subset hm)⟩
  have hsum : ((List.finRange 5).map fun m =>
      if m ∈ grantTrial w left (pre ++ n :: post) ∧ before m n then w m else 0).sum =
        ((grantTrial w left pre).map w).sum := by
    rw [← sum_ite_mem w _ ((hnodup.sublist (List.sublist_append_left _ _)).sublist (grantTrial_sublist w left pre))]
    simp only [hfirst]
  rw [hsum, grantTrial_append, List.mem_append]
  have hle := grantTrial_sum_le w left pre
  have hout : n ∉ grantTrial w left pre := fun h =>
    hirrefl n (hpren n ((grantTrial_sublist w _ _).subset h))
  have hout' (k : Nat) : n ∉ grantTrial w k post := fun h =>
    hirrefl n (hafter n ((grantTrial_sublist w _ _).subset h))
  rw [grantTrial]
  split <;> simp only [List.mem_cons, hout, hout', true_or, or_true, or_self, true_iff, false_iff] <;> omega

/-! The trial order (R54). -/

/-- One heater is tried before another: it is the one that the rotation entry of the slot names, or that is neither of them
and its number is lower. -/
abbrev Loads.before (l : Loads) (m n : HeaterNo) : Prop :=
  m ≠ n ∧ (l.rotation[l.slot] = some m ∨ l.rotation[l.slot] ≠ some n ∧ m < n)

theorem Loads.before_asymm (l : Loads) (m n : HeaterNo) (h : l.before m n) : ¬ l.before n m := by
  rintro ⟨-, hn⟩
  obtain ⟨hne, hm⟩ := h
  rcases hm with hm | ⟨hm, hlt⟩
  · rcases hn with hn | ⟨hn, -⟩
    · exact hne (Option.some.inj (hm.symm.trans hn))
    · exact hn hm
  · rcases hn with hn | ⟨-, hgt⟩
    · exact hm hn
    · exact lt_asymm hlt hgt

/-- The candidates in ascending number. -/
theorem candidates_sorted (l : Loads) : (allHeaters.filter fun n => l.heaters[n].candidate).Pairwise (· < ·) :=
  List.Pairwise.filter _ (by decide)

theorem mem_candidates (l : Loads) (n : HeaterNo) :
    (n ∈ allHeaters.filter fun n => l.heaters[n].candidate) ↔ l.heaters[n].candidate = true := by
  rw [List.mem_filter]
  exact and_iff_right (by revert n; decide)

/-- The candidates are tried, and no other heater. -/
theorem mem_trialOrder (l : Loads) (n : HeaterNo) : n ∈ l.trialOrder ↔ l.heaters[n].candidate = true := by
  have hnodup : (allHeaters.filter fun n => l.heaters[n].candidate).Nodup := (candidates_sorted l).imp ne_of_lt
  unfold Loads.trialOrder
  split
  · exact mem_candidates l n
  · next f _ =>
    dsimp only
    split
    next hf =>
      rw [List.mem_cons, hnodup.mem_erase_iff, mem_candidates]
      by_cases h : n = f
      · subst h; simp only [hf, true_or]
      · simp only [h, false_or, ne_eq, not_false_eq_true, true_and]
    next => exact mem_candidates l n

/-- The trial order is the order of `before`. -/
theorem trialOrder_pairwise (l : Loads) : l.trialOrder.Pairwise l.before := by
  have hsorted := candidates_sorted l
  have hnodup : (allHeaters.filter fun n => l.heaters[n].candidate).Nodup := hsorted.imp ne_of_lt
  unfold Loads.trialOrder
  split
  · next hrot =>
    exact hsorted.imp fun h => ⟨ne_of_lt h, .inr ⟨by rw [hrot]; simp, h⟩⟩
  · next f hrot =>
    dsimp only
    split
    · refine List.pairwise_cons.2 ⟨fun n hn => ?_, ?_⟩
      · exact ⟨fun h => (hnodup.mem_erase_iff.1 hn).1 h.symm, .inl hrot⟩
      · refine (hsorted.sublist List.erase_sublist).imp_of_mem fun {m n} _ hn h => ⟨ne_of_lt h, .inr ⟨?_, h⟩⟩
        rw [hrot]
        exact fun h' => (hnodup.mem_erase_iff.1 hn).1 (Option.some.inj h').symm
    · next hf =>
      refine hsorted.imp_of_mem fun {m n} _ hn h => ⟨ne_of_lt h, .inr ⟨?_, h⟩⟩
      rw [hrot]
      rintro ⟨⟩
      exact hf ((mem_candidates l f).1 hn)

theorem trialOrder_nodup (l : Loads) : l.trialOrder.Nodup :=
  (trialOrder_pairwise l).imp fun h => h.1

/-- A granted heater is a candidate (R54). -/
theorem candidate_of_granted (l : Loads) (n : HeaterNo) (h : n ∈ l.granted) : l.heaters[n].candidate = true :=
  (mem_trialOrder l n).1 ((grantTrial_sublist _ _ _).subset h)

theorem candidate_iff (h : Heater) : h.candidate = true ↔ h.demanded = true ∧ h.onSlot = true := by
  rw [Heater.candidate, Bool.and_eq_true]

/-- R54: who is granted, among the candidates. -/
theorem granted_iff (l : Loads) (n : HeaterNo) (hn : l.heaters[n].candidate = true) :
    n ∈ l.granted ↔
      l.heaters[n].inForce.watts +
        ((List.finRange 5).map fun m =>
          if m ∈ l.granted ∧ l.before m n then l.heaters[m].inForce.watts else 0).sum ≤ l.budgetInForce :=
  mem_grantTrial_iff _ _ _ l.before l.before_asymm (trialOrder_pairwise l) n ((mem_trialOrder l n).2 hn)

/-! Patterns (R53). -/

/-- The pattern of a demanded heater with D up to P: the accumulator goes on by D, modulo P, and the slot is an on-slot where
it reaches P. With D at P every slot is one, and the accumulator stands at P - 1. -/
theorem advance_spec (h : Heater) (hd : h.demanded = true) (hle : h.inForce.duty ≤ h.inForce.period)
    (hlt : h.acc < h.inForce.period) (hfull : h.inForce.duty = h.inForce.period → h.acc = h.inForce.period - 1) :
    h.advance = { h with
      onSlot := decide (h.inForce.period ≤ h.acc + h.inForce.duty)
      acc := (h.acc + h.inForce.duty) % h.inForce.period } := by
  unfold Heater.advance
  simp only [hd, Bool.not_true, Bool.false_eq_true, if_false]
  split_ifs with hge hzero hon
  · have heq : h.inForce.duty = h.inForce.period := by omega
    rw [heq, Nat.add_mod_right, Nat.mod_eq_of_lt hlt, hfull heq, decide_eq_true (by omega)]
  · rw [hzero, Nat.add_zero, Nat.mod_eq_of_lt hlt, decide_eq_false (by omega)]
  · rw [Nat.mod_eq_sub_mod hon, Nat.mod_eq_of_lt (by omega), decide_eq_true hon]
  · rw [Nat.mod_eq_of_lt (by omega), decide_eq_false hon]

/-- One more D in the count of whole periods. -/
theorem add_div_period (x : Nat) (d period : Nat) (hpos : 0 < period) (hd : d ≤ period) :
    (x + d) / period = x / period + if period ≤ x % period + d then 1 else 0 := by
  have hx := Nat.div_add_mod x period
  have hm := Nat.mod_lt x hpos
  rw [show x + d = x % period + d + period * (x / period) by omega, Nat.add_mul_div_left _ _ hpos]
  split
  next h => rw [Nat.div_eq_of_lt_le (k := 1) (by omega) (by omega)]; omega
  next h => rw [Nat.div_eq_of_lt (by omega)]; omega

section
variable (h : Heater) (hd : h.demanded = true) (hp : 1 ≤ h.inForce.period)
  (hle : h.inForce.duty ≤ h.inForce.period) (hacc : h.acc = h.inForce.period - 1)
include hd hp hle hacc

/-- The accumulator after `k` boundaries of a pattern that has just begun. -/
theorem iterate_advance (k : Nat) :
    let r := Nat.iterate Heater.advance k h
    r.demanded = true ∧ r.inForce = h.inForce ∧
      r.acc = (h.inForce.period - 1 + k * h.inForce.duty) % h.inForce.period := by
  induction k with
  | zero => exact ⟨hd, rfl, by rw [Nat.zero_mul, Nat.add_zero, Nat.mod_eq_of_lt (by omega)]; exact hacc⟩
  | succ k ih =>
    obtain ⟨hdem, hforce, hk⟩ := ih
    rw [Function.iterate_succ_apply']
    generalize Nat.iterate Heater.advance k h = r at hdem hforce hk ⊢
    have hnext := advance_spec r hdem (by rw [hforce]; exact hle)
      (by rw [hk, hforce]; exact Nat.mod_lt _ hp) (fun heq => by
        rw [hk, hforce] at *
        rw [heq, Nat.add_mul_mod_self_right, Nat.mod_eq_of_lt (by omega)])
    rw [hnext]
    refine ⟨hdem, hforce, ?_⟩
    dsimp only
    rw [hforce, hk, Nat.mod_add_mod, Nat.succ_mul, Nat.add_assoc]

/-- The slot after `k + 1` boundaries is an on-slot where the accumulator after `k` and D come to P. -/
theorem iterate_advance_onSlot (k : Nat) :
    (Nat.iterate Heater.advance (k + 1) h).onSlot =
      decide (h.inForce.period ≤
        (h.inForce.period - 1 + k * h.inForce.duty) % h.inForce.period + h.inForce.duty) := by
  obtain ⟨hdem, hforce, hk⟩ := iterate_advance h hd hp hle hacc k
  rw [Function.iterate_succ_apply']
  generalize Nat.iterate Heater.advance k h = r at hdem hforce hk ⊢
  rw [advance_spec r hdem (by rw [hforce]; exact hle) (by rw [hk, hforce]; exact Nat.mod_lt _ hp)
    (fun heq => by
      rw [hk, hforce] at *
      rw [heq, Nat.add_mul_mod_self_right, Nat.mod_eq_of_lt (by omega)]), hk, hforce]

/-- The on-slots of the first `k` boundaries. -/
theorem countP_onSlot (k : Nat) :
    ((List.range k).countP fun j => (Nat.iterate Heater.advance (j + 1) h).onSlot) =
      (h.inForce.period - 1 + k * h.inForce.duty) / h.inForce.period := by
  induction k with
  | zero => simp only [List.range_zero, List.countP_nil, Nat.zero_mul, Nat.add_zero]
            exact (Nat.div_eq_of_lt (by omega)).symm
  | succ k ih =>
    rw [List.range_succ, List.countP_append, ih, List.countP_singleton,
      iterate_advance_onSlot h hd hp hle hacc k, Nat.succ_mul, ← Nat.add_assoc, add_div_period _ _ _ hp hle]
    simp only [decide_eq_true_eq]

/-- R53: a pattern that has just begun gives exactly D on-slots in P boundaries, the first of them an on-slot unless D is 0. -/
theorem newPattern_counts :
    let run (k : Nat) : Heater := Nat.iterate Heater.advance k h
    ((List.range h.inForce.period).countP fun k => (run (k + 1)).onSlot) = h.inForce.duty ∧
      (run h.inForce.period).acc = h.inForce.period - 1 ∧ (1 ≤ h.inForce.duty → (run 1).onSlot = true) ∧
      (h.inForce.duty = 0 → ∀ k, 1 ≤ k → (run k).onSlot = false) := by
  have hpos : (h.inForce.period - 1) / h.inForce.period = 0 := Nat.div_eq_of_lt (by omega)
  have hmod : (h.inForce.period - 1) % h.inForce.period = h.inForce.period - 1 := Nat.mod_eq_of_lt (by omega)
  obtain ⟨-, -, hend⟩ := iterate_advance h hd hp hle hacc h.inForce.period
  refine ⟨?_, ?_, fun hone => ?_, fun hzero k hk => ?_⟩
  · exact (countP_onSlot h hd hp hle hacc _).trans (by rw [Nat.add_mul_div_left _ _ hp, hpos, Nat.zero_add])
  · exact hend.trans (by rw [Nat.add_mul_mod_self_left, hmod])
  · refine (iterate_advance_onSlot h hd hp hle hacc 0).trans (decide_eq_true ?_)
    rw [Nat.zero_mul, Nat.add_zero, hmod]
    omega
  · obtain ⟨k, rfl⟩ := Nat.exists_eq_add_of_le' hk
    refine (iterate_advance_onSlot h hd hp hle hacc k).trans (decide_eq_false ?_)
    rw [hzero, Nat.mul_zero, Nat.add_zero, Nat.add_zero, hmod]
    omega

end

/-! The statement. -/

/-- The candidate that the entry names is tried first, so that it is granted whenever it fits alone (R54). -/
theorem granted_of_named (l : Loads) (n : HeaterNo) (hc : l.heaters[n].candidate = true)
    (hrot : l.rotation[l.slot] = some n) (hw : l.heaters[n].inForce.watts ≤ l.budgetInForce) : n ∈ l.granted := by
  have hnone (m : HeaterNo) : ¬ l.before m n := by
    rintro ⟨hne, hm | ⟨hm, -⟩⟩
    · exact hne (Option.some.inj (hm.symm.trans hrot))
    · exact hm hrot
  refine (granted_iff l n hc).2 ?_
  simpa [hnone] using hw

/-- Settles O23: the trial is `mem_grantTrial_iff` over `trialOrder_pairwise`, and a pattern that has just begun is
`newPattern_counts`. -/
theorem patternsDemandsAndTrials : Obligations.PatternsDemandsAndTrials := by
  refine ⟨⟨?_, ?_⟩, ?_, ?_⟩
  · intro l n before
    exact ⟨fun h => (candidate_iff _).1 (candidate_of_granted l n h),
      fun hd hon => granted_iff l n ((candidate_iff _).2 ⟨hd, hon⟩)⟩
  · intro l n hc
    exact ⟨granted_of_named l n hc, mem_grantTrial_of_zero (fun m => l.heaters[m].inForce.watts) _ _ n ((mem_trialOrder l n).2 hc)⟩
  · intro h hd hp hle hacc
    exact newPattern_counts h hd hp hle hacc
  · intro h
    refine ⟨fun ho ht => ⟨?_, ?_⟩, fun ho ht => ⟨?_, ?_⟩, fun ho ht => ⟨?_, ?_⟩, fun ho ht => ⟨?_, ?_⟩⟩ <;>
      simp [Heater.raiseOwner, Heater.raiseTest, Heater.dropOwner, Heater.dropTest, Heater.demanded, Heater.rise,
        Heater.release, ho, ht]

end Sys2Proof.Machine

namespace Sys2Proof.Machine

/-! What the reads show (R62, R90, R169, R203). -/

/-- The rotation table, entry by entry. -/
theorem rotation_bytes (t : Vector (Option HeaterNo) 16) :
    t.toList.map rotationByte = (List.finRange 16).map fun j => rotationByte t[j] := by
  refine List.ext_getElem (by simp) fun j _ hj => ?_
  rw [List.getElem_map, List.getElem_map, List.getElem_finRange, Vector.getElem_toList]
  rfl

/-- The reply data of GET_LOADS, with its sums and lists over the numbers of the heaters and of the slots (R62). -/
theorem loadsData_eq (p : Part) :
    p.loadsData =
      nat16 p.supervision.params.heaterBudget ++ nat16 p.loads.budgetInForce ++ [byte p.loads.slot.val] ++
        nat16 ((List.finRange 5).map fun n =>
          if p.loads.heaters[n].grant then p.loads.heaters[n].inForce.watts else 0).sum ++
        ((List.finRange 16).map fun j => rotationByte p.loads.rotation[j]) ++
        (List.finRange 5).flatMap fun n => p.loads.heaters[n].bytes := by
  rw [Part.loadsData, rotation_bytes]
  rfl

/-- A kind outside Table 9-3 is answered UNKNOWN_KIND (R196). -/
theorem takeKind_unknown (f : Frame) (p : Part) (h : f.kind ∉ knownKinds) :
    Part.takeKind f p = (some ⟨.unknownKind, []⟩, p) := by
  simp only [knownKinds, List.mem_cons, List.not_mem_nil, or_false, not_or] at h
  simp only [Part.takeKind, h, if_false]

/-! A whole frame on RXD (R191). -/

/-- The part with bytes gathered since START, the last of them taken now. -/
def Part.gathering (bytes : List Byte) (p : Part) : Part := { p with link.receiver := .gathering bytes p.clock.now }

theorem receive_gathering (bytes : List Byte) (b : Byte) (p : Part) :
    (p.gathering bytes).receive b = (p.gathering bytes).gather bytes b :=
  receive_inTime _ b bytes p.clock.now rfl (Nat.le_add_right _ _)

/-- A byte that neither is a LEN too long nor ends a frame is gathered. -/
theorem gather_short (bytes : List Byte) (b : Byte) (p : Part) (hlen : bytes = [] → b.toNat ≤ 64)
    (hwhole : wholeFrame (bytes ++ [b]) = false) : (p.gathering bytes).gather bytes b = p.gathering (bytes ++ [b]) := by
  rw [Part.gather, if_neg (fun h => absurd (hlen h.1) (Nat.not_le.2 h.2)), hwhole]
  rfl

/-- The last byte of a frame whose check byte is right. -/
theorem gather_last (len kind tag : Byte) (payload : List Byte) (p : Part) (hlen : len.toNat = payload.length) :
    let body := len :: kind :: tag :: payload
    (p.gathering body).gather body (checkByte body) =
      Part.takeFrame ⟨kind, tag, payload⟩ { p with link.receiver := .hunting } := by
  intro body
  have hwhole : wholeFrame (body ++ [checkByte body]) = true := by simp [body, wholeFrame, hlen]
  rw [Part.gather, if_neg (fun h => List.cons_ne_nil _ _ h.1), if_pos hwhole]
  change Part.checkFrame (len :: kind :: tag :: (payload ++ [checkByte body])) _ = _
  have hbody : (len :: kind :: tag :: (payload ++ [checkByte body])) = body ++ [checkByte body] := rfl
  rw [Part.checkFrame, hbody, List.getLast?_concat, List.dropLast_concat, if_pos rfl, List.dropLast_concat]
  rfl

/-- Bytes that do not yet make a whole frame are gathered, all at one moment. -/
theorem receiveAll_gathers (p : Part) (len : Byte) (got rest : List Byte)
    (hshort : got.length + rest.length < len.toNat + 3) :
    Part.receiveAll rest (p.gathering (len :: got)) = p.gathering (len :: (got ++ rest)) := by
  induction rest generalizing got with
  | nil => rw [List.append_nil]; rfl
  | cons b rest ih =>
    rw [List.length_cons] at hshort
    have hwhole : wholeFrame (len :: got ++ [b]) = false := by simp [wholeFrame]; omega
    have hb : (p.gathering (len :: got)).receive b = p.gathering (len :: (got ++ [b])) :=
      (receive_gathering _ b p).trans (gather_short _ b p (fun h => absurd h (List.cons_ne_nil _ _)) hwhole)
    have hrest := ih (got ++ [b]) (by rw [List.length_append, List.length_singleton]; omega)
    rw [Part.receiveAll, List.foldl_cons, hb, ← Part.receiveAll, hrest, List.append_assoc]
    rfl

/-- The bytes of a frame, taken by a hunting receiver at one moment, are taken as that frame (R191, R192). -/
theorem receiveAll_frameBytes (p : Part) (kind tag : Byte) (payload : List Byte) (h : p.link.receiver = .hunting)
    (hl : payload.length ≤ 64) : p.receiveAll (frameBytes kind tag payload) = p.takeFrame ⟨kind, tag, payload⟩ := by
  have hlen : (byte payload.length).toNat = payload.length := by
    simp only [byte, BitVec.toNat_ofNat]
    omega
  have hstart : p.receive startByte = p.gathering [] := by
    rw [receive_hunting p startByte h, if_pos rfl]
    rfl
  have hfirst : (p.gathering []).receive (byte payload.length) = p.gathering [byte payload.length] :=
    (receive_gathering _ _ p).trans
      (gather_short [] _ p (fun _ => by omega) (by simp [wholeFrame]))
  have hbody : (kind :: tag :: payload).foldl Part.receive (p.gathering [byte payload.length]) =
      p.gathering (byte payload.length :: kind :: tag :: payload) :=
    receiveAll_gathers p (byte payload.length) [] (kind :: tag :: payload) (by
      simp only [List.length_cons, List.length_nil]; omega)
  have hend : ({ p with link.receiver := .hunting } : Part) = p := by rw [← h]
  calc p.receiveAll (frameBytes kind tag payload)
      = ((kind :: tag :: payload) ++ [checkByte (byte payload.length :: kind :: tag :: payload)]).foldl Part.receive
          ((p.receive startByte).receive (byte payload.length)) := rfl
    _ = (p.gathering (byte payload.length :: kind :: tag :: payload)).receive
          (checkByte (byte payload.length :: kind :: tag :: payload)) := by
        rw [hstart, hfirst, List.foldl_append, hbody]
        rfl
    _ = p.takeFrame ⟨kind, tag, payload⟩ := by
        rw [receive_gathering, gather_last _ kind tag payload p hlen, hend]

/-- A frame on RXD that its owner refuses by its length on an idle link. -/
theorem becomes_badLength_onRxd (s : State) (dt : Nat) (kind tag : Byte) (payload : List Byte) (data : List Byte)
    (q : Part) (hs : s.linkIdle) (hl : payload.length ≤ 64) (hh : s.part.link.receiver = .hunting)
    (hq : q = { s.heard (.ping dt tag payload) with link.executing := some ⟨kind, tag, payload⟩ })
    (hk : Part.takeKind ⟨kind, tag, payload⟩ q = (some ⟨.badLength, data⟩, q)) :
    Becomes (.frameReceived dt (frameBytes kind tag payload)) s
      { q with link.reply := some (frameBytes (kind ||| 0x80) tag (2 :: 4 :: data)) } := by
  obtain ⟨hr, hi, he⟩ := hs
  have hin : q.link.inbox = [] := by rw [hq]; exact hi
  have hrow := becomes_row (.frameReceived dt (frameBytes kind tag payload)) s dt
    (Part.receiveAll (frameBytes kind tag payload)) hr rfl
  rw [receiveAll_frameBytes (s.later dt) kind tag payload hh hl, takeFrame_idle _ (s.later dt) hi he,
    execute_answered _ _ q ⟨.badLength, data⟩ (by rw [← hk, hq]; rfl)] at hrow
  simpa [Part.sendReply, replyFrame, replyKind, byte, Link.room, hin, Status.code] using hrow

/-! The payloads of a length that no kind takes (R195, R196). -/

section
variable (s : State) (dt : Nat) (tag : Byte) (payload : List Byte) (hs : s.linkIdle) (hl : payload.length ≤ 64)
include hs hl

/-- The kinds without a payload. -/
theorem refused_nonempty (h : payload.length ≠ 0) :
    Answers (.status dt tag payload) s .badLength [] (s.heard (.status dt tag payload)) ∧
      Answers (.readNotices dt tag payload) s .badLength [] (s.heard (.readNotices dt tag payload)) ∧
      Answers (.restart dt tag payload) s .badLength [] (s.heard (.restart dt tag payload)) ∧
      Answers (.getLoads dt tag payload) s .badLength [] (s.heard (.getLoads dt tag payload)) ∧
      Answers (.lockLimits dt tag payload) s .badLength [] (s.heard (.lockLimits dt tag payload)) ∧
      Answers (.clearLeak dt tag payload) s .badLength [] (s.heard (.clearLeak dt tag payload)) ∧
      Answers (.filterReset dt tag payload) s .badLength [] (s.heard (.filterReset dt tag payload)) ∧
      Answers (.getTotals dt tag payload) s .badLength [] (s.heard (.getTotals dt tag payload)) ∧
      Answers (.defrostLog dt tag payload) s .badLength [] (s.heard (.defrostLog dt tag payload)) ∧
      Answers (.defrostForce dt tag payload) s .badLength (s.heard (.defrostForce dt tag payload)).defrostData
        (s.heard (.defrostForce dt tag payload)) ∧
      Answers (.defrostAbort dt tag payload) s .badLength (s.heard (.defrostAbort dt tag payload)).defrostData
        (s.heard (.defrostAbort dt tag payload)) := by
  cases payload with
  | nil => exact absurd rfl h
  | cons b rest =>
    refine ⟨?_, ?_, ?_, ?_, ?_, ?_, ?_, ?_, ?_, ?_, ?_⟩ <;> exact answers_unchanged _ s dt _ _ _ hs rfl hl rfl

/-- The kinds with a payload of one byte. -/
theorem refused_notOne (h : payload.length ≠ 1) :
    Answers (.getCurve dt tag payload) s .badLength [] (s.heard (.getCurve dt tag payload)) ∧
      Answers (.cancel dt tag payload) s .badLength [] (s.heard (.cancel dt tag payload)) ∧
      Answers (.fetch dt tag payload) s .badLength [] (s.heard (.fetch dt tag payload)) ∧
      Answers (.ticketInfo dt tag payload) s .badLength [] (s.heard (.ticketInfo dt tag payload)) ∧
      Answers (.poolStatus dt tag payload) s .badLength [] (s.heard (.poolStatus dt tag payload)) ∧
      Answers (.getParam dt tag payload) s .badLength [0, 0, 0] (s.heard (.getParam dt tag payload)) := by
  rcases payload with _ | ⟨b, _ | ⟨c, rest⟩⟩
  case cons.nil => exact absurd rfl h
  all_goals
    refine ⟨?_, ?_, ?_, ?_, ?_, ?_⟩ <;> exact answers_unchanged _ s dt _ _ _ hs rfl hl rfl

/-- The kinds with a payload of two bytes. -/
theorem refused_notTwo (h : payload.length ≠ 2) :
    Answers (.readSensors dt tag payload) s .badLength [] (s.heard (.readSensors dt tag payload)) ∧
      Answers (.setNoticeMask dt tag payload) s .badLength (s.heard (.setNoticeMask dt tag payload)).maskData
        (s.heard (.setNoticeMask dt tag payload)) := by
  rcases payload with _ | ⟨a, _ | ⟨b, _ | ⟨c, rest⟩⟩⟩
  case cons.cons.nil => exact absurd rfl h
  all_goals
    constructor <;> exact answers_unchanged _ s dt _ _ _ hs rfl hl rfl

/-- LOAD_CURVE without its class and its number of points. -/
theorem refused_loadCurve (h : payload.length < 2) :
    Answers (.loadCurve dt tag payload) s .badLength [] (s.heard (.loadCurve dt tag payload)) := by
  rcases payload with _ | ⟨a, _ | ⟨b, rest⟩⟩
  case cons.cons => simp at h
  all_goals exact answers_unchanged _ s dt _ _ _ hs rfl hl rfl

theorem refused_setLoad (h : payload.length ≠ 5) :
    Answers (.setLoad dt tag payload) s .badLength [] (s.heard (.setLoad dt tag payload)) := by
  have hk (p : Part) : p.takeSetLoad payload = (⟨.badLength, []⟩, p) := by
    unfold Part.takeSetLoad
    split
    · exact absurd rfl h
    · rfl
  exact answers_unchanged _ s dt ⟨0x14, tag, payload⟩ _ _ hs rfl hl (congrArg atOnce (hk _))

theorem refused_restoreTotals (h : payload.length ≠ 10) :
    Answers (.restoreTotals dt tag payload) s .badLength [] (s.heard (.restoreTotals dt tag payload)) := by
  have hk (p : Part) : p.takeRestoreTotals payload = (⟨.badLength, []⟩, p) := by
    unfold Part.takeRestoreTotals
    split
    · exact absurd rfl h
    · rfl
  exact answers_unchanged _ s dt ⟨0x3B, tag, payload⟩ _ _ hs rfl hl (congrArg atOnce (hk _))

end

/-- ICE_CONTROL takes one byte (R113). -/
theorem takeIceControl_badLength (payload : List Byte) (p : Part) (h : payload.length ≠ 1) :
    p.takeIceControl payload = (⟨.badLength, p.iceData⟩, p) := by
  rcases payload with _ | ⟨b, _ | ⟨c, rest⟩⟩
  case cons.nil => exact absurd rfl h
  all_goals rfl

/-- DEFROST_REPLY takes two bytes (R153). -/
theorem takeDefrostReply_badLength (payload : List Byte) (p : Part) (h : payload.length ≠ 2) :
    p.takeDefrostReply payload = (⟨.badLength, p.defrostData⟩, p) := by
  rcases payload with _ | ⟨a, _ | ⟨b, _ | ⟨c, rest⟩⟩⟩
  case cons.cons.nil => exact absurd rfl h
  all_goals rfl

/-- Settles O9: an answer that changes nothing is `answers_unchanged`, a frame on RXD is `receiveAll_frameBytes`. -/
theorem readsShowAndChangeNothing : Obligations.ReadsShowAndChangeNothing := by
  refine ⟨?_, ?_, ?_, ?_, ?_, ?_⟩
  · intro s dt tag hs i q
    exact answers_unchanged i s dt ⟨0x02, tag, []⟩ .ok _ hs rfl (by simp) rfl
  · intro s dt tag hs i q l
    refine answers_unchanged i s dt ⟨0x15, tag, []⟩ .ok _ hs rfl (by simp) ?_
    have hbyte (e : Option HeaterNo) : rotationByte e = match e with | none => 0xFF | some h => byte h.val := by
      cases e <;> rfl
    change (some (⟨.ok, q.loadsData⟩ : Answer), q) = _
    rw [loadsData_eq]
    simp only [hbyte]
    rfl
  · intro s dt tag hs i q
    refine answers_unchanged i s dt ⟨0x3A, tag, []⟩ .ok _ hs rfl (by simp) ?_
    have htime (o : Option Nat) : optTime o = match o with | none => [0xFF, 0xFF, 0xFF, 0xFF] | some t => nat32 t := by
      cases o <;> rfl
    change (some (⟨.ok, q.totalsData⟩ : Answer), q) = _
    rw [Part.totalsData, htime]
    rfl
  · intro s dt tag hs i q
    exact answers_unchanged i s dt ⟨0x54, tag, []⟩ .ok _ hs rfl (by simp) rfl
  · intro s dt kind tag payload hs hl hk
    exact answers_unchanged _ s dt ⟨kind, tag, payload⟩ .unknownKind [] hs rfl hl (takeKind_unknown _ _ hk)
  · intro s dt tag payload hs hl refused alone field defrost ice
    refine ⟨refused_nonempty s dt tag payload hs hl, refused_notOne s dt tag payload hs hl,
      refused_notTwo s dt tag payload hs hl, refused_loadCurve s dt tag payload hs hl,
      refused_setLoad s dt tag payload hs hl, refused_restoreTotals s dt tag payload hs hl, ?_⟩
    rintro kind data hh hkind q
    refine becomes_badLength_onRxd s dt kind tag payload (data q) q hs hl hh rfl ?_
    rcases hkind with ⟨rfl, hlen, rfl⟩ | ⟨rfl, hlen, rfl⟩
    · exact congrArg atOnce (takeIceControl_badLength payload q hlen)
    · exact congrArg atOnce (takeDefrostReply_badLength payload q hlen)

end Sys2Proof.Machine

namespace Sys2Proof.Machine

/-! One heater at a boundary (R52 to R55, R61). -/

/-- An advance of the pattern writes the accumulator and the on-slot flag alone. -/
theorem advance_keeps (h : Heater) : h.advance = { h with acc := h.advance.acc, onSlot := h.advance.onSlot } := by
  unfold Heater.advance
  split_ifs <;> rfl

/-- R53: the pattern of a demanded heater. -/
theorem advance_pattern (h : Heater) (hd : h.demanded = true) :
    (h.inForce.period ≤ h.inForce.duty → h.advance.onSlot = true ∧ h.advance.acc = h.inForce.period - 1) ∧
      (h.inForce.duty < h.inForce.period → h.inForce.duty = 0 → h.advance.onSlot = false ∧ h.advance.acc = h.acc) ∧
      (h.inForce.duty < h.inForce.period → h.inForce.duty ≠ 0 → h.inForce.period ≤ h.acc + h.inForce.duty →
        h.advance.onSlot = true ∧ h.advance.acc = h.acc + h.inForce.duty - h.inForce.period) ∧
      (h.inForce.duty < h.inForce.period → h.inForce.duty ≠ 0 → h.acc + h.inForce.duty < h.inForce.period →
        h.advance.onSlot = false ∧ h.advance.acc = h.acc + h.inForce.duty) := by
  unfold Heater.advance
  simp only [hd, Bool.not_true, Bool.false_eq_true, if_false]
  refine ⟨fun h1 => ?_, fun h1 h2 => ?_, fun h1 h2 h3 => ?_, fun h1 h2 h3 => ?_⟩
  · rw [if_pos h1]; exact ⟨rfl, rfl⟩
  · rw [if_neg (Nat.not_le.2 h1), if_pos h2]; exact ⟨rfl, rfl⟩
  · rw [if_neg (Nat.not_le.2 h1), if_neg h2, if_pos h3]; exact ⟨rfl, rfl⟩
  · rw [if_neg (Nat.not_le.2 h1), if_neg h2, if_neg (Nat.not_le.2 h3)]; exact ⟨rfl, rfl⟩

/-- A test demand dropped leaves a heater that is still demanded as it was but for that demand. -/
theorem dropTest_demanded (h : Heater) (hd : h.dropTest.demanded = true) :
    h.demanded = true ∧ h.dropTest = { h with testDemand := false } := by
  obtain ⟨hoff, howner, -⟩ := dropTest_spec h
  have ho : h.ownerDemand = true := by
    rw [Heater.demanded, hoff, howner, Bool.or_false] at hd
    exact hd
  refine ⟨by rw [Heater.demanded, ho]; rfl, ?_⟩
  rw [Heater.dropTest, ho]
  simp

/-- R61: a configuration that comes into force with a changed P or D starts the pattern of a demanded heater anew. -/
theorem takeAccepted_acc (h : Heater) (hd : h.demanded = true) :
    h.takeAccepted.acc =
      if h.accepted.period ≠ h.inForce.period ∨ h.accepted.duty ≠ h.inForce.duty then h.accepted.period - 1 else h.acc := by
  simp [Heater.takeAccepted, hd]

/-! The heaters of a slot (R54, R55, R58). -/

/-- The loads after step 3 of R52: every pattern has advanced. -/
def Loads.advanced (l : Loads) : Loads := l.updateAll fun _ h => h.advance

theorem heaters_advanced (l : Loads) (n : HeaterNo) : l.advanced.heaters[n] = l.heaters[n].advance :=
  heaters_updateAll l n _

theorem heaters_decideSlot (l : Loads) (n : HeaterNo) :
    l.decideSlot.heaters[n] = l.heaters[n].advance.decide (l.advanced.granted.contains n) := by
  rw [← heaters_advanced]
  exact heaters_updateAll l.advanced n _

theorem grant_decideSlot (l : Loads) (n : HeaterNo) :
    l.decideSlot.heaters[n].grant = true ↔ n ∈ l.advanced.granted := by
  rw [heaters_decideSlot]
  exact List.contains_iff_mem

theorem candidate_decideSlot (l : Loads) (n : HeaterNo) :
    l.decideSlot.heaters[n].candidate = l.advanced.heaters[n].candidate := by
  rw [heaters_decideSlot, heaters_advanced]
  rfl

theorem inForce_decideSlot (l : Loads) (n : HeaterNo) :
    l.decideSlot.heaters[n].inForce = l.advanced.heaters[n].inForce := by
  rw [heaters_decideSlot, heaters_advanced]
  rfl

/-- R54: only a candidate is granted. -/
theorem decideSlot_candidate (l : Loads) (n : HeaterNo) (h : l.decideSlot.heaters[n].grant = true) :
    l.decideSlot.heaters[n].demanded = true ∧ l.decideSlot.heaters[n].onSlot = true := by
  rw [← candidate_iff, candidate_decideSlot]
  exact candidate_of_granted _ n ((grant_decideSlot l n).1 h)

/-- R54: who is granted for the slot. -/
theorem decideSlot_granted (l : Loads) (n : HeaterNo) (hd : l.decideSlot.heaters[n].demanded = true)
    (hon : l.decideSlot.heaters[n].onSlot = true) :
    l.decideSlot.heaters[n].grant = true ↔
      l.decideSlot.heaters[n].inForce.watts +
        ((List.finRange 5).map fun m =>
          if l.decideSlot.heaters[m].grant = true ∧ l.before m n then l.decideSlot.heaters[m].inForce.watts else 0).sum ≤
        l.budgetInForce := by
  have hc : l.advanced.heaters[n].candidate = true := by
    rw [← candidate_decideSlot, candidate_iff]
    exact ⟨hd, hon⟩
  simp only [grant_decideSlot, inForce_decideSlot]
  exact granted_iff l.advanced n hc

/-- R58: the granted watts are within the budget in force. -/
theorem decideSlot_withinBudget (l : Loads) : l.decideSlot.withinBudget := by
  have hnodup : l.advanced.granted.Nodup := (trialOrder_nodup _).sublist (grantTrial_sublist _ _ _)
  have hsum := sum_ite_mem (fun m => l.advanced.heaters[m].inForce.watts) _ hnodup
  have hle : ((l.advanced.granted).map fun m => l.advanced.heaters[m].inForce.watts).sum ≤ l.budgetInForce :=
    grantTrial_sum_le _ _ _
  rw [← hsum] at hle
  have huse : l.decideSlot.wattsInUse = ((List.finRange 5).map fun m =>
      if m ∈ l.advanced.granted then l.advanced.heaters[m].inForce.watts else 0).sum := by
    simp only [← grant_decideSlot, ← inForce_decideSlot]
    rfl
  rw [Loads.withinBudget, huse]
  exact hle

/-- R54: candidates that fit the budget together are all granted. -/
theorem decideSlot_all (l : Loads)
    (h : ((List.finRange 5).map fun n =>
      if l.decideSlot.heaters[n].demanded && l.decideSlot.heaters[n].onSlot then l.decideSlot.heaters[n].inForce.watts
      else 0).sum ≤ l.budgetInForce) (n : HeaterNo) (hd : l.decideSlot.heaters[n].demanded = true)
    (hon : l.decideSlot.heaters[n].onSlot = true) : l.decideSlot.heaters[n].grant = true := by
  have hin (m : HeaterNo) : (l.decideSlot.heaters[m].demanded && l.decideSlot.heaters[m].onSlot) = true ↔
      m ∈ l.advanced.trialOrder := by
    rw [mem_trialOrder, ← candidate_decideSlot]
    rfl
  simp only [hin, inForce_decideSlot] at h
  rw [sum_ite_mem _ _ (trialOrder_nodup _)] at h
  rw [grant_decideSlot, Loads.granted, grantTrial_all _ l.advanced.budgetInForce _ h, ← hin, hd, hon]
  rfl

/-- R55: a candidate that is not granted counts a denied slot. -/
theorem decideSlot_denied (l : Loads) (n : HeaterNo) :
    l.decideSlot.heaters[n].denied =
      if (l.decideSlot.heaters[n].demanded && l.decideSlot.heaters[n].onSlot && !l.decideSlot.heaters[n].grant) = true
      then sat16 (l.heaters[n].denied + 1) else l.heaters[n].denied := by
  rw [heaters_decideSlot]
  have hkept : l.heaters[n].advance.denied = l.heaters[n].denied := by rw [advance_keeps]
  rw [← hkept]
  rfl

end Sys2Proof.Machine

namespace Sys2Proof.Machine

/-- What no job touches stays so over two operations. -/
theorem Part.Keeps.trans {p q r : Part} (h : r.Keeps q) (g : q.Keeps p) : r.Keeps p := by
  simp only [Part.Keeps] at h g ⊢
  simp [h, g]

/-! The steps of a boundary (R52). -/

/-- Step 1 of R52: accepted configuration and budget come into force. -/
def Part.inForceNow (p : Part) : Part := { p with loads := p.loads.takeAccepted p.supervision.params.heaterBudget }

/-- Steps 1 and 2 of R52: a heater test that has run its seconds has ended. -/
def Part.tested (p : Part) : Part := p.inForceNow.endRunTest

/-- Steps 1 to 4 of R52: the slot is granted. -/
def Part.decided (p : Part) : Part := { p.tested with loads := p.tested.loads.decideSlot }

/-- Step 5 of R52 for the owners; `handTestResult` does the rest. -/
def Part.handOwners (p : Part) : Part :=
  let h0 := p.loads.ownerResult 0
  let p' := { p with defrost.cycle := p.defrost.cycle.map (Cycle.takeResults h0 (p.loads.ownerResult 1)) }
  ((p'.countDenied h0 p.pool.defrostSlot).countDenied (p.loads.ownerResult 2) p.pool.iceSlot).countDenied
    (p.loads.ownerResult 3) p.pool.iceSlot

@[simp] theorem countDenied_frame (r : Option SlotResult) (slot : Option TicketNo) (p : Part) :
    (p.countDenied r slot).Keeps p ∧ (p.countDenied r slot).line = p.line ∧ (p.countDenied r slot).loads = p.loads ∧
      (p.countDenied r slot).ice = p.ice ∧ (p.countDenied r slot).outlet = p.outlet ∧
      (p.countDenied r slot).defrost = p.defrost := by
  unfold Part.countDenied
  split
  · exact updateSlot_frame slot Ticket.deny p
  · simp

/-- Denied slots are counted in the records alone. -/
theorem countDenied_pool (r : Option SlotResult) (slot : Option TicketNo) (p : Part) :
    (p.countDenied r slot).pool = { p.pool with tickets := (p.countDenied r slot).pool.tickets } := by
  unfold Part.countDenied
  split
  · cases slot <;> rfl
  · rfl

theorem ticket_updateSlot (p : Part) (slot : Option TicketNo) (f : Ticket → Ticket) (n : TicketNo) :
    (p.updateSlot slot f).ticket n = if slot = some n then f (p.ticket n) else p.ticket n := by
  cases slot with
  | none => simp [Part.updateSlot]
  | some m =>
    rw [updateSlot_some, ticket_updateTicket]
    by_cases h : n = m
    · simp [h]
    · simp [h, Ne.symm h]

theorem ticket_countDenied (p : Part) (r : Option SlotResult) (slot : Option TicketNo) (n : TicketNo) :
    (p.countDenied r slot).ticket n =
      if r = some .denied ∧ slot = some n then (p.ticket n).deny else p.ticket n := by
  unfold Part.countDenied
  by_cases h : r = some .denied
  · simp [h, ticket_updateSlot]
  · simp [h]

theorem handResults_eq (p : Part) : p.handResults = p.handOwners.handTestResult := by
  have h1 (u : Part) : (u.countDenied (p.loads.ownerResult 0) p.pool.defrostSlot).pool.iceSlot = u.pool.iceSlot := by
    rw [countDenied_pool]
  have h2 (u : Part) : (u.countDenied (p.loads.ownerResult 2) p.pool.iceSlot).pool.iceSlot = u.pool.iceSlot := by
    rw [countDenied_pool]
  unfold Part.handResults Part.handOwners
  dsimp only
  rw [h1, h2, h1]

/-- The owners' results reach the cycle record and the tickets of the slots alone. -/
theorem handOwners_frame (p : Part) :
    p.handOwners.Keeps p ∧ p.handOwners.line = p.line ∧ p.handOwners.loads = p.loads ∧ p.handOwners.ice = p.ice ∧
      p.handOwners.outlet = p.outlet ∧
      p.handOwners.defrost = { p.defrost with
        cycle := p.defrost.cycle.map (Cycle.takeResults (p.loads.ownerResult 0) (p.loads.ownerResult 1)) } ∧
      p.handOwners.pool = { p.pool with tickets := p.handOwners.pool.tickets } := by
  unfold Part.handOwners
  refine ⟨by simp, by simp, by simp, by simp, by simp, by simp, ?_⟩
  dsimp only
  rw [countDenied_pool, countDenied_pool, countDenied_pool]

/-- The result of a heater test reaches its ticket and the count of its boundaries alone. -/
theorem handTestResult_frame (p : Part) :
    p.handTestResult.Keeps p ∧ p.handTestResult.line = p.line ∧
      p.handTestResult.loads = { p.loads with testSlots := p.handTestResult.loads.testSlots } ∧
      p.handTestResult.ice = p.ice ∧ p.handTestResult.outlet = p.outlet ∧ p.handTestResult.defrost = p.defrost ∧
      p.handTestResult.pool = { p.pool with tickets := p.handTestResult.pool.tickets } := by
  unfold Part.handTestResult
  split
  · simp
  · dsimp only
    split <;> simp

theorem handResults_frame (p : Part) :
    p.handResults.Keeps p ∧ p.handResults.line = p.line ∧
      p.handResults.loads = { p.loads with testSlots := p.handResults.loads.testSlots } ∧
      p.handResults.ice = p.ice ∧ p.handResults.outlet = p.outlet ∧
      p.handResults.defrost = { p.defrost with
        cycle := p.defrost.cycle.map (Cycle.takeResults (p.loads.ownerResult 0) (p.loads.ownerResult 1)) } ∧
      p.handResults.pool = { p.pool with tickets := p.handResults.pool.tickets } := by
  have ho := handOwners_frame p
  have ht := handTestResult_frame p.handOwners
  rw [← handResults_eq] at ht
  obtain ⟨tk, tline, tloads, tice, toutlet, tdefrost, tpool⟩ := ht
  obtain ⟨ok, oline, oloads, oice, ooutlet, odefrost, opool⟩ := ho
  refine ⟨Part.Keeps.trans tk ok, tline.trans oline, ?_, tice.trans oice, toutlet.trans ooutlet, tdefrost.trans odefrost, ?_⟩
  · rw [tloads, oloads]
  · rw [tpool, opool]

/-- Step 2 of R52, by its two cases (R63). -/
theorem endRunTest_cases (p : Part) :
    ((∀ n h, p.heaterTest = some (n, h) → (p.ticket n).request.seconds ≠ some p.loads.testSlots) ∧ p.endRunTest = p) ∨
      ∃ n h, p.heaterTest = some (n, h) ∧ (p.ticket n).request.seconds = some p.loads.testSlots ∧
        p.endRunTest = (p.dropTest h).finish n .complete := by
  unfold Part.endRunTest
  cases ht : p.heaterTest with
  | none => exact .inl ⟨fun _ _ h => (nomatch h), rfl⟩
  | some c =>
    obtain ⟨n, h⟩ := c
    by_cases hs : (p.ticket n).request.seconds = some p.loads.testSlots
    · exact .inr ⟨n, h, rfl, hs, if_pos hs⟩
    · refine .inl ⟨fun m k hm => ?_, if_neg hs⟩
      obtain ⟨rfl, rfl⟩ := Prod.mk.inj (Option.some.inj hm)
      exact hs

theorem endRunTest_frame (p : Part) :
    p.endRunTest.Keeps p ∧ p.endRunTest.line = p.line ∧ p.endRunTest.ice = p.ice ∧ p.endRunTest.outlet = p.outlet ∧
      p.endRunTest.defrost = p.defrost := by
  rcases endRunTest_cases p with ⟨-, h⟩ | ⟨n, h, -, -, h⟩ <;> rw [h] <;> simp

/-- A heater after step 2: what step 1 made of it, its test demand perhaps dropped. -/
theorem tested_heater (p : Part) (n : HeaterNo) :
    p.tested.loads.heaters[n] = p.loads.heaters[n].takeAccepted ∨
      p.tested.loads.heaters[n] = p.loads.heaters[n].takeAccepted.dropTest := by
  have hforce : p.inForceNow.loads.heaters[n] = p.loads.heaters[n].takeAccepted := heaters_updateAll p.loads n fun _ h => h.takeAccepted
  unfold Part.tested
  rcases endRunTest_cases p.inForceNow with ⟨-, he⟩ | ⟨m, h, -, -, he⟩
  · exact .inl (by rw [he, hforce])
  · have hloads : p.inForceNow.endRunTest.loads = p.inForceNow.loads.update h Heater.dropTest := by rw [he]; simp
    rw [hloads, heaters_update]
    split
    next hn => subst hn; exact .inr (by rw [hforce])
    next => exact .inl hforce

/-- The loads but for the heaters, after step 2. -/
theorem tested_loads (p : Part) :
    p.tested.loads = { p.loads with
      heaters := p.tested.loads.heaters, budgetInForce := p.supervision.params.heaterBudget } := by
  unfold Part.tested
  rcases endRunTest_cases p.inForceNow with ⟨-, he⟩ | ⟨m, h, -, -, he⟩ <;> rw [he]
  · rfl
  · simp only [(finish_frame m .complete (p.inForceNow.dropTest h)).2.2.1]
    rfl

/-- The loads after a boundary: the slot as granted, and the next slot position (R52, R59). -/
theorem boundary_loads (p : Part) :
    p.boundary.loads =
      { p.decided.loads with slot := p.loads.slot + 1, testSlots := p.decided.handResults.loads.testSlots } := by
  obtain ⟨-, -, hloads, -⟩ := handResults_frame p.decided
  have hslot : p.decided.loads.slot = p.loads.slot := by
    change p.tested.loads.slot = _
    rw [tested_loads]
  change { p.decided.handResults.loads with slot := p.decided.handResults.loads.slot + 1 } = _
  rw [hloads, hslot]

/-- What a boundary leaves alone. -/
theorem boundary_frame (p : Part) :
    p.boundary.Keeps p ∧ p.boundary.line = p.line ∧ p.boundary.ice = p.ice ∧ p.boundary.outlet = p.outlet ∧
      p.boundary.defrost = { p.defrost with
        cycle := p.defrost.cycle.map
          (Cycle.takeResults (p.decided.loads.ownerResult 0) (p.decided.loads.ownerResult 1)) } ∧
      p.boundary.pool = p.decided.handResults.pool := by
  obtain ⟨rk, rline, -, rice, routlet, rdefrost, -⟩ := handResults_frame p.decided
  obtain ⟨tk, tline, tice, toutlet, tdefrost⟩ := endRunTest_frame p.inForceNow
  have hdefrost : p.decided.defrost = p.defrost := tdefrost
  have hboundary : p.boundary.Keeps p.decided := rk
  have hdecided : p.decided.Keeps p := tk
  refine ⟨hboundary.trans hdecided, rline.trans tline, rice.trans tice, routlet.trans toutlet, ?_, rfl⟩
  rw [← hdefrost]
  exact rdefrost

end Sys2Proof.Machine

namespace Sys2Proof.Machine

/-! The seconds that the Defrost Controller counts (R148). -/

theorem accrues_iff (st : DefrostState) : st.accrues = true ↔ st = .accruing ∨ st = .wanted ∨ st = .deferred := by
  cases st <;> simp [DefrostState.accrues]

/-- A second of the compressor, running or not (R148). -/
theorem compressorSecond_eq (d : Defrost) :
    d.compressorSecond = { d with
      compressorSeconds :=
        if d.compressorRunning = true then if 60 ≤ d.compressorSeconds + 1 then 0 else d.compressorSeconds + 1
        else d.compressorSeconds
      credit :=
        if d.compressorRunning = true ∧ 60 ≤ d.compressorSeconds + 1 then sat16 (d.credit + 1) else d.credit } := by
  unfold Defrost.compressorSecond
  by_cases hr : d.compressorRunning = true
  · by_cases h : 60 ≤ d.compressorSeconds + 1
    · simp [hr, h, Nat.not_lt.2 h, Defrost.addCredit]
    · simp [hr, h, Nat.not_le.1 h]
  · rw [if_neg hr, if_neg hr, if_neg fun h => hr h.1]

/-- A second of the freezer door, OPEN or not (R148). -/
theorem doorSecond_eq (isOpen : Bool) (weight : Nat) (d : Defrost) :
    d.doorSecond isOpen weight = { d with
      doorSeconds :=
        if isOpen = true then if 60 ≤ d.doorSeconds + 1 then 0 else d.doorSeconds + 1 else d.doorSeconds
      credit := if isOpen = true ∧ 60 ≤ d.doorSeconds + 1 then sat16 (d.credit + weight) else d.credit } := by
  unfold Defrost.doorSecond
  by_cases hr : isOpen = true
  · by_cases h : 60 ≤ d.doorSeconds + 1
    · simp [hr, h, Nat.not_lt.2 h, Defrost.addCredit]
    · simp [hr, h, Nat.not_le.1 h]
  · simp [hr]

/-- Two additions to the credit, each held at 65,535, are one. -/
theorem credit_of_both (credit minute weight : Nat) (runs stands : Prop) [Decidable runs] [Decidable stands]
    (h : credit ≤ 65535) :
    (if stands then sat16 ((if runs then sat16 (credit + minute) else credit) + weight)
      else if runs then sat16 (credit + minute) else credit) =
      min (credit + (if runs then minute else 0) + (if stands then weight else 0)) 65535 := by
  unfold sat16
  split <;> split <;> omega

/-- R148: what a second counts in the Defrost Controller. -/
theorem frostSecond_spec (p : Part) :
    let accrues := p.defrost.state = .accruing ∨ p.defrost.state = .wanted ∨ p.defrost.state = .deferred
    let runs := accrues ∧ p.defrost.compressorRunning = true
    let stands := accrues ∧ p.sense.door = some .opened
    let minute := if runs ∧ 60 ≤ p.defrost.compressorSeconds + 1 then 1 else 0
    let weight := if stands ∧ 60 ≤ p.defrost.doorSeconds + 1 then p.supervision.params.doorWeight else 0
    let d := p.frostSecond.defrost
    d = { p.defrost with
        compressorSeconds := d.compressorSeconds, doorSeconds := d.doorSeconds, credit := d.credit } ∧
      d.compressorSeconds =
        (if runs then if 60 ≤ p.defrost.compressorSeconds + 1 then 0 else p.defrost.compressorSeconds + 1
         else p.defrost.compressorSeconds) ∧
      d.doorSeconds =
        (if stands then if 60 ≤ p.defrost.doorSeconds + 1 then 0 else p.defrost.doorSeconds + 1
         else p.defrost.doorSeconds) ∧
      (p.defrost.credit ≤ 65535 → d.credit = min (p.defrost.credit + minute + weight) 65535) := by
  intro accrues runs stands minute weight d
  have hiff : p.defrost.state.accrues = true ↔ accrues := accrues_iff _
  by_cases ha : accrues
  · have hd : d = p.defrost.compressorSecond.doorSecond (p.sense.door == some .opened)
        p.supervision.params.doorWeight := by
      simp only [d, Part.frostSecond, hiff, if_pos ha]
    rw [hd, doorSecond_eq, compressorSecond_eq]
    simp only [runs, stands, minute, weight, ha, true_and, beq_iff_eq]
    exact fun hc => credit_of_both _ 1 _ _ _ hc
  · have hd : d = p.defrost := by simp only [d, Part.frostSecond, hiff, if_neg ha]
    rw [hd]
    simp only [runs, stands, minute, weight, ha, false_and, if_false, Nat.add_zero]
    exact ⟨trivial, trivial, trivial, fun hc => (Nat.min_eq_left hc).symm⟩

/-- A second of frost credit leaves everything but the Defrost Controller. -/
theorem frostSecond_frame (p : Part) : p.frostSecond = { p with defrost := p.frostSecond.defrost } := by
  unfold Part.frostSecond
  split <;> rfl

/-- A filter second leaves everything but the line and the pending set (R89). -/
theorem filterSecond_eq (p : Part) :
    p.filterSecond = { p with
      link.pendingSet := p.filterSecond.link.pendingSet
      line := { p.line with
        filterSeconds := sat32 (p.line.filterSeconds + 1), filterStatus := p.filterSecond.line.filterStatus } } := by
  unfold Part.filterSecond Part.judgeFilter
  dsimp only
  split <;> rfl

/-! The entry into WANTED that follows a second (R151). -/

theorem enterHarvestHeat_defrost (p : Part) (n : TicketNo) :
    (p.enterHarvestHeat n).defrost = { p.defrost with iceCopy := .harvestHeat } ∧
      (p.enterHarvestHeat n).ice.defrostCopy = p.ice.defrostCopy := ⟨rfl, rfl⟩

/-- The ice maker's draw leaves the Defrost Controller all but its copy of the ice maker's state. -/
theorem redraw_defrost (p : Part) :
    p.redraw.defrost = { p.defrost with iceCopy := p.redraw.defrost.iceCopy } ∧
      p.redraw.ice.defrostCopy = p.ice.defrostCopy := by
  unfold Part.redraw
  split
  · split
    · exact ⟨rfl, rfl⟩
    · next kind _ =>
      obtain ⟨-, -, -, hice, -, hdefrost⟩ := draw_frame kind .iceMaker none {} p
      split
      next q hq =>
        rw [hq] at hice hdefrost
        exact ⟨by rw [hdefrost], by rw [hice]⟩
      next n q hq =>
        rw [hq] at hice hdefrost
        split
        · obtain ⟨heat, hcopy⟩ := enterHarvestHeat_defrost q n
          exact ⟨by rw [heat, hdefrost], by rw [hcopy, hice]⟩
        · exact ⟨congrArg (fun d : Defrost => { d with iceCopy := q.defrost.iceCopy }) hdefrost,
            congrArg IceMaker.defrostCopy hice⟩
  · exact ⟨rfl, rfl⟩

/-- The waiting fill leaves the Defrost Controller all but its copy of the ice maker's state. -/
theorem judgeFill_defrost (p : Part) :
    p.judgeFill.defrost = { p.defrost with iceCopy := p.judgeFill.defrost.iceCopy } ∧
      p.judgeFill.ice.defrostCopy = p.ice.defrostCopy := by
  unfold Part.judgeFill
  split
  · split
    · next w _ =>
      obtain ⟨-, -, hice, hdefrost⟩ := resumeFill_frame w p
      exact ⟨by rw [hdefrost], by rw [hice]⟩
    · exact ⟨rfl, rfl⟩
    · exact ⟨rfl, rfl⟩
  · exact ⟨rfl, rfl⟩

/-- R151: a credit at its target in ACCRUING enters WANTED with what follows at once. -/
theorem settle_wanted (p : Part) (hs : p.defrost.state = .accruing) (hc : p.defrost.target ≤ p.defrost.credit) :
    p.settle.defrost.state = .wanted ∧ p.settle.ice.defrostCopy = .wanted ∧ p.settle.isPending .defrostWanted = true ∧
      p.settle.defrost.wantTime = { counted := 0, since := some p.clock.now } ∧
      p.settle.defrost.silentWant =
        if p.supervision.silent then { counted := 0, since := some p.clock.now } else {} := by
  obtain ⟨hkeeps, -, hdefrost⟩ := startHeads_frame p
  obtain ⟨hclock, -, -, hsupervision, -⟩ := hkeeps
  have henter : p.startHeads.compareTarget = p.startHeads.enterWanted := if_pos (by rw [hdefrost]; exact ⟨hs, hc⟩)
  have hstate : p.startHeads.enterWanted.defrost.state = .wanted := by
    rw [Part.enterWanted, setDefrostState_defrost]
  have hwait : p.startHeads.enterWanted.prepWait = p.startHeads.enterWanted :=
    if_neg (by rw [hstate]; exact fun h => nomatch h.1)
  have hsettle : p.settle = p.startHeads.enterWanted.redraw.judgeFill := by
    rw [Part.settle, henter, hwait]
  obtain ⟨hredraw, hcopy⟩ := redraw_defrost p.startHeads.enterWanted
  obtain ⟨hjudge, hcopy'⟩ := judgeFill_defrost p.startHeads.enterWanted.redraw
  rw [hredraw] at hjudge
  rw [hsettle, hjudge, hcopy', hcopy]
  refine ⟨hstate, ?_, ?_, ?_, ?_⟩
  · rw [Part.enterWanted, setDefrostState_ice]
  · have hset : p.startHeads.enterWanted.isPending .defrostWanted = true := by
      rw [Part.enterWanted, isPending_setDefrostState, isPending_notify]
      rfl
    exact ((keepsNotices_of_eq (judgeFill_link _)).trans (redraw_keepsNotices _)) .defrostWanted hset
  · simp only [Part.enterWanted, setDefrostState_defrost, notify_defrost, hclock]
    rfl
  · simp only [Part.enterWanted, setDefrostState_defrost, notify_defrost, Part.silentWantFromZero, hclock, hsupervision]
    rfl

end Sys2Proof.Machine

namespace Sys2Proof.Machine

/-! The heaters of a new second (R52 to R54, R61). -/

/-- A heater after step 2: its configuration in force is the accepted one, and its owner demand is as it was. -/
theorem tested_config (p : Part) (n : HeaterNo) :
    p.tested.loads.heaters[n].inForce = p.loads.heaters[n].accepted ∧
      p.tested.loads.heaters[n].accepted = p.loads.heaters[n].accepted ∧
      p.tested.loads.heaters[n].ownerDemand = p.loads.heaters[n].ownerDemand ∧
      p.tested.loads.heaters[n].denied = p.loads.heaters[n].denied := by
  have hdrop (h : Heater) : h.dropTest.denied = h.denied := by
    unfold Heater.dropTest
    split <;> rfl
  obtain ⟨-, howner, -, haccepted, hforce⟩ := dropTest_spec p.loads.heaters[n].takeAccepted
  rcases tested_heater p n with h | h <;> rw [h]
  · exact ⟨rfl, rfl, rfl, rfl⟩
  · exact ⟨hforce, haccepted, howner, hdrop _⟩

/-- A heater that is demanded after step 2 was demanded, and has the accumulator that step 1 gave it. -/
theorem tested_acc (p : Part) (n : HeaterNo) (hd : p.tested.loads.heaters[n].demanded = true) :
    let h := p.loads.heaters[n]
    p.tested.loads.heaters[n].acc =
      if h.accepted.period ≠ h.inForce.period ∨ h.accepted.duty ≠ h.inForce.duty then h.accepted.period - 1
      else h.acc := by
  intro h
  rcases tested_heater p n with ht | ht <;> rw [ht] at hd ⊢
  · exact takeAccepted_acc h hd
  · obtain ⟨hdem, hdrop⟩ := dropTest_demanded _ hd
    rw [hdrop]
    exact takeAccepted_acc h hdem

theorem decided_heater (p : Part) (n : HeaterNo) :
    ∃ g, p.decided.loads.heaters[n] = p.tested.loads.heaters[n].advance.decide g :=
  ⟨_, heaters_decideSlot p.tested.loads n⟩

theorem advance_demanded (h : Heater) : h.advance.demanded = h.demanded := by
  rw [advance_keeps]
  rfl

theorem decided_config (p : Part) (n : HeaterNo) :
    p.decided.loads.heaters[n].inForce = p.loads.heaters[n].accepted ∧
      p.decided.loads.heaters[n].accepted = p.loads.heaters[n].accepted ∧
      p.decided.loads.heaters[n].ownerDemand = p.loads.heaters[n].ownerDemand ∧
      p.decided.loads.heaters[n].testDemand = p.tested.loads.heaters[n].testDemand := by
  obtain ⟨hforce, haccepted, howner, -⟩ := tested_config p n
  obtain ⟨g, hg⟩ := decided_heater p n
  rw [hg, advance_keeps]
  exact ⟨hforce, haccepted, howner, rfl⟩

/-- R53, R61: the pattern of a demanded heater at a boundary, by the P and D that come into force. -/
theorem decided_pattern (p : Part) (n : HeaterNo) (hd : p.decided.loads.heaters[n].demanded = true) :
    let h := p.loads.heaters[n]
    let P := h.accepted.period
    let D := h.accepted.duty
    let changed := P ≠ h.inForce.period ∨ D ≠ h.inForce.duty
    let acc := if changed then P - 1 else h.acc
    let r := p.decided.loads.heaters[n]
    (P ≤ D → r.onSlot = true ∧ r.acc = P - 1) ∧ (D < P → D = 0 → r.onSlot = false ∧ r.acc = acc) ∧
      (D < P → D ≠ 0 → P ≤ acc + D → r.onSlot = true ∧ r.acc = acc + D - P) ∧
      (D < P → D ≠ 0 → acc + D < P → r.onSlot = false ∧ r.acc = acc + D) ∧
      (changed → 1 ≤ D → 1 ≤ P → r.onSlot = true) := by
  intro h P D changed acc r
  obtain ⟨g, hg⟩ := decided_heater p n
  have hdem : p.tested.loads.heaters[n].demanded = true := by
    rw [← advance_demanded]
    rw [hg] at hd
    exact hd
  have hslot : r.onSlot = p.tested.loads.heaters[n].advance.onSlot := by
    rw [show r = _ from hg]
    rfl
  have hacc : r.acc = p.tested.loads.heaters[n].advance.acc := by
    rw [show r = _ from hg]
    rfl
  have hpattern := advance_pattern _ hdem
  rw [(tested_config p n).1, tested_acc p n hdem, ← hslot, ← hacc] at hpattern
  obtain ⟨hfull, hnone, hon, hoff⟩ := hpattern
  refine ⟨hfull, hnone, hon, hoff, fun hc hD hP => ?_⟩
  rcases Nat.lt_or_ge D P with hlt | hge
  · have hnew : acc = P - 1 := if_pos hc
    exact (hon hlt (Nat.one_le_iff_ne_zero.1 hD) (show P ≤ acc + D by omega)).1
  · exact (hfull hge).1

/-! What the owners and the heater test are handed (R55, R63). -/

/-- A candidate that is not granted. -/
def Heater.isDenied (h : Heater) : Bool := h.demanded && h.onSlot && !h.grant

/-- A count that a denial raises. -/
def countIf (d : Bool) (k : Nat) : Nat := if d then sat16 (k + 1) else k

theorem isDenied_iff (h : Heater) (hd : h.demanded = true) : h.isDenied = true ↔ h.result = .denied := by
  unfold Heater.isDenied Heater.result
  rw [hd]
  cases h.onSlot <;> cases h.grant <;> simp

theorem ownerResult_isSome (l : Loads) (n : HeaterNo) : (l.ownerResult n).isSome = l.heaters[n].ownerDemand := by
  unfold Loads.ownerResult
  cases l.heaters[n].ownerDemand <;> rfl

theorem ownerResult_denied (l : Loads) (n : HeaterNo) :
    l.ownerResult n = some .denied ↔ (l.heaters[n].ownerDemand && l.heaters[n].isDenied) = true := by
  unfold Loads.ownerResult
  cases ho : l.heaters[n].ownerDemand with
  | false => simp
  | true =>
    have hd : l.heaters[n].demanded = true := by rw [Heater.demanded, ho, Bool.true_or]
    rw [Bool.true_and, isDenied_iff _ hd]
    simp

/-- R55, R161: the results of H0 and H1 in the cycle record. -/
theorem takeResults_eq (l : Loads) (c : Cycle) :
    Cycle.takeResults (l.ownerResult 0) (l.ownerResult 1) c = { c with
      h0Slots := if l.heaters[(0 : HeaterNo)].ownerDemand then c.h0Slots + 1 else c.h0Slots
      h0Denied := countIf (l.heaters[(0 : HeaterNo)].ownerDemand && l.heaters[(0 : HeaterNo)].isDenied) c.h0Denied
      h1Denied := countIf (l.heaters[(1 : HeaterNo)].ownerDemand && l.heaters[(1 : HeaterNo)].isDenied) c.h1Denied } := by
  simp only [Cycle.takeResults, ownerResult_isSome, ownerResult_denied]
  rfl

/-- R55: the denied slots of the owners' tickets. -/
theorem ticket_handOwners (p : Part) (n : TicketNo) :
    let denied (h : HeaterNo) : Bool := p.loads.heaters[h].ownerDemand && p.loads.heaters[h].isDenied
    (p.pool.defrostSlot ≠ some n → p.pool.iceSlot ≠ some n → p.handOwners.ticket n = p.ticket n) ∧
      (p.pool.defrostSlot = some n → p.pool.iceSlot ≠ some n →
        (p.handOwners.ticket n).progress.denied = countIf (denied 0) (p.ticket n).progress.denied) ∧
      (p.pool.iceSlot = some n → p.pool.defrostSlot ≠ some n →
        (p.handOwners.ticket n).progress.denied =
          countIf (denied 3) (countIf (denied 2) (p.ticket n).progress.denied)) := by
  intro denied
  have hstep (r : Option SlotResult) (slot : Option TicketNo) (u : Part) (h : slot ≠ some n) :
      (u.countDenied r slot).ticket n = u.ticket n := by rw [ticket_countDenied, if_neg fun h' => h h'.2]
  have hcount (h : HeaterNo) (slot : Option TicketNo) (u : Part) (hs : slot = some n) :
      ((u.countDenied (p.loads.ownerResult h) slot).ticket n).progress.denied =
        countIf (denied h) (u.ticket n).progress.denied := by
    rw [ticket_countDenied]
    simp only [ownerResult_denied, hs, and_true, countIf, denied]
    split <;> rfl
  unfold Part.handOwners
  refine ⟨fun hd hi => ?_, fun hd hi => ?_, fun hi hd => ?_⟩
  · rw [hstep _ _ _ hi, hstep _ _ _ hi, hstep _ _ _ hd]
    rfl
  · rw [hstep _ _ _ hi, hstep _ _ _ hi, hcount 0 _ _ hd]
    rfl
  · rw [hcount 3 _ _ hi, hcount 2 _ _ hi, hstep _ _ _ hd]
    rfl

end Sys2Proof.Machine

namespace Sys2Proof.Machine

/-- The heater test in the service slot, with the denials and grants of the slot counted in its ticket (R55, R63). -/
theorem handTestResult_spec (p : Part) (n : TicketNo) (h : HeaterNo) (ht : p.heaterTest = some (n, h)) :
    p.handTestResult.loads.testSlots = p.loads.testSlots + 1 ∧
      (p.loads.heaters[h].demanded = true → (p.loads.heaters[h].grant = true → p.loads.heaters[h].onSlot = true) →
        (p.handTestResult.ticket n).progress.measured =
            countIf p.loads.heaters[h].grant (p.ticket n).progress.measured ∧
          (p.handTestResult.ticket n).progress.denied =
            countIf p.loads.heaters[h].isDenied (p.ticket n).progress.denied) := by
  unfold Part.handTestResult
  rw [ht]
  dsimp only
  refine ⟨by split <;> rfl, fun hdem hon => ?_⟩
  unfold Heater.isDenied Heater.result
  rw [hdem]
  cases hs : p.loads.heaters[h].onSlot <;> cases hg : p.loads.heaters[h].grant
  case false.true => rw [hs] at hon; exact absurd (hon hg) (by simp)
  all_goals
    simp only [Bool.not_true, Bool.not_false, Bool.false_eq_true, if_true, if_false, Bool.and_true, Bool.and_false,
      ticket_updateTicket]
    exact ⟨rfl, rfl⟩

theorem heaterTest_of_ticket (p : Part) (n : TicketNo) (h : HeaterNo) (hslot : p.pool.serviceSlot = some n)
    (hk : (p.ticket n).kind = some .loadTest) (hl : (p.ticket n).request.load = some (.heater h)) :
    p.heaterTest = some (n, h) := by
  simp only [Part.heaterTest, hslot, Ticket.testHeater, hk, hl, Option.map_some]

theorem heaterTest_none (p : Part) (hslot : p.pool.serviceSlot = none) : p.heaterTest = none := by
  simp only [Part.heaterTest, hslot]

theorem handTestResult_none (p : Part) (h : p.heaterTest = none) : p.handTestResult = p := by
  simp only [Part.handTestResult, h]

/-- Where no heater test has run its seconds, step 2 changes nothing. -/
theorem decided_pool (p : Part) (h : p.inForceNow.endRunTest = p.inForceNow) : p.decided.pool = p.pool := by
  change p.inForceNow.endRunTest.pool = _
  rw [h]
  rfl

theorem handOwners_serviceSlot (p : Part) : p.handOwners.pool.serviceSlot = p.pool.serviceSlot := by
  obtain ⟨-, -, -, -, -, -, hpool⟩ := handOwners_frame p
  rw [hpool]

/-- With the service slot empty the tickets take the owners' results alone. -/
theorem handResults_noTest (p : Part) (h : p.pool.serviceSlot = none) : p.handResults = p.handOwners := by
  rw [handResults_eq, handTestResult_none _ (heaterTest_none _ ((handOwners_serviceSlot p).trans h))]

/-- R63: a heater test that has run its seconds ends COMPLETE, and drops its demand. -/
theorem decided_testEnds (p : Part) (n : TicketNo) (h : HeaterNo) (hslot : p.pool.serviceSlot = some n)
    (hice : p.pool.iceSlot ≠ some n) (hdefrost : p.pool.defrostSlot ≠ some n) (ho : (p.ticket n).origin = some .link)
    (hk : (p.ticket n).kind = some .loadTest) (hl : (p.ticket n).request.load = some (.heater h))
    (hs : (p.ticket n).request.seconds = some p.loads.testSlots) :
    p.decided.handResults.pool.serviceSlot = none ∧
      p.decided.handResults.ticket n = (p.ticket n).finished p.clock.partSeconds .complete ∧
      p.tested.loads.heaters[h].testDemand = false := by
  have ht : p.inForceNow.heaterTest = some (n, h) := heaterTest_of_ticket p n h hslot hk hl
  have hend : p.inForceNow.endRunTest = (p.inForceNow.dropTest h).toCompletion n .complete := by
    rw [← finish_link (p.inForceNow.dropTest h) n .complete ho]
    rcases endRunTest_cases p.inForceNow with ⟨hno, -⟩ | ⟨m, k, hm, -, he⟩
    · exact absurd hs (hno n h ht)
    · obtain ⟨rfl, rfl⟩ := Prod.mk.inj (Option.some.inj (ht.symm.trans hm))
      exact he
  have hpool : p.decided.pool = ((p.inForceNow.dropTest h).toCompletion n .complete).pool := by
    change p.inForceNow.endRunTest.pool = _
    rw [hend]
  have hticket : p.decided.ticket n = (p.ticket n).finished p.clock.partSeconds .complete := by
    rw [Part.ticket, hpool]
    exact (ticket_toCompletion (p.inForceNow.dropTest h) n n .complete).trans (if_pos rfl)
  have hservice : p.decided.pool.serviceSlot = none := by
    rw [hpool]
    change emptied n p.pool.serviceSlot = none
    rw [hslot, emptied, if_pos rfl]
  have hdefrost' : p.decided.pool.defrostSlot ≠ some n := by
    rw [hpool]
    change emptied n p.pool.defrostSlot ≠ some n
    rwa [emptied, if_neg hdefrost]
  have hice' : p.decided.pool.iceSlot ≠ some n := by
    rw [hpool]
    change emptied n p.pool.iceSlot ≠ some n
    rwa [emptied, if_neg hice]
  rw [handResults_noTest _ hservice]
  refine ⟨(handOwners_serviceSlot _).trans hservice, ((ticket_handOwners _ n).1 hdefrost' hice').trans hticket, ?_⟩
  have hloads : p.tested.loads = p.inForceNow.loads.update h Heater.dropTest := congrArg Part.loads hend
  rw [hloads, heaters_update, if_pos rfl]
  exact (dropTest_spec _).1

/-- R63: a heater test that goes on counts the boundary, as measured or as denied. -/
theorem decided_testGoesOn (p : Part) (n : TicketNo) (h : HeaterNo) (hslot : p.pool.serviceSlot = some n)
    (hice : p.pool.iceSlot ≠ some n) (hdefrost : p.pool.defrostSlot ≠ some n)
    (hk : (p.ticket n).kind = some .loadTest) (hl : (p.ticket n).request.load = some (.heater h))
    (hs : (p.ticket n).request.seconds ≠ some p.loads.testSlots) :
    p.decided.handResults.pool.serviceSlot = some n ∧
      p.decided.handResults.loads.testSlots = p.loads.testSlots + 1 ∧
      p.tested.loads.heaters[h].testDemand = p.loads.heaters[h].testDemand ∧
      (p.decided.loads.heaters[h].demanded = true →
        (p.decided.handResults.ticket n).progress.measured =
            countIf p.decided.loads.heaters[h].grant (p.ticket n).progress.measured ∧
          (p.decided.handResults.ticket n).progress.denied =
            countIf p.decided.loads.heaters[h].isDenied (p.ticket n).progress.denied) := by
  have ht : p.inForceNow.heaterTest = some (n, h) := heaterTest_of_ticket p n h hslot hk hl
  have hend : p.inForceNow.endRunTest = p.inForceNow := by
    rcases endRunTest_cases p.inForceNow with ⟨-, he⟩ | ⟨m, k, hm, hsec, -⟩
    · exact he
    · obtain ⟨rfl, rfl⟩ := Prod.mk.inj (Option.some.inj (ht.symm.trans hm))
      exact absurd hsec hs
  have hpool := decided_pool p hend
  have hticket : p.decided.handOwners.ticket n = p.ticket n := by
    rw [(ticket_handOwners p.decided n).1 (by rwa [hpool]) (by rwa [hpool]), Part.ticket, hpool]
    rfl
  obtain ⟨-, -, oloads, -, -, -, opool⟩ := handOwners_frame p.decided
  obtain ⟨-, -, -, -, -, -, rpool⟩ := handResults_frame p.decided
  have hservice : p.decided.handOwners.pool.serviceSlot = some n := by rw [handOwners_serviceSlot, hpool, hslot]
  have htest : p.decided.handOwners.heaterTest = some (n, h) :=
    heaterTest_of_ticket _ n h hservice (by rw [hticket, hk]) (by rw [hticket, hl])
  obtain ⟨hslots, hcounts⟩ := handTestResult_spec _ n h htest
  rw [← handResults_eq, oloads, hticket] at hcounts
  rw [← handResults_eq, oloads] at hslots
  refine ⟨by rw [rpool, hpool, hslot], ?_, ?_, fun hd => hcounts hd fun hg => ?_⟩
  · rw [hslots]
    change p.tested.loads.testSlots + 1 = _
    rw [tested_loads]
  · have hloads : p.tested.loads = p.inForceNow.loads := congrArg Part.loads hend
    rw [hloads]
    exact (congrArg Heater.testDemand (heaters_updateAll p.loads h fun _ r => r.takeAccepted)).trans rfl
  · exact (decideSlot_candidate _ h hg).2

end Sys2Proof.Machine

namespace Sys2Proof.Machine

/-! The advance of the part seconds count as a whole (R52, R89, R148). -/

/-- What follows the count of a second: the slot boundary, a filter second, a second of frost credit. -/
def Part.slotSecond (p : Part) : Part := p.boundary.filterSecond.frostSecond

/-- The count of a second moves the part seconds count alone, and takes a free value at its end (Table 0-2). -/
theorem countSecond_eq (p : Part) :
    ∃ (m k : Nat), p.countSecond = { p with clock.partSeconds := m, freeCount := k } ∧
      (p.clock.partSeconds < 4294967295 → m = p.clock.partSeconds + 1) := by
  unfold Part.countSecond Part.nextSecond
  by_cases h : p.clock.partSeconds < 4294967295
  · rw [if_pos h, if_pos h]
    exact ⟨_, p.freeCount, rfl, fun _ => rfl⟩
  · rw [if_neg h, if_neg h]
    exact ⟨_, p.freeCount + 1, rfl, fun h' => absurd h' h⟩

/-- The advance is the count of a second at its moment (log 27) and what follows it. -/
theorem advanceSecond_eq (p : Part) :
    ∃ (c : Clock) (k : Nat), p.advanceSecond = ({ p with clock := c, freeCount := k } : Part).slotSecond ∧
      c.now = max p.clock.now ((p.clock.partSeconds + 1) * 1000000) ∧
      (p.clock.partSeconds < 4294967295 → c.partSeconds = p.clock.partSeconds + 1) := by
  obtain ⟨m, k, hcount, hm⟩ := countSecond_eq (p.reach ((p.clock.partSeconds + 1) * second))
  exact ⟨_, k, congrArg Part.slotSecond hcount, rfl, hm⟩

/-- The loads after a second: the slot as granted, and the next slot position. -/
theorem slotSecond_loads (p : Part) :
    p.slotSecond.loads =
      { p.decided.loads with slot := p.loads.slot + 1, testSlots := p.decided.handResults.loads.testSlots } := by
  rw [Part.slotSecond, frostSecond_frame, filterSecond_eq]
  exact boundary_loads p

theorem slotSecond_pool (p : Part) : p.slotSecond.pool = p.decided.handResults.pool := by
  obtain ⟨-, -, -, -, -, hpool⟩ := boundary_frame p
  rw [Part.slotSecond, frostSecond_frame, filterSecond_eq]
  exact hpool

theorem slotSecond_ticket (p : Part) (n : TicketNo) : p.slotSecond.ticket n = p.decided.handResults.ticket n := by
  rw [Part.ticket, slotSecond_pool]
  rfl

theorem slotSecond_keeps (p : Part) : p.slotSecond.clock = p.clock ∧ p.slotSecond.supervision = p.supervision := by
  obtain ⟨⟨hclock, -, -, hsupervision, -⟩, -⟩ := boundary_frame p
  rw [Part.slotSecond, frostSecond_frame, filterSecond_eq]
  exact ⟨hclock, hsupervision⟩

theorem slotSecond_filterSeconds (p : Part) :
    p.slotSecond.line.filterSeconds = min (p.line.filterSeconds + 1) 4294967295 := by
  obtain ⟨-, hline, -⟩ := boundary_frame p
  rw [Part.slotSecond, frostSecond_frame, filterSecond_eq]
  change sat32 (p.boundary.line.filterSeconds + 1) = _
  rw [hline]
  rfl

/-- The configuration of a heater after a second (R52). -/
theorem slotSecond_config (p : Part) (n : HeaterNo) :
    p.slotSecond.loads.heaters[n].inForce = p.loads.heaters[n].accepted ∧
      p.slotSecond.loads.heaters[n].accepted = p.loads.heaters[n].accepted ∧
      p.slotSecond.loads.heaters[n].ownerDemand = p.loads.heaters[n].ownerDemand := by
  obtain ⟨hforce, haccepted, howner, -⟩ := decided_config p n
  rw [slotSecond_loads]
  exact ⟨hforce, haccepted, howner⟩

/-- What of the loads a slot does not decide: the budget, the rotation, the slot position (R52, R59). -/
theorem decided_frame (p : Part) :
    p.tested.loads.budgetInForce = p.supervision.params.heaterBudget ∧ p.tested.loads.rotation = p.loads.rotation ∧
      p.tested.loads.slot = p.loads.slot := by
  rw [tested_loads]
  exact ⟨rfl, rfl, rfl⟩

/-- R54, R58: the heaters granted for the slot that a second begins. -/
theorem slotSecond_grants (p : Part) :
    let l := p.slotSecond.loads
    (∀ n : HeaterNo, l.heaters[n].grant = true → l.heaters[n].demanded = true ∧ l.heaters[n].onSlot = true) ∧
      (∀ n : HeaterNo, l.heaters[n].demanded = true → l.heaters[n].onSlot = true →
        (l.heaters[n].grant = true ↔
          l.heaters[n].inForce.watts +
              ((List.finRange 5).map fun m : HeaterNo =>
                if l.heaters[m].grant = true ∧ m ≠ n ∧ (p.loads.rotation[p.loads.slot] = some m ∨
                  p.loads.rotation[p.loads.slot] ≠ some n ∧ m < n)
                then l.heaters[m].inForce.watts else 0).sum ≤ l.budgetInForce)) ∧
      l.withinBudget ∧
      (((List.finRange 5).map fun n : HeaterNo =>
          if l.heaters[n].demanded && l.heaters[n].onSlot then l.heaters[n].inForce.watts else 0).sum ≤
          l.budgetInForce →
        ∀ n : HeaterNo, l.heaters[n].demanded = true → l.heaters[n].onSlot = true → l.heaters[n].grant = true) := by
  intro l
  obtain ⟨-, hrotation, hslot⟩ := decided_frame p
  have hl : l = { p.decided.loads with
      slot := p.loads.slot + 1, testSlots := p.decided.handResults.loads.testSlots } := slotSecond_loads p
  have hgranted := decideSlot_granted p.tested.loads
  simp only [Loads.before, hrotation, hslot] at hgranted
  rw [hl]
  exact ⟨decideSlot_candidate _, hgranted, decideSlot_withinBudget _, fun h => decideSlot_all _ h⟩

/-- R148: what a second counts in the Defrost Controller, and the cycle's record of the slot (R55). -/
theorem slotSecond_defrost (p : Part) :
    p.slotSecond.defrost.state = p.defrost.state ∧
      p.slotSecond.defrost.cycle = p.defrost.cycle.map
        (Cycle.takeResults (p.decided.loads.ownerResult 0) (p.decided.loads.ownerResult 1)) := by
  obtain ⟨-, -, -, -, hdefrost, -⟩ := boundary_frame p
  obtain ⟨hframe, -⟩ := frostSecond_spec p.boundary.filterSecond
  rw [Part.slotSecond, hframe, filterSecond_eq]
  change p.boundary.defrost.state = _ ∧ p.boundary.defrost.cycle = _
  rw [hdefrost]
  exact ⟨rfl, rfl⟩

theorem slotSecond_credit (p : Part) :
    let accrues := p.defrost.state = .accruing ∨ p.defrost.state = .wanted ∨ p.defrost.state = .deferred
    let runs := accrues ∧ p.defrost.compressorRunning = true
    let stands := accrues ∧ p.sense.door = some .opened
    let minute := if runs ∧ 60 ≤ p.defrost.compressorSeconds + 1 then 1 else 0
    let weight := if stands ∧ 60 ≤ p.defrost.doorSeconds + 1 then p.supervision.params.doorWeight else 0
    p.slotSecond.defrost.compressorSeconds =
        (if runs then if 60 ≤ p.defrost.compressorSeconds + 1 then 0 else p.defrost.compressorSeconds + 1
         else p.defrost.compressorSeconds) ∧
      p.slotSecond.defrost.doorSeconds =
        (if stands then if 60 ≤ p.defrost.doorSeconds + 1 then 0 else p.defrost.doorSeconds + 1
         else p.defrost.doorSeconds) ∧
      (p.defrost.credit ≤ 65535 → p.slotSecond.defrost.credit = min (p.defrost.credit + minute + weight) 65535) := by
  obtain ⟨⟨-, -, hsense, hsupervision, -⟩, -, -, -, hdefrost, -⟩ := boundary_frame p
  have hframe : p.boundary.filterSecond.defrost = p.boundary.defrost ∧ p.boundary.filterSecond.sense = p.sense ∧
      p.boundary.filterSecond.supervision = p.supervision := by
    rw [filterSecond_eq]
    exact ⟨rfl, hsense, hsupervision⟩
  obtain ⟨-, hspec⟩ := frostSecond_spec p.boundary.filterSecond
  rw [hframe.1, hframe.2.1, hframe.2.2, hdefrost] at hspec
  exact hspec

/-- R55: a heater's denied slots after a second. -/
theorem slotSecond_denied (p : Part) (n : HeaterNo) :
    p.slotSecond.loads.heaters[n].denied =
      countIf p.slotSecond.loads.heaters[n].isDenied p.loads.heaters[n].denied := by
  obtain ⟨-, -, -, hdenied⟩ := tested_config p n
  have h := decideSlot_denied p.tested.loads n
  rw [hdenied] at h
  rw [slotSecond_loads]
  exact h

/-- R55: the cycle's record of the slot, in terms of the heaters that were denied it. -/
theorem slotSecond_cycle (p : Part) (c : Cycle) (hc : p.defrost.cycle = some c) :
    let denied (n : HeaterNo) : Bool := p.slotSecond.loads.heaters[n].isDenied
    let owned (n : HeaterNo) : Bool := p.loads.heaters[n].ownerDemand
    p.slotSecond.defrost.cycle =
      some { c with
        h0Slots := if owned 0 then c.h0Slots + 1 else c.h0Slots
        h0Denied := countIf (owned 0 && denied 0) c.h0Denied
        h1Denied := countIf (owned 1 && denied 1) c.h1Denied } := by
  intro denied owned
  obtain ⟨-, hcycle⟩ := slotSecond_defrost p
  have howner (n : HeaterNo) : p.decided.loads.heaters[n].ownerDemand = owned n := (decided_config p n).2.2.1
  rw [hcycle, hc, Option.map_some, takeResults_eq, howner, howner]
  simp only [denied, slotSecond_loads]

/-- R55: with no heater test in the service slot, the denied slots of the owners' tickets. -/
theorem slotSecond_ownerTickets (p : Part) (n : TicketNo) (hservice : p.pool.serviceSlot = none) :
    let denied (n : HeaterNo) : Bool := p.slotSecond.loads.heaters[n].isDenied
    let owned (n : HeaterNo) : Bool := p.loads.heaters[n].ownerDemand
    (p.pool.defrostSlot = some n → p.pool.iceSlot ≠ some n →
      (p.slotSecond.ticket n).progress.denied = countIf (owned 0 && denied 0) (p.ticket n).progress.denied) ∧
    (p.pool.iceSlot = some n → p.pool.defrostSlot ≠ some n → owned 3 = false →
      (p.slotSecond.ticket n).progress.denied = countIf (owned 2 && denied 2) (p.ticket n).progress.denied) ∧
    (p.pool.iceSlot = some n → p.pool.defrostSlot ≠ some n → owned 2 = false →
      (p.slotSecond.ticket n).progress.denied = countIf (owned 3 && denied 3) (p.ticket n).progress.denied) := by
  intro denied owned
  have hidle : p.inForceNow.endRunTest = p.inForceNow := by
    rcases endRunTest_cases p.inForceNow with ⟨-, he⟩ | ⟨m, k, hm, -, -⟩
    · exact he
    · exact absurd ((heaterTest_none p.inForceNow hservice).symm.trans hm) (fun h => nomatch h)
  have hpool := decided_pool p hidle
  have hticket : p.decided.ticket n = p.ticket n := by
    rw [Part.ticket, hpool]
    rfl
  have howner (h : HeaterNo) : p.decided.loads.heaters[h].ownerDemand = owned h := (decided_config p h).2.2.1
  have hdenied (h : HeaterNo) : p.decided.loads.heaters[h].isDenied = denied h := by
    simp only [denied, slotSecond_loads]
  obtain ⟨-, hdefrost, hice⟩ := ticket_handOwners p.decided n
  rw [slotSecond_ticket, handResults_noTest p.decided (by rw [hpool, hservice])]
  simp only [hpool, hticket, howner, hdenied] at hdefrost hice
  refine ⟨hdefrost, fun hi hd ho => ?_, fun hi hd ho => ?_⟩
  all_goals
    rw [hice hi hd, ho]
    rfl

/-- R63: the heater test in the service slot, at a second's boundary. -/
theorem slotSecond_serviceTest (p : Part) (n : TicketNo) (h : HeaterNo) (hslot : p.pool.serviceSlot = some n)
    (hice : p.pool.iceSlot ≠ some n) (hdefrost : p.pool.defrostSlot ≠ some n) (ho : (p.ticket n).origin = some .link)
    (hk : (p.ticket n).kind = some .loadTest) (hl : (p.ticket n).request.load = some (.heater h)) :
    let q := p.slotSecond
    ((p.ticket n).request.seconds = some p.loads.testSlots →
      q.pool.serviceSlot = none ∧ q.ticket n = (p.ticket n).finished p.clock.partSeconds .complete ∧
        q.loads.heaters[h].testDemand = false) ∧
    ((p.ticket n).request.seconds ≠ some p.loads.testSlots →
      q.pool.serviceSlot = some n ∧ q.loads.testSlots = p.loads.testSlots + 1 ∧
        q.loads.heaters[h].testDemand = p.loads.heaters[h].testDemand ∧
        (q.loads.heaters[h].demanded = true →
          (q.ticket n).progress.measured = countIf q.loads.heaters[h].grant (p.ticket n).progress.measured ∧
            (q.ticket n).progress.denied = countIf q.loads.heaters[h].isDenied (p.ticket n).progress.denied)) := by
  intro q
  obtain ⟨-, -, -, htest⟩ := decided_config p h
  simp only [q, slotSecond_pool, slotSecond_ticket, slotSecond_loads]
  refine ⟨fun hs => ?_, fun hs => ?_⟩
  · obtain ⟨hservice, hticket, hdrop⟩ := decided_testEnds p n h hslot hice hdefrost ho hk hl hs
    exact ⟨hservice, hticket, htest.trans hdrop⟩
  · obtain ⟨hservice, hslots, hdemand, hcounts⟩ := decided_testGoesOn p n h hslot hice hdefrost hk hl hs
    exact ⟨hservice, hslots, htest.trans hdemand, hcounts⟩

/-- Settles O22: the advance is the slot boundary, whose steps are taken one after the other, and the seconds that follow
it leave what the boundary decided. -/
theorem secondsBeginSlots : Obligations.SecondsBeginSlots := by
  refine ⟨fun s dt hr => ?_, fun s dt hr => ?_⟩
  all_goals
    have hrow : Becomes (.partSecondsAdvance dt) s (s.later dt).advanceSecond.settle :=
      becomes_row (.partSecondsAdvance dt) s dt (fun p => p.advanceSecond.settle) hr rfl
    obtain ⟨c, k, hadvance, hnow, hseconds⟩ := advanceSecond_eq (s.later dt)
    rw [hadvance] at hrow
    intro p
    let u : Part := { p with clock := c, freeCount := k }
    obtain ⟨hclock, hsupervision⟩ := slotSecond_keeps u
  · obtain ⟨hbudget, hrotation, -⟩ := decided_frame u
    obtain ⟨hcandidate, hgranted, hwithin, hall⟩ := slotSecond_grants u
    refine ⟨u.slotSecond, hrow, fun h => by rw [hclock]; exact hseconds h, by rw [hclock]; exact hnow, by rw [slotSecond_loads]; exact hbudget,
      by rw [slotSecond_loads], by rw [slotSecond_loads]; exact hrotation, slotSecond_config u, fun n hd => ?_,
      hcandidate, hgranted, hwithin, hall, slotSecond_filterSeconds u⟩
    rw [slotSecond_loads] at hd ⊢
    exact decided_pattern u n hd
  · intro ps
    obtain ⟨hstate, -⟩ := slotSecond_defrost u
    refine ⟨u.slotSecond, hrow, ⟨hstate, slotSecond_credit u⟩, fun hs hc => ?_, slotSecond_denied u, slotSecond_cycle u,
      slotSecond_ownerTickets u, fun n h hslot hice hdefrost ho hk hl => ?_⟩
    · have hwanted := settle_wanted u.slotSecond (hstate.trans hs) hc
      rw [hsupervision] at hwanted
      exact hwanted
    · obtain ⟨hends, hgoesOn⟩ := slotSecond_serviceTest u n h hslot hice hdefrost ho hk hl
      refine ⟨fun hs => ?_, hgoesOn⟩
      obtain ⟨hservice, hticket, hdrop⟩ := hends hs
      rw [hticket, hclock]
      exact ⟨hservice, rfl, rfl, rfl, rfl, hdrop⟩

end Sys2Proof.Machine

namespace Sys2Proof.Machine

/-! The settings of the part: what no job changes, and what only the command for it changes (R60, R59, R89, R90, R152, R170). -/

/-- The heaters' accepted and in-force configuration, the budget in force, the rotation table and the slot position. -/
def Loads.config (l : Loads) :
    (HeaterNo → HeaterConfig × HeaterConfig) × Nat × Vector (Option HeaterNo) 16 × Fin 16 :=
  (fun n => (l.heaters[n].accepted, l.heaters[n].inForce), l.budgetInForce, l.rotation, l.slot)

/-- The filter totals, the filter status, and the leak latch with its time. -/
@[simp] abbrev Line.KeepsTotals (m l : Line) : Prop :=
  m.filterMl = l.filterMl ∧ m.filterRem = l.filterRem ∧ m.filterSeconds = l.filterSeconds ∧
    m.filterStatus = l.filterStatus ∧ m.leakLatch = l.leakLatch ∧ m.leakTime = l.leakTime

/-- The configuration of the loads, the totals of the line and the compressor state are as they were. -/
@[simp] abbrev Part.KeepsConfig (q p : Part) : Prop :=
  q.loads.config = p.loads.config ∧ q.line.KeepsTotals p.line ∧
    q.defrost.compressorRunning = p.defrost.compressorRunning

/-- So is the defrost log. -/
@[simp] abbrev Part.KeepsSettings (q p : Part) : Prop := q.KeepsConfig p ∧ q.defrost.log = p.defrost.log

theorem Part.KeepsConfig.refl (p : Part) : p.KeepsConfig p := by simp

theorem Part.KeepsConfig.trans {p q r : Part} (h : r.KeepsConfig q) (g : q.KeepsConfig p) : r.KeepsConfig p := by
  simp_all

theorem Part.KeepsSettings.refl (p : Part) : p.KeepsSettings p := by simp

theorem Part.KeepsSettings.trans {p q r : Part} (h : r.KeepsSettings q) (g : q.KeepsSettings p) : r.KeepsSettings p := by
  simp_all

theorem keepsSettings_of_eq {p q : Part} (hloads : q.loads = p.loads) (hline : q.line = p.line)
    (hdefrost : q.defrost = p.defrost) : q.KeepsSettings p := by
  simp [hloads, hline, hdefrost]

/-- A change of a heater that is none of its configuration. -/
theorem config_update (l : Loads) (n : HeaterNo) (f : Heater → Heater)
    (h : (f l.heaters[n]).accepted = l.heaters[n].accepted ∧ (f l.heaters[n]).inForce = l.heaters[n].inForce) :
    (l.update n f).config = l.config := by
  obtain ⟨haccepted, hforce⟩ := h
  have hheater (m : HeaterNo) : (l.update n f).heaters[m].accepted = l.heaters[m].accepted ∧
      (l.update n f).heaters[m].inForce = l.heaters[m].inForce := by
    rw [heaters_update]
    split
    next hm => subst hm; exact ⟨haccepted, hforce⟩
    next => exact ⟨rfl, rfl⟩
  simp only [Loads.config, (hheater _).1, (hheater _).2]
  rfl

@[simp] theorem config_raiseOwner (l : Loads) (n : HeaterNo) : (l.update n Heater.raiseOwner).config = l.config := by
  obtain ⟨-, -, -, -, hconfig⟩ := raiseOwner_spec l.heaters[n]
  exact config_update l n _ hconfig

@[simp] theorem config_dropOwner (l : Loads) (n : HeaterNo) : (l.update n Heater.dropOwner).config = l.config := by
  obtain ⟨-, -, -, hconfig⟩ := dropOwner_spec l.heaters[n]
  exact config_update l n _ hconfig

@[simp] theorem config_raiseTest (l : Loads) (n : HeaterNo) : (l.update n Heater.raiseTest).config = l.config := by
  obtain ⟨-, -, -, hconfig⟩ := raiseTest_spec l.heaters[n]
  exact config_update l n _ hconfig

@[simp] theorem config_dropTest (l : Loads) (n : HeaterNo) : (l.update n Heater.dropTest).config = l.config := by
  obtain ⟨-, -, -, hconfig⟩ := dropTest_spec l.heaters[n]
  exact config_update l n _ hconfig

@[simp] theorem openFor_totals (u : LineUser) (l : Line) : (l.openFor u).KeepsTotals l := by
  cases u <;> simp [Line.openFor]

@[simp] theorem shut_totals (l : Line) : l.shut.KeepsTotals l := by
  simp [Line.shut]

@[simp] theorem toSettle_totals (now : Nat) (u : LineUser) (r : Option EndingReason) (l : Line) :
    (l.toSettle now u r).KeepsTotals l := by
  simp [Line.toSettle]

@[simp] theorem toIdle_totals (l : Line) : l.toIdle.KeepsTotals l := by
  simp [Line.toIdle]

@[simp] theorem addCredit_report (k : Nat) (d : Defrost) :
    (d.addCredit k).compressorRunning = d.compressorRunning ∧ (d.addCredit k).log = d.log := ⟨rfl, rfl⟩

@[simp] theorem setIceState_settings (st : IceState) (p : Part) : (Part.setIceState st p).KeepsSettings p := by
  simp [Part.setIceState]

@[simp] theorem setDefrostState_settings (st : DefrostState) (p : Part) : (Part.setDefrostState st p).KeepsSettings p := by
  simp [Part.setDefrostState]

@[simp] theorem raiseOwner_settings (n : HeaterNo) (p : Part) : (Part.raiseOwner n p).KeepsSettings p := by
  simp [Part.raiseOwner]

@[simp] theorem dropOwner_settings (n : HeaterNo) (p : Part) : (Part.dropOwner n p).KeepsSettings p := by
  simp [Part.dropOwner]

@[simp] theorem dropTest_settings (n : HeaterNo) (p : Part) : (Part.dropTest n p).KeepsSettings p := by
  simp [Part.dropTest]

@[simp] theorem updateCycle_settings (f : Cycle → Cycle) (p : Part) : (Part.updateCycle f p).KeepsSettings p := by
  simp [Part.updateCycle]

@[simp] theorem fillCompletion_settings (p : Part) : (Part.fillCompletion p).KeepsSettings p := by
  unfold Part.fillCompletion
  (repeat' split) <;> simp

@[simp] theorem enterWanted_settings (p : Part) : (Part.enterWanted p).KeepsSettings p := by
  simp [Part.enterWanted]

@[simp] theorem compareTarget_settings (p : Part) : (Part.compareTarget p).KeepsSettings p := by
  unfold Part.compareTarget
  (repeat' split) <;> simp

@[simp] theorem flagDefrostSensor_settings (p : Part) : (Part.flagDefrostSensor p).KeepsSettings p := by
  simp [Part.flagDefrostSensor]

@[simp] theorem enterHeating_settings (p : Part) : (Part.enterHeating p).KeepsSettings p := by
  unfold Part.enterHeating
  dsimp only
  (repeat' split) <;> simp

@[simp] theorem prepWait_settings (p : Part) : (Part.prepWait p).KeepsSettings p := by
  unfold Part.prepWait
  (repeat' split) <;> simp

@[simp] theorem enterPrep_settings (forced ungranted : Bool) (p : Part) :
    (Part.enterPrep forced ungranted p).KeepsSettings p := by
  simp [Part.enterPrep]

@[simp] theorem enterDeferred_settings (m : Nat) (p : Part) : (Part.enterDeferred m p).KeepsSettings p := by
  simp [Part.enterDeferred]

@[simp] theorem endDefer_settings (p : Part) : (Part.endDefer p).KeepsSettings p := by
  simp [Part.endDefer]

@[simp] theorem endHeating_settings (r : EndReason) (p : Part) : (Part.endHeating r p).KeepsSettings p := by
  simp [Part.endHeating]

@[simp] theorem endDwell_settings (p : Part) : (Part.endDwell p).KeepsSettings p := by
  unfold Part.endDwell
  dsimp only
  (repeat' split) <;> simp

@[simp] theorem writeLog_settings (r : EndReason) (t : Nat) (p : Part) : (Part.writeLog r t p).KeepsConfig p := by
  unfold Part.writeLog
  dsimp only
  (repeat' split) <;> simp

@[simp] theorem endRecover_settings (p : Part) : (Part.endRecover p).KeepsConfig p := by
  unfold Part.endRecover
  dsimp only
  (repeat' split) <;> simp

@[simp] theorem abortPrep_settings (p : Part) : (Part.abortPrep p).KeepsConfig p := by
  simp [Part.abortPrep]

@[simp] theorem writeResetRecord_settings (p : Part) : (Part.writeResetRecord p).KeepsConfig p := by
  unfold Part.writeResetRecord
  dsimp only
  (repeat' split) <;> simp

@[simp] theorem compareHeatLimit_settings (p : Part) : (Part.compareHeatLimit p).KeepsSettings p := by
  unfold Part.compareHeatLimit
  (repeat' split) <;> simp

@[simp] theorem evapReading_settings (e : Bool) (p : Part) : (Part.evapReading e p).KeepsConfig p := by
  unfold Part.evapReading
  dsimp only
  (repeat' split) <;> simp

@[simp] theorem compareWantLimit_settings (p : Part) : (Part.compareWantLimit p).KeepsSettings p := by
  unfold Part.compareWantLimit
  (repeat' split) <;> simp

@[simp] theorem clampTarget_settings (p : Part) : (Part.clampTarget p).KeepsSettings p := by
  simp [Part.clampTarget]

@[simp] theorem openLine_settings (u : LineUser) (n : TicketNo) (p : Part) : (Part.openLine u n p).KeepsSettings p := by
  unfold Part.openLine
  dsimp only
  (repeat' split) <;> simp

@[simp] theorem grantFill_settings (n : TicketNo) (p : Part) : (Part.grantFill n p).KeepsSettings p := by
  simp [Part.grantFill]

@[simp] theorem pauseLine_settings (p : Part) : (Part.pauseLine p).KeepsSettings p := by
  unfold Part.pauseLine
  dsimp only
  (repeat' split) <;> simp

@[simp] theorem resumeLine_settings (p : Part) : (Part.resumeLine p).KeepsSettings p := by
  unfold Part.resumeLine
  dsimp only
  (repeat' split) <;> simp

@[simp] theorem grantDispense_settings (n : TicketNo) (p : Part) : (Part.grantDispense n p).KeepsSettings p := by
  unfold Part.grantDispense
  dsimp only
  (repeat' split) <;> simp

@[simp] theorem endWork_settings (r : EndingReason) (p : Part) : (Part.endWork r p).KeepsSettings p := by
  unfold Part.endWork
  dsimp only
  (repeat' split) <;> simp

@[simp] theorem suspendFill_settings (n : TicketNo) (p : Part) : (Part.suspendFill n p).KeepsSettings p := by
  simp [Part.suspendFill]

@[simp] theorem resumeFill_settings (w : Work) (p : Part) : (Part.resumeFill w p).KeepsSettings p := by
  unfold Part.resumeFill
  dsimp only
  (repeat' split) <;> simp

@[simp] theorem judgeFill_settings (p : Part) : (Part.judgeFill p).KeepsSettings p := by
  unfold Part.judgeFill
  (repeat' split) <;> simp

@[simp] theorem giveLine_settings (p : Part) : (Part.giveLine p).KeepsSettings p := by
  unfold Part.giveLine
  dsimp only
  (repeat' split) <;> simp

@[simp] theorem compareOpenLimit_settings (p : Part) : (Part.compareOpenLimit p).KeepsSettings p := by
  unfold Part.compareOpenLimit
  (repeat' split) <;> simp

@[simp] theorem compareNoFlow_settings (p : Part) : (Part.compareNoFlow p).KeepsSettings p := by
  unfold Part.compareNoFlow
  dsimp only
  (repeat' split) <;> simp

/-- The judgement of the filter limits changes the filter status alone. -/
@[simp] theorem judgeFilter_totals (p : Part) :
    p.judgeFilter.line.filterMl = p.line.filterMl ∧ p.judgeFilter.line.filterRem = p.line.filterRem ∧
      p.judgeFilter.line.filterSeconds = p.line.filterSeconds ∧
      p.judgeFilter.line.leakLatch = p.line.leakLatch ∧
      p.judgeFilter.line.leakTime = p.line.leakTime := by
  unfold Part.judgeFilter
  dsimp only
  split <;> exact ⟨rfl, rfl, rfl, rfl, rfl⟩

@[simp] theorem checkTarget_settings (p : Part) : (Part.checkTarget p).KeepsSettings p := by
  unfold Part.checkTarget
  (repeat' split) <;> simp

@[simp] theorem endDryRetry_settings (p : Part) : (Part.endDryRetry p).KeepsSettings p := by
  simp [Part.endDryRetry]

/-- CLEAR_LEAK keeps all but the latch and its time (R87). -/
@[simp] theorem clearLeakLatch_settings (p : Part) :
    p.clearLeakLatch.loads.config = p.loads.config ∧ p.clearLeakLatch.line.filterMl = p.line.filterMl ∧
      p.clearLeakLatch.line.filterRem = p.line.filterRem ∧
      p.clearLeakLatch.line.filterSeconds = p.line.filterSeconds ∧
      p.clearLeakLatch.line.filterStatus = p.line.filterStatus ∧
      p.clearLeakLatch.defrost.compressorRunning = p.defrost.compressorRunning ∧
      p.clearLeakLatch.defrost.log = p.defrost.log := by
  simp [Part.clearLeakLatch]

@[simp] theorem enterIceFault_settings (p : Part) : (Part.enterIceFault p).KeepsSettings p := by
  simp [Part.enterIceFault]

@[simp] theorem enterFreezing_settings (p : Part) : (Part.enterFreezing p).KeepsSettings p := by
  simp [Part.enterFreezing]

@[simp] theorem enterFillWait_settings (p : Part) : (Part.enterFillWait p).KeepsSettings p := by
  simp [Part.enterFillWait]

@[simp] theorem enterParked_settings (p : Part) : (Part.enterParked p).KeepsSettings p := by
  simp [Part.enterParked]

@[simp] theorem homingSucceeds_settings (p : Part) : (Part.homingSucceeds p).KeepsSettings p := by
  simp [Part.homingSucceeds]

@[simp] theorem homeNow_settings (p : Part) : (Part.homeNow p).KeepsSettings p := by
  unfold Part.homeNow
  dsimp only
  (repeat' split) <;> simp

@[simp] theorem enterHoming_settings (p : Part) : (Part.enterHoming p).KeepsSettings p := by
  simp [Part.enterHoming]

@[simp] theorem endHeat_settings (m : Bool) (p : Part) : (Part.endHeat m p).KeepsSettings p := by
  simp [Part.endHeat]

@[simp] theorem compareMoldLimit_settings (p : Part) : (Part.compareMoldLimit p).KeepsSettings p := by
  unfold Part.compareMoldLimit
  (repeat' split) <;> simp

@[simp] theorem endFreeze_settings (b : Bool) (p : Part) : (Part.endFreeze b p).KeepsSettings p := by
  simp [Part.endFreeze]

@[simp] theorem takeFreeze_settings (p : Part) : (Part.takeFreeze p).KeepsSettings p := by
  unfold Part.takeFreeze
  (repeat' split) <;> simp

@[simp] theorem takeFaultFreeze_settings (p : Part) : (Part.takeFaultFreeze p).KeepsSettings p := by
  unfold Part.takeFaultFreeze
  (repeat' split) <;> simp

@[simp] theorem freezeReading_settings (p : Part) : (Part.freezeReading p).KeepsSettings p := by
  unfold Part.freezeReading
  dsimp only
  (repeat' split) <;> simp

@[simp] theorem heatReading_settings (e : Bool) (p : Part) : (Part.heatReading e p).KeepsSettings p := by
  unfold Part.heatReading
  (repeat' split) <;> simp

@[simp] theorem moldReading_settings (e : Bool) (p : Part) : (Part.moldReading e p).KeepsSettings p := by
  unfold Part.moldReading
  (repeat' split) <;> simp

@[simp] theorem afterFill_settings (o : TicketOutcome) (l : Bool) (p : Part) : (Part.afterFill o l p).KeepsSettings p := by
  unfold Part.afterFill
  (repeat' split) <;> simp

@[simp] theorem fillEnded_settings (r : EndingReason) (w : Work) (p : Part) : (Part.fillEnded r w p).KeepsSettings p := by
  unfold Part.fillEnded
  dsimp only
  (repeat' split) <;> simp

@[simp] theorem ejectSucceeds_settings (p : Part) : (Part.ejectSucceeds p).KeepsSettings p := by
  unfold Part.ejectSucceeds
  dsimp only
  (repeat' split) <;> simp

@[simp] theorem attemptSucceeds_settings (p : Part) : (Part.attemptSucceeds p).KeepsSettings p := by
  unfold Part.attemptSucceeds
  dsimp only
  (repeat' split) <;> simp

@[simp] theorem attemptFails_settings (p : Part) : (Part.attemptFails p).KeepsSettings p := by
  unfold Part.attemptFails
  dsimp only
  (repeat' split) <;> simp

@[simp] theorem homeChanged_settings (c : Contact) (p : Part) : (Part.homeChanged c p).KeepsSettings p := by
  unfold Part.homeChanged
  dsimp only
  (repeat' split) <;> simp

@[simp] theorem homeFirstRead_settings (p : Part) : (Part.homeFirstRead p).KeepsSettings p := by
  unfold Part.homeFirstRead
  (repeat' split) <;> simp

@[simp] theorem homingFails_settings (p : Part) : (Part.homingFails p).KeepsSettings p := by
  unfold Part.homingFails
  (repeat' split) <;> simp

@[simp] theorem endIceSettle_settings (p : Part) : (Part.endIceSettle p).KeepsSettings p := by
  unfold Part.endIceSettle
  dsimp only
  (repeat' split) <;> simp

@[simp] theorem enterHarvestHeat_settings (n : TicketNo) (p : Part) : (Part.enterHarvestHeat n p).KeepsSettings p := by
  simp [Part.enterHarvestHeat]

@[simp] theorem claimFill_settings (n : TicketNo) (p : Part) : (Part.claimFill n p).KeepsSettings p := by
  simp [Part.claimFill]

@[simp] theorem redraw_settings (p : Part) : (Part.redraw p).KeepsSettings p := by
  unfold Part.redraw
  split
  · split
    · exact .refl p
    · next kind _ =>
      obtain ⟨-, hline, hloads, -, -, hdefrost⟩ := draw_frame kind .iceMaker none {} p
      split
      next q hq =>
        rw [hq] at hline hloads hdefrost
        exact keepsSettings_of_eq hloads hline hdefrost
      next n q hq =>
        rw [hq] at hline hloads hdefrost
        split
        · exact (enterHarvestHeat_settings n q).trans (keepsSettings_of_eq hloads hline hdefrost)
        · exact (claimFill_settings n q).trans (keepsSettings_of_eq hloads hline hdefrost)
  · exact .refl p

@[simp] theorem parkFilling_settings (p : Part) : (Part.parkFilling p).KeepsSettings p := by
  unfold Part.parkFilling
  dsimp only
  (repeat' split) <;> simp

@[simp] theorem parkFillWait_settings (p : Part) : (Part.parkFillWait p).KeepsSettings p := by
  simp [Part.parkFillWait]

@[simp] theorem leaveClosed_settings (p : Part) : (Part.leaveClosed p).KeepsSettings p := by
  simp [Part.leaveClosed]

@[simp] theorem beginOpening_settings (p : Part) : (Part.beginOpening p).KeepsSettings p := by
  simp [Part.beginOpening]

@[simp] theorem beginClosing_settings (p : Part) : (Part.beginClosing p).KeepsSettings p := by
  simp [Part.beginClosing]

@[simp] theorem startDuct_settings (p : Part) : (Part.startDuct p).KeepsSettings p := by
  unfold Part.startDuct
  dsimp only
  (repeat' split) <;> simp

@[simp] theorem flapCloses_settings (p : Part) : (Part.flapCloses p).KeepsSettings p := by
  simp [Part.flapCloses]

@[simp] theorem enterClosing_settings (p : Part) : (Part.enterClosing p).KeepsSettings p := by
  simp [Part.enterClosing]

@[simp] theorem abandonOpening_settings (o : TicketOutcome) (p : Part) : (Part.abandonOpening o p).KeepsSettings p := by
  simp [Part.abandonOpening]

@[simp] theorem stopChuteTest_settings (o : TicketOutcome) (p : Part) : (Part.stopChuteTest o p).KeepsSettings p := by
  simp [Part.stopChuteTest]

@[simp] theorem stopDelivery_settings (o : TicketOutcome) (p : Part) : (Part.stopDelivery o p).KeepsSettings p := by
  unfold Part.stopDelivery
  (repeat' split) <;> simp

@[simp] theorem stopHead_settings (o : TicketOutcome) (p : Part) : (Part.stopHead o p).KeepsSettings p := by
  unfold Part.stopHead
  dsimp only
  (repeat' split) <;> simp

@[simp] theorem claimDispense_settings (n : TicketNo) (p : Part) : (Part.claimDispense n p).KeepsSettings p := by
  unfold Part.claimDispense
  dsimp only
  (repeat' split) <;> simp

@[simp] theorem startWater_settings (n : TicketNo) (p : Part) : (Part.startWater n p).KeepsSettings p := by
  unfold Part.startWater
  dsimp only
  (repeat' split) <;> simp

@[simp] theorem startFlap_settings (n : TicketNo) (p : Part) : (Part.startFlap n p).KeepsSettings p := by
  unfold Part.startFlap
  dsimp only
  (repeat' split) <;> simp

@[simp] theorem startHead_settings (n : TicketNo) (b : Bool) (p : Part) : (Part.startHead n b p).KeepsSettings p := by
  unfold Part.startHead
  dsimp only
  (repeat' split) <;> simp

@[simp] theorem startOne_settings (pr : Option Paddle) (p : Part) : (Part.startOne pr p).KeepsSettings p := by
  unfold Part.startOne
  (repeat' split) <;> simp

@[simp] theorem startUpTo_settings (k : Nat) (p : Part) : (Part.startUpTo k p).KeepsSettings p := by
  induction k generalizing p with
  | zero => exact .refl p
  | succ k ih =>
    unfold Part.startUpTo
    split
    · exact (ih _).trans (startOne_settings none p)
    · exact .refl p

@[simp] theorem startHeads_settings (p : Part) : (Part.startHeads p).KeepsSettings p :=
  startUpTo_settings _ p

@[simp] theorem paddleDraw_settings (pad : Paddle) (p : Part) : (Part.paddleDraw pad p).KeepsSettings p := by
  obtain ⟨-, hline, hloads, -, -, hdefrost⟩ := draw_frame (paddleKind pad) .paddle none (p.paddleRequest pad) p
  unfold Part.paddleDraw
  split
  next q hq =>
    rw [hq] at hline hloads hdefrost
    exact keepsSettings_of_eq hloads hline hdefrost
  next n q hq =>
    rw [hq] at hline hloads hdefrost
    exact (startOne_settings none _).trans (keepsSettings_of_eq hloads hline hdefrost)

@[simp] theorem judgePress_settings (pad : Paddle) (p : Part) : (Part.judgePress pad p).KeepsSettings p := by
  unfold Part.judgePress
  (repeat' split) <;> simp

@[simp] theorem judgeRelease_settings (pad : Paddle) (p : Part) : (Part.judgeRelease pad p).KeepsSettings p := by
  unfold Part.judgeRelease
  (repeat' split) <;> simp

@[simp] theorem openingFails_settings (p : Part) : (Part.openingFails p).KeepsSettings p := by
  simp [Part.openingFails]

@[simp] theorem flapFalls_settings (p : Part) : (Part.flapFalls p).KeepsSettings p := by
  unfold Part.flapFalls
  (repeat' split) <;> simp

@[simp] theorem flapChanged_settings (c : Contact) (p : Part) : (Part.flapChanged c p).KeepsSettings p := by
  unfold Part.flapChanged
  dsimp only
  (repeat' split) <;> simp

@[simp] theorem flapFirstRead_settings (p : Part) : (Part.flapFirstRead p).KeepsSettings p := by
  unfold Part.flapFirstRead
  (repeat' split) <;> simp

@[simp] theorem judgeClosing_settings (p : Part) : (Part.judgeClosing p).KeepsSettings p := by
  unfold Part.judgeClosing
  dsimp only
  (repeat' split) <;> simp

@[simp] theorem doorOpens_settings (p : Part) : (Part.doorOpens p).KeepsSettings p := by
  unfold Part.doorOpens
  dsimp only
  (repeat' split) <;> simp

@[simp] theorem resumeHead_settings (p : Part) : (Part.resumeHead p).KeepsSettings p := by
  unfold Part.resumeHead
  dsimp only
  (repeat' split) <;> simp

@[simp] theorem doorCloses_settings (p : Part) : (Part.doorCloses p).KeepsSettings p := by
  unfold Part.doorCloses
  dsimp only
  (repeat' split) <;> simp

@[simp] theorem pauseOver_settings (p : Part) : (Part.pauseOver p).KeepsSettings p := by
  unfold Part.pauseOver
  (repeat' split) <;> simp

@[simp] theorem cancelQueued_settings (n : TicketNo) (o : TicketOutcome) (p : Part) :
    (Part.cancelQueued n o p).KeepsSettings p := by
  unfold Part.cancelQueued
  (repeat' split) <;> simp

@[simp] theorem loseLink_settings (n : TicketNo) (p : Part) : (p.loseLink n).KeepsSettings p := by
  unfold Part.loseLink
  (repeat' split) <;> simp

@[simp] theorem loseQueue_settings (p : Part) : (Part.loseQueue p).KeepsSettings p := by
  unfold Part.loseQueue
  generalize p.pool.queue = l
  induction l generalizing p with
  | nil => exact .refl p
  | cons n l ih => exact (ih _).trans (loseLink_settings n p)

@[simp] theorem settle_settings (p : Part) : (Part.settle p).KeepsSettings p := by
  simp [Part.settle]

@[simp] theorem reportWork_settings (p : Part) : (Part.reportWork p).KeepsSettings p := by
  unfold Part.reportWork
  (repeat' split) <;> simp

@[simp] theorem endLineSettle_settings (p : Part) : (Part.endLineSettle p).KeepsSettings p := by
  simp [Part.endLineSettle]

@[simp] theorem handReading_settings (ch : ChannelNo) (e : Bool) (p : Part) : (Part.handReading ch e p).KeepsConfig p := by
  unfold Part.handReading
  (repeat' split) <;> simp

@[simp] theorem handClass_settings (c : CurveClass) (p : Part) : (Part.handClass c p).KeepsConfig p := by
  unfold Part.handClass
  generalize List.filter _ _ = l
  induction l generalizing p with
  | nil => exact .refl p
  | cons n l ih => exact (ih _).trans (handReading_settings n false p)

@[simp] theorem endServiceTest_settings (o : TicketOutcome) (p : Part) : (Part.endServiceTest o p).KeepsSettings p := by
  unfold Part.endServiceTest
  (repeat' split) <;> simp

@[simp] theorem endDuct_settings (p : Part) : (Part.endDuct p).KeepsSettings p := by
  simp [Part.endDuct]

@[simp] theorem judgeGrant_settings (p : Part) : (Part.judgeGrant p).KeepsSettings p := by
  unfold Part.judgeGrant
  (repeat' split) <;> simp

@[simp] theorem judgeResume_settings (p : Part) : (Part.judgeResume p).KeepsSettings p := by
  unfold Part.judgeResume
  (repeat' split) <;> simp

@[simp] theorem startHeaterTest_settings (h : HeaterNo) (p : Part) : (p.startHeaterTest h).KeepsSettings p := by
  refine ⟨⟨config_raiseTest p.loads h, ?_⟩, rfl⟩
  simp

end Sys2Proof.Machine

namespace Sys2Proof.Machine

/-! What an event leaves as it was (O52's list). The settle and the jobs keep more (`Part.Keeps`, `Part.KeepsSettings`); here
are the operations that touch the Sense Unit, Supervision or the link. -/

/-- What no event changes, outside the loads. -/
@[simp] abbrev Part.KeepsBasics (q p : Part) : Prop :=
  q.resetting = p.resetting ∧ q.supervision.params = p.supervision.params ∧ q.supervision.lock = p.supervision.lock ∧
    q.sense.curveA = p.sense.curveA ∧ q.sense.curveB = p.sense.curveB ∧ q.link.mask = p.link.mask ∧
    q.link.inbox = p.link.inbox ∧ q.link.executing = p.link.executing ∧
    q.defrost.compressorRunning = p.defrost.compressorRunning

/-- What an event leaves as it was that is neither an advance nor a flow pulse. -/
@[simp] abbrev Part.EventKeeps (q p : Part) : Prop :=
  q.KeepsBasics p ∧ q.loads.config = p.loads.config ∧ q.line.KeepsTotals p.line ∧
    q.clock.partSeconds = p.clock.partSeconds ∧ q.sense.flowCount = p.sense.flowCount

theorem Part.EventKeeps.refl (p : Part) : p.EventKeeps p := by simp

theorem Part.EventKeeps.trans {p q r : Part} (h : r.EventKeeps q) (g : q.EventKeeps p) : r.EventKeeps p := by
  simp_all

@[simp] theorem setPaddle_held (st : PaddleState) (pad : Paddle) (s : Sense) :
    (s.setPaddle st pad).curveA = s.curveA ∧ (s.setPaddle st pad).curveB = s.curveB ∧
      (s.setPaddle st pad).flowCount = s.flowCount := by
  cases pad <;> exact ⟨rfl, rfl, rfl⟩

@[simp] theorem tellPaddle_held (now : Nat) (st : PaddleState) (pad : Paddle) (s : Sense) :
    (s.tellPaddle now st pad).curveA = s.curveA ∧ (s.tellPaddle now st pad).curveB = s.curveB ∧
      (s.tellPaddle now st pad).flowCount = s.flowCount := by
  cases pad <;> exact ⟨rfl, rfl, rfl⟩

@[simp] theorem convertChannel_event (ch : ChannelNo) (raw : Nat) (p : Part) : (p.convertChannel ch raw).EventKeeps p := by
  unfold Part.convertChannel
  dsimp only
  (repeat' split) <;> simp

@[simp] theorem endConversion_event (raw : BitVec 16) (p : Part) : (p.endConversion raw).EventKeeps p := by
  simp [Part.endConversion]

@[simp] theorem countTach_event (p : Part) : p.countTach.EventKeeps p := by
  simp [Part.countTach]

@[simp] theorem endFlowPeriod_event (p : Part) : p.endFlowPeriod.EventKeeps p := by
  simp [Part.endFlowPeriod]

@[simp] theorem tellDoor_event (d : Door) (p : Part) : (p.tellDoor d).EventKeeps p := by
  simp [Part.tellDoor]

@[simp] theorem tellPaddle_event (pad : Paddle) (st : PaddleState) (p : Part) : (p.tellPaddle pad st).EventKeeps p := by
  simp [Part.tellPaddle]

@[simp] theorem tellHome_event (c : Contact) (p : Part) : (p.tellHome c).EventKeeps p := by
  simp [Part.tellHome]

@[simp] theorem tellFlap_event (c : Contact) (p : Part) : (p.tellFlap c).EventKeeps p := by
  simp [Part.tellFlap]

@[simp] theorem tellBeam_event (l : BeamLevel) (p : Part) : (p.tellBeam l).EventKeeps p := by
  simp [Part.tellBeam]

@[simp] theorem doorBecomes_event (d : Door) (p : Part) : (p.doorBecomes d).EventKeeps p := by
  unfold Part.doorBecomes
  dsimp only
  (repeat' split) <;> simp

@[simp] theorem paddleBecomes_event (pad : Paddle) (st : PaddleState) (p : Part) : (p.paddleBecomes pad st).EventKeeps p := by
  unfold Part.paddleBecomes
  dsimp only
  (repeat' split) <;> simp

@[simp] theorem homeBecomes_event (c : Contact) (p : Part) : (p.homeBecomes c).EventKeeps p := by
  unfold Part.homeBecomes
  dsimp only
  (repeat' split) <;> simp

@[simp] theorem flapBecomes_event (c : Contact) (p : Part) : (p.flapBecomes c).EventKeeps p := by
  unfold Part.flapBecomes
  dsimp only
  (repeat' split) <;> simp

@[simp] theorem beamBecomes_event (l : BeamLevel) (p : Part) : (p.beamBecomes l).EventKeeps p := by
  simp [Part.beamBecomes]

theorem takeDue_event {α : Type} (due : Option α) (become : α → Part → Part) (p : Part)
    (h : ∀ v, (become v p).EventKeeps p) : (takeDue due become p).EventKeeps p := by
  cases due with
  | none => exact .refl p
  | some v => exact h v

@[simp] theorem doorTold_event (d : Door) (p : Part) : (p.doorTold d).EventKeeps p :=
  (tellDoor_event d _).trans (takeDue_event _ _ p fun v => doorBecomes_event v p)

@[simp] theorem paddleTold_event (pad : Paddle) (st : PaddleState) (p : Part) : (p.paddleTold pad st).EventKeeps p :=
  (tellPaddle_event pad st _).trans (takeDue_event _ _ p fun v => paddleBecomes_event pad v p)

@[simp] theorem homeTold_event (c : Contact) (p : Part) : (p.homeTold c).EventKeeps p :=
  (tellHome_event c _).trans (takeDue_event _ _ p fun v => homeBecomes_event v p)

@[simp] theorem flapTold_event (c : Contact) (p : Part) : (p.flapTold c).EventKeeps p :=
  (tellFlap_event c _).trans (takeDue_event _ _ p fun v => flapBecomes_event v p)

@[simp] theorem beamTold_event (l : BeamLevel) (p : Part) : (p.beamTold l).EventKeeps p :=
  (tellBeam_event l _).trans (takeDue_event _ _ p fun v => beamBecomes_event v p)

@[simp] theorem firstRead_event (r : FirstReading) (p : Part) : (p.firstRead r).EventKeeps p := by
  unfold Part.firstRead
  dsimp only
  (repeat' split) <;> simp

@[simp] theorem press_event (pad : Paddle) (p : Part) : (p.press pad).EventKeeps p := by
  unfold Part.press
  dsimp only
  (repeat' split) <;> simp

@[simp] theorem unpress_event (pad : Paddle) (p : Part) : (p.unpress pad).EventKeeps p := by
  unfold Part.unpress
  dsimp only
  (repeat' split) <;> simp

@[simp] theorem doorOpening_event (p : Part) : p.doorOpening.EventKeeps p := by
  unfold Part.doorOpening
  dsimp only
  (repeat' split) <;> simp

@[simp] theorem doorClosing_event (p : Part) : p.doorClosing.EventKeeps p := by
  unfold Part.doorClosing
  dsimp only
  (repeat' split) <;> simp

@[simp] theorem homeSwitch_event (c : Contact) (p : Part) : (p.homeSwitch c).EventKeeps p := by
  unfold Part.homeSwitch
  dsimp only
  (repeat' split) <;> simp

@[simp] theorem flapSwitch_event (c : Contact) (p : Part) : (p.flapSwitch c).EventKeeps p := by
  unfold Part.flapSwitch
  dsimp only
  (repeat' split) <;> simp

@[simp] theorem beamAt_event (l : BeamLevel) (p : Part) : (p.beamAt l).EventKeeps p := by
  unfold Part.beamAt
  dsimp only
  (repeat' split) <;> simp

@[simp] theorem endLinkWork_event (p : Part) : p.endLinkWork.EventKeeps p := by
  unfold Part.endLinkWork
  (repeat' split) <;> simp

@[simp] theorem expireSilence_event (p : Part) : p.expireSilence.EventKeeps p := by
  unfold Part.expireSilence
  dsimp only
  (repeat' split) <;> simp

@[simp] theorem endGap_event (p : Part) : p.endGap.EventKeeps p := by
  simp [Part.endGap, Part.discard]

@[simp] theorem sendReply_event (f : Frame) (a : Answer) (p : Part) : (p.sendReply f a).EventKeeps p := by
  simp [Part.sendReply]

@[simp] theorem answerFresh_event (p : Part) : p.answerFresh.EventKeeps p := by
  unfold Part.answerFresh
  dsimp only
  (repeat' split) <;> simp

end Sys2Proof.Machine

namespace Sys2Proof.Machine

/-! The rows that are events (O52). -/

/-- Equal configuration of the loads, heater by heater. -/
theorem config_eq_iff (l m : Loads) :
    l.config = m.config ↔
      (∀ n : HeaterNo, l.heaters[n].accepted = m.heaters[n].accepted ∧ l.heaters[n].inForce = m.heaters[n].inForce) ∧
        l.budgetInForce = m.budgetInForce ∧ l.rotation = m.rotation ∧ l.slot = m.slot := by
  simp only [Loads.config, Prod.mk.injEq, funext_iff]

/-- A row leaves what its effect leaves, and the waiting commands. -/
theorem take_event (s t : State) (dt : Nat) (f : Part → Part) (hf : ∀ p, (f p).EventKeeps p)
    (h : s.take dt f = .next t) : t.pending = s.pending ∧ t.part.EventKeeps s.part := by
  cases h
  refine ⟨rfl, ?_⟩
  simp only [Part.take]
  split
  · exact .refl _
  · exact (hf _).trans (by simp)

theorem settle_event (p : Part) : p.settle.EventKeeps p := by simp

theorem onDue_event (due : Part → Bool) (f : Part → Part) (hf : ∀ p, (f p).EventKeeps p) (p : Part) :
    (p.onDue due f).EventKeeps p := by
  unfold Part.onDue
  split
  · exact (settle_event _).trans (hf p)
  · exact .refl p

theorem creditPulse_keeps (p : Part) :
    p.creditPulse.line.filterSeconds = p.line.filterSeconds := by
  unfold Part.creditPulse Part.leakPulse Part.setLeakLatch
  dsimp only
  (repeat' split) <;> simp

theorem filterPulse_keeps (p : Part) : p.filterPulse.line.filterSeconds = p.line.filterSeconds := by
  unfold Part.filterPulse Part.judgeFilter
  dsimp only
  (repeat' split) <;> simp

/-- A flow pulse changes the pulse count, the filter volume and the leak latch, and no setting besides (R44, R68). -/
theorem flowPulse_keeps (p : Part) :
    let q := p.countFlow.filterPulse.creditPulse.settle
    q.KeepsBasics p ∧ q.loads.config = p.loads.config ∧ q.clock.partSeconds = p.clock.partSeconds ∧
      q.line.filterSeconds = p.line.filterSeconds := by
  have hseconds := creditPulse_keeps p.countFlow.filterPulse
  simp [hseconds, filterPulse_keeps]
  simp [Part.countFlow]

/-- A second of frost credit leaves the reported compressor state. -/
theorem frostSecond_compressor (p : Part) :
    p.frostSecond.defrost.compressorRunning = p.defrost.compressorRunning := by
  obtain ⟨hframe, -⟩ := frostSecond_spec p
  rw [hframe]

theorem slotSecond_basics (p : Part) : p.slotSecond.KeepsBasics p := by
  obtain ⟨hkeeps, -, -, -, hdefrost, -⟩ := boundary_frame p
  have hcompressor : p.slotSecond.defrost.compressorRunning = p.defrost.compressorRunning := by
    rw [Part.slotSecond, frostSecond_compressor, filterSecond_eq]
    change p.boundary.defrost.compressorRunning = _
    rw [hdefrost]
  simp only [Part.Keeps] at hkeeps
  simp only [Part.KeepsBasics, hcompressor]
  rw [Part.slotSecond, frostSecond_frame]
  simp [hkeeps]

/-- An advance brings the accepted configuration into force, and changes no setting (R52). -/
theorem advanceSecond_keeps (p : Part) :
    let q := p.advanceSecond.settle
    q.KeepsBasics p ∧ q.loads.rotation = p.loads.rotation ∧
      ∀ n : HeaterNo, q.loads.heaters[n].accepted = p.loads.heaters[n].accepted := by
  intro q
  obtain ⟨c, k, hadvance, -⟩ := advanceSecond_eq p
  let u : Part := { p with clock := c, freeCount := k }
  have hq : q = u.slotSecond.settle := congrArg Part.settle hadvance
  obtain ⟨hbasics, hconfig, -⟩ := settle_event u.slotSecond
  obtain ⟨hheaters, -, hrotation, -⟩ := (config_eq_iff _ _).1 hconfig
  obtain ⟨-, hslotRotation, -⟩ := decided_frame u
  have hslot : u.slotSecond.KeepsBasics p := slotSecond_basics u
  rw [hq]
  refine ⟨?_, ?_, fun n => (hheaters n).1.trans (slotSecond_config u n).2.1⟩
  · simp_all
  · rw [hrotation, slotSecond_loads]
    exact hslotRotation

/-- An event that is neither an advance nor a flow pulse. -/
theorem exec_event (i : Instr) (s t : State) (hhost : hostRow i = none)
    (hbytes : ∀ dt bytes, i ≠ .frameReceived dt bytes) (hsent : ∀ dt, i ≠ .replySent dt) (hon : ∀ dt, i ≠ .powerOn dt)
    (hreset : ∀ dt, i ≠ .lineReset dt) (hend : ∀ dt, i ≠ .resetEnd dt) (hadvance : ∀ dt, i ≠ .partSecondsAdvance dt)
    (hflow : ∀ dt, i ≠ .flowPulse dt) (h : exec i s = .next t) :
    t.pending = s.pending ∧ t.part.EventKeeps s.part := by
  cases i
  case frameReceived dt bytes => exact absurd rfl (hbytes dt bytes)
  case replySent dt => exact absurd rfl (hsent dt)
  case powerOn dt => exact absurd rfl (hon dt)
  case lineReset dt => exact absurd rfl (hreset dt)
  case resetEnd dt => exact absurd rfl (hend dt)
  case partSecondsAdvance dt => exact absurd rfl (hadvance dt)
  case flowPulse dt => exact absurd rfl (hflow dt)
  case readSensorsFreshReply => exact take_event s t _ _ answerFresh_event h
  case silenceExpiry => exact take_event s t _ _ (onDue_event _ _ expireSilence_event) h
  case deferTimerEnd | wantLimitReached | silentWantLimit | defrostHeatLimitExpiry | dwellEnd | recoverLimitExpiry
      | homingDeadline | minFreezeReached | faultFreezeTime | moldHeatLimitExpiry | leaveHomeDeadline
      | ejectReturnDeadline | ejectRetryTimer | iceSettleEnd | lineSettleEnd | openTimeLimit | noFlowExpiry | dryRetryEnd
      | flapOpenDeadline | flapCloseEnd | runTargetReached | runningTimeLimit | jamWindowExpiry | reverseEnd | flapHoldEnd
      | pauseTimerEnd | chuteTestHoldEnd | ductTimerEnd =>
    exact take_event s t _ _ (onDue_event _ _ fun p => by simp) h
  case gapTimeout | flowPeriodTimeout | harvestStart =>
    refine take_event s t _ _ (fun p => ?_) h
    split <;> simp
  case conversionEnd | switchFirstReading | paddlePress | paddleRelease | doorOpening | doorClosing | homeSwitchChange
      | flapSwitchChange | beamFilterChange | tachPulse | internalRedraw | lineGrant | fillResume | headStart
      | defrostHeatingStart =>
    refine take_event s t _ _ (fun p => ?_) h
    simp
  all_goals cases hhost

/-- A row that a reset lets pass, or takes by its effect after the time of the row. -/
theorem take_cases (s t : State) (dt : Nat) (f : Part → Part) (h : s.take dt f = .next t) :
    t.pending = s.pending ∧ (t.part = s.part ∨ t.part = f (s.later dt)) := by
  cases h
  refine ⟨rfl, ?_⟩
  simp only [Part.take]
  split
  · exact .inl rfl
  · exact .inr rfl

/-- Settles O52: every event keeps the settings, operation by operation; an advance and a flow pulse are taken apart. -/
theorem eventsLeaveTheSettings : Obligations.EventsLeaveTheSettings := by
  intro i s t hhost hbytes hsent hon hreset hend h
  by_cases hadvance : ∃ dt, i = .partSecondsAdvance dt
  · obtain ⟨dt, rfl⟩ := hadvance
    obtain ⟨hpending, hpart⟩ := take_cases s t dt _ h
    have hkeeps : t.part.KeepsBasics s.part ∧ t.part.loads.rotation = s.part.loads.rotation ∧
        ∀ n : HeaterNo, t.part.loads.heaters[n].accepted = s.part.loads.heaters[n].accepted := by
      rcases hpart with hpart | hpart
      · simp [hpart]
      · rw [hpart]
        exact advanceSecond_keeps (s.later dt)
    obtain ⟨⟨hres, hparams, hlock, hcurveA, hcurveB, hmask, hinbox, hexec, hcomp⟩, hrotation, haccepted⟩ := hkeeps
    exact ⟨hpending, hres, hparams, hlock, hcurveA, hcurveB, hrotation, hmask, hinbox, hexec, hcomp,
      haccepted, fun hno => absurd rfl (hno dt)⟩
  by_cases hflow : ∃ dt, i = .flowPulse dt
  · obtain ⟨dt, rfl⟩ := hflow
    obtain ⟨hpending, hpart⟩ := take_cases s t dt _ h
    have hkeeps : t.part.KeepsBasics s.part ∧ t.part.loads.config = s.part.loads.config ∧
        t.part.clock.partSeconds = s.part.clock.partSeconds ∧ t.part.line.filterSeconds = s.part.line.filterSeconds := by
      rcases hpart with hpart | hpart
      · simp [hpart]
      · rw [hpart]
        exact flowPulse_keeps (s.later dt)
    obtain ⟨⟨hres, hparams, hlock, hcurveA, hcurveB, hmask, hinbox, hexec, hcomp⟩, hconfig, hseconds, hfilter⟩ := hkeeps
    obtain ⟨hheaters, hbudget, hrotation, hslot⟩ := (config_eq_iff _ _).1 hconfig
    exact ⟨hpending, hres, hparams, hlock, hcurveA, hcurveB, hrotation, hmask, hinbox, hexec, hcomp,
      fun n => (hheaters n).1, fun _ =>
      ⟨hseconds, hslot, hbudget, fun n => (hheaters n).2, hfilter, fun hno => absurd rfl (hno dt)⟩⟩
  · obtain ⟨hpending, ⟨hres, hparams, hlock, hcurveA, hcurveB, hmask, hinbox, hexec, hcomp⟩, hconfig,
      ⟨hml, hrem, hfilter, hstatus, hlatch, -⟩, hseconds, hcount⟩ := exec_event i s t hhost hbytes hsent hon hreset hend (fun dt hi => hadvance ⟨dt, hi⟩)
        (fun dt hi => hflow ⟨dt, hi⟩) h
    obtain ⟨hheaters, hbudget, hrotation, hslot⟩ := (config_eq_iff _ _).1 hconfig
    exact ⟨hpending, hres, hparams, hlock, hcurveA, hcurveB, hrotation, hmask, hinbox, hexec, hcomp,
      fun n => (hheaters n).1, fun _ =>
      ⟨hseconds, hslot, hbudget, fun n => (hheaters n).2, hfilter, fun _ => ⟨hml, hrem, hstatus, hlatch, hcount⟩⟩⟩

end Sys2Proof.Machine

namespace Sys2Proof.Machine

/-! What a host command leaves as it was, whatever its kind (O53's list), and what each kind leaves besides its own. -/

/-- What a command of kind `k` leaves of the loads. -/
structure Loads.HostKeeps (k : Byte) (m l : Loads) : Prop where
  rotation : k ≠ 0x16 → m.rotation = l.rotation
  accepted : k ≠ 0x14 → ∀ n : HeaterNo, m.heaters[n].accepted = l.heaters[n].accepted
  budget : m.budgetInForce = l.budgetInForce
  slot : m.slot = l.slot
  inForce : ∀ n : HeaterNo, m.heaters[n].inForce = l.heaters[n].inForce

theorem Loads.hostKeeps_of_config (k : Byte) {m l : Loads} (h : m.config = l.config) : m.HostKeeps k l := by
  obtain ⟨hheaters, hbudget, hrotation, hslot⟩ := (config_eq_iff _ _).1 h
  exact ⟨fun _ => hrotation, fun _ n => (hheaters n).1, hbudget, hslot, fun n => (hheaters n).2⟩

/-- What a command of kind `k` leaves as it was. -/
structure Part.HostKeeps (k : Byte) (q p : Part) : Prop where
  clock : q.clock = p.clock
  resetting : q.resetting = p.resetting
  inbox : q.link.inbox = p.link.inbox
  log : k ≠ 0x05 → k ≠ 0x10 → k ≠ 0x12 → k ≠ 0x53 → q.defrost.log = p.defrost.log
  params : k ≠ 0x10 → q.supervision.params = p.supervision.params
  lock : k ≠ 0x17 → q.supervision.lock = p.supervision.lock
  curves : k ≠ 0x12 → q.sense.curveA = p.sense.curveA ∧ q.sense.curveB = p.sense.curveB
  mask : k ≠ 0x04 → q.link.mask = p.link.mask
  compressor : k ≠ 0x50 → q.defrost.compressorRunning = p.defrost.compressorRunning
  filter : k ≠ 0x39 → k ≠ 0x3B → q.line.filterMl = p.line.filterMl ∧ q.line.filterSeconds = p.line.filterSeconds
  leak : k ≠ 0x38 → q.line.leakLatch = p.line.leakLatch ∧ q.line.leakTime = p.line.leakTime
  scan : k ≠ 0x30 → q.sense.scan = p.sense.scan
  sense : { p.sense with scan := q.sense.scan, curveA := q.sense.curveA, curveB := q.sense.curveB } = q.sense
  loads : q.loads.HostKeeps k p.loads

/-- What every command keeps that is none of the settings in `Part.KeepsSettings` and has no setting of its own. -/
@[simp] abbrev Part.HostKeepsFixed (q p : Part) : Prop :=
  q.clock = p.clock ∧ q.resetting = p.resetting ∧ q.link.inbox = p.link.inbox ∧ q.link.mask = p.link.mask ∧
    q.supervision.params = p.supervision.params ∧ q.supervision.lock = p.supervision.lock ∧ q.sense = p.sense

/-- What a command without a setting of its own keeps. -/
structure Part.HostKeepsAll (q p : Part) : Prop where
  fixed : q.HostKeepsFixed p
  settings : q.KeepsSettings p

@[simp] theorem hostKeepsAll_iff (p q : Part) : q.HostKeepsAll p ↔ q.HostKeepsFixed p ∧ q.KeepsSettings p :=
  ⟨fun h => ⟨h.fixed, h.settings⟩, fun h => ⟨h.1, h.2⟩⟩

theorem Part.HostKeepsAll.refl (p : Part) : p.HostKeepsAll p := by simp

theorem Part.HostKeepsAll.trans {p q r : Part} (h : r.HostKeepsAll q) (g : q.HostKeepsAll p) : r.HostKeepsAll p := by
  simp_all

theorem settle_host (p : Part) : p.settle.HostKeepsAll p := by simp

/-- A command without a setting of its own keeps what any kind keeps. -/
theorem Part.HostKeepsAll.keeps {p q : Part} (h : q.HostKeepsAll p) (k : Byte) : q.HostKeeps k p := by
  obtain ⟨⟨hclock, hresetting, hinbox, hmask, hparams, hlock, hsense⟩,
    ⟨hconfig, ⟨hml, -, hseconds, -, hlatch, htime⟩, hcompressor⟩, hlog⟩ := h
  exact {
    clock := hclock, resetting := hresetting, inbox := hinbox, log := fun _ _ _ _ => hlog, params := fun _ => hparams
    lock := fun _ => hlock, curves := fun _ => by simp [hsense], mask := fun _ => hmask
    compressor := fun _ => hcompressor, filter := fun _ _ => ⟨hml, hseconds⟩, leak := fun _ => ⟨hlatch, htime⟩
    scan := fun _ => by rw [hsense], sense := by rw [hsense], loads := Loads.hostKeeps_of_config k hconfig }

/-! The commands without a setting of their own. -/

theorem takePing_host (payload : List Byte) (p : Part) : (p.takePing payload).2.HostKeepsAll p := by
  unfold Part.takePing
  split <;> exact .refl p

theorem takeStatus_host (payload : List Byte) (p : Part) : (p.takeStatus payload).2.HostKeepsAll p := by
  unfold Part.takeStatus
  split <;> exact .refl p

theorem takeReadNotices_host (payload : List Byte) (p : Part) : (p.takeReadNotices payload).2.HostKeepsAll p := by
  unfold Part.takeReadNotices
  split
  · simp
  · exact .refl p

theorem takeGetParam_host (payload : List Byte) (p : Part) : (p.takeGetParam payload).2.HostKeepsAll p := by
  unfold Part.takeGetParam
  (repeat' split) <;> exact .refl p

theorem takeGetCurve_host (payload : List Byte) (p : Part) : (p.takeGetCurve payload).2.HostKeepsAll p := by
  unfold Part.takeGetCurve
  (repeat' split) <;> exact .refl p

theorem takeGetLoads_host (payload : List Byte) (p : Part) : (p.takeGetLoads payload).2.HostKeepsAll p := by
  unfold Part.takeGetLoads
  split <;> exact .refl p

theorem takeGetTotals_host (payload : List Byte) (p : Part) : (p.takeGetTotals payload).2.HostKeepsAll p := by
  unfold Part.takeGetTotals
  split <;> exact .refl p

theorem takeDefrostLog_host (payload : List Byte) (p : Part) : (p.takeDefrostLog payload).2.HostKeepsAll p := by
  unfold Part.takeDefrostLog
  split <;> exact .refl p

theorem takePoolStatus_host (payload : List Byte) (p : Part) : (p.takePoolStatus payload).2.HostKeepsAll p := by
  unfold Part.takePoolStatus
  (repeat' split) <;> simp

theorem takeTicketInfo_host (payload : List Byte) (p : Part) : (p.takeTicketInfo payload).2.HostKeepsAll p := by
  unfold Part.takeTicketInfo
  split
  · split
    · dsimp only
      split <;> simp
    · exact .refl p
  · exact .refl p

theorem startHeaterTest_host (h : HeaterNo) (p : Part) : (p.startHeaterTest h).HostKeepsAll p :=
  ⟨by simp, startHeaterTest_settings h p⟩

theorem placeLink_host (n : TicketNo) (kind : TicketKind) (r : Request) (p : Part) :
    (p.placeLink n kind r).HostKeepsAll p := by
  unfold Part.placeLink
  dsimp only
  split
  · split
    next h _ => exact Part.HostKeepsAll.trans (startHeaterTest_host h _) (by simp)
    next => simp
  · simp

theorem draw_host (kind : TicketKind) (o : Origin) (tag : Option Byte) (r : Request) (p : Part) :
    (p.draw kind o tag r).2.HostKeepsAll p := by
  simp

theorem takeSubmit_host (tag : Byte) (payload : List Byte) (p : Part) :
    (p.takeSubmit tag payload).2.HostKeepsAll p := by
  unfold Part.takeSubmit
  split
  next =>
    split
    next => exact .refl p
    next kind r _ =>
      split
      next => exact .refl p
      next =>
        have hd := draw_host kind .link (some tag) r p
        split
        next q hq =>
          rw [hq] at hd
          exact hd
        next n q hq =>
          rw [hq] at hd
          have hplaced := (placeLink_host n kind r q).trans hd
          dsimp only
          exact (settle_host (q.placeLink n kind r)).trans hplaced
  next => exact .refl p

theorem takeCancel_host (payload : List Byte) (p : Part) : (p.takeCancel payload).2.HostKeepsAll p := by
  unfold Part.takeCancel
  split
  · split
    · dsimp only
      split
      · exact .refl p
      · rw [accept_snd]
        refine Part.HostKeepsAll.trans (settle_host _) ?_
        split <;> simp
    · exact .refl p
  · exact .refl p

theorem fetchUpTo_host (k : Nat) (p : Part) : (p.fetchUpTo k).2.HostKeepsAll p := by
  induction k generalizing p with
  | zero => exact .refl p
  | succ k ih =>
    unfold Part.fetchUpTo
    split
    next => exact .refl p
    next n rest _ => exact Part.HostKeepsAll.trans (ih _) (by simp)

theorem takeFetch_host (payload : List Byte) (p : Part) : (p.takeFetch payload).2.HostKeepsAll p := by
  unfold Part.takeFetch
  split
  next c =>
    split
    next => exact .refl p
    next =>
      dsimp only
      exact Part.HostKeepsAll.trans (settle_host _) (fetchUpTo_host c.toNat p)
  next => exact .refl p

/-- What ICE_CONTROL makes of the part where it is accepted, it settles. -/
theorem answerIce_host (taken : Option Part) (p : Part) (h : ∀ q, taken = some q → q.HostKeepsAll p) :
    (p.answerIce taken).2.HostKeepsAll p := by
  cases taken with
  | none => exact .refl p
  | some q =>
    change q.settle.HostKeepsAll p
    exact Part.HostKeepsAll.trans (settle_host q) (h q rfl)

theorem park_host (p q : Part) (h : p.park = some q) : q.HostKeepsAll p := by
  unfold Part.park at h
  (repeat' split at h) <;> cases h <;> simp

theorem runIce_host (p q : Part) (h : p.runIce = some q) : q.HostKeepsAll p := by
  unfold Part.runIce at h
  (repeat' split at h) <;> cases h <;> simp

theorem resumeIce_host (p q : Part) (h : p.resumeIce = some q) : q.HostKeepsAll p := by
  unfold Part.resumeIce at h
  split at h <;> cases h
  simp

theorem harvestNow_host (p q : Part) (h : p.harvestNow = some q) : q.HostKeepsAll p := by
  unfold Part.harvestNow at h
  split at h <;> cases h
  simp

theorem takeIceControl_host (payload : List Byte) (p : Part) : (p.takeIceControl payload).2.HostKeepsAll p := by
  unfold Part.takeIceControl
  repeat' split
  · exact answerIce_host _ p (park_host p)
  · exact answerIce_host _ p (runIce_host p)
  · exact answerIce_host _ p (resumeIce_host p)
  · exact answerIce_host _ p (harvestNow_host p)
  · exact .refl p
  · exact .refl p

/-- What a defrost command makes of the part where it is accepted, it settles. -/
theorem answerDefrost_host (taken : Option Part) (p : Part) (h : ∀ q, taken = some q → q.HostKeepsAll p) :
    (p.answerDefrost taken).2.HostKeepsAll p := by
  cases taken with
  | none => exact .refl p
  | some q =>
    change q.settle.HostKeepsAll p
    exact Part.HostKeepsAll.trans (settle_host q) (h q rfl)

theorem go_host (p q : Part) (h : p.go = some q) : q.HostKeepsAll p := by
  unfold Part.go at h
  split at h <;> cases h <;> simp

theorem defer_host (m : Nat) (p q : Part) (h : p.defer m = some q) : q.HostKeepsAll p := by
  unfold Part.defer at h
  split at h <;> cases h
  simp

theorem force_host (p q : Part) (h : p.force = some q) : q.HostKeepsAll p := by
  unfold Part.force at h
  split at h <;> cases h <;> simp

theorem takeDefrostReply_host (payload : List Byte) (p : Part) : (p.takeDefrostReply payload).2.HostKeepsAll p := by
  unfold Part.takeDefrostReply
  repeat' split
  · exact answerDefrost_host _ p (go_host p)
  · exact .refl p
  · exact answerDefrost_host _ p (defer_host _ p)
  · exact .refl p
  · exact .refl p

theorem takeDefrostForce_host (payload : List Byte) (p : Part) : (p.takeDefrostForce payload).2.HostKeepsAll p := by
  unfold Part.takeDefrostForce
  split
  · exact answerDefrost_host _ p (force_host p)
  · exact .refl p

end Sys2Proof.Machine

namespace Sys2Proof.Machine

/-! The commands with a setting of their own. -/

/-- What keeps everything may follow a command of any kind. -/
theorem Part.HostKeepsAll.after {k : Byte} {p q r : Part} (h : r.HostKeepsAll q) (g : q.HostKeeps k p) :
    r.HostKeeps k p := by
  obtain ⟨⟨hclock, hresetting, hinbox, hmask, hparams, hlock, hsense⟩,
    ⟨hconfig, ⟨hml, -, hseconds, -, hlatch, htime⟩, hcompressor⟩, hlog⟩ := h
  have hloads := Loads.hostKeeps_of_config k hconfig
  exact {
    clock := hclock.trans g.clock, resetting := hresetting.trans g.resetting, inbox := hinbox.trans g.inbox
    log := fun h1 h2 h3 h4 => hlog.trans (g.log h1 h2 h3 h4), params := fun h => hparams.symm ▸ g.params h
    lock := fun h => hlock.trans (g.lock h), curves := fun h => by rw [hsense]; exact g.curves h
    mask := fun h => hmask.trans (g.mask h), compressor := fun h => hcompressor.trans (g.compressor h)
    filter := fun h1 h2 => by rw [hml, hseconds]; exact g.filter h1 h2
    leak := fun h => by rw [hlatch, htime]; exact g.leak h
    scan := fun h => by rw [hsense]; exact g.scan h, sense := by rw [hsense]; exact g.sense
    loads :=
      { rotation := fun h => (hloads.rotation h).trans (g.loads.rotation h)
        accepted := fun h n => (hloads.accepted h n).trans (g.loads.accepted h n)
        budget := hloads.budget.trans g.loads.budget, slot := hloads.slot.trans g.loads.slot
        inForce := fun n => (hloads.inForce n).trans (g.loads.inForce n) } }

/-- A refusal keeps everything. -/
theorem Part.HostKeeps.refl (k : Byte) (p : Part) : p.HostKeeps k p := (Part.HostKeepsAll.refl p).keeps k

theorem takeSetNoticeMask_host (payload : List Byte) (p : Part) : (p.takeSetNoticeMask payload).2.HostKeeps 0x04 p := by
  unfold Part.takeSetNoticeMask
  split
  · split
    · exact .refl _ p
    · constructor
      case loads => exact Loads.hostKeeps_of_config _ rfl
      all_goals simp
  · exact .refl _ p

theorem takeRestart_host (payload : List Byte) (p : Part) : (p.takeRestart payload).2.HostKeeps 0x05 p := by
  unfold Part.takeRestart
  split
  · constructor
    case loads => exact Loads.hostKeeps_of_config _ (by simp)
    all_goals simp
  · exact .refl _ p

theorem takeLockLimits_host (payload : List Byte) (p : Part) : (p.takeLockLimits payload).2.HostKeeps 0x17 p := by
  unfold Part.takeLockLimits
  split
  · constructor
    case loads => exact Loads.hostKeeps_of_config _ rfl
    all_goals simp
  · exact .refl _ p

theorem takeFilterReset_host (payload : List Byte) (p : Part) : (p.takeFilterReset payload).2.HostKeeps 0x39 p := by
  unfold Part.takeFilterReset
  split
  · constructor
    case loads => exact Loads.hostKeeps_of_config _ rfl
    all_goals simp
  · exact .refl _ p

theorem takeSetRotation_host (payload : List Byte) (p : Part) : (p.takeSetRotation payload).2.HostKeeps 0x16 p := by
  unfold Part.takeSetRotation
  split
  · split
    · constructor
      case loads => exact ⟨fun h => absurd rfl h, fun _ _ => rfl, rfl, rfl, fun _ => rfl⟩
      all_goals simp
    · exact .refl _ p
  · exact .refl _ p

/-- An accepted configuration is not in force before the next boundary (R60). -/
theorem update_accepted_host (l : Loads) (n : HeaterNo) (c : HeaterConfig) :
    (l.update n fun r => { r with accepted := c }).HostKeeps 0x14 l := by
  refine ⟨fun _ => rfl, fun h => absurd rfl h, rfl, rfl, fun m => ?_⟩
  rw [heaters_update]
  split
  next h => rw [h]
  next => rfl

theorem takeSetLoad_host (payload : List Byte) (p : Part) : (p.takeSetLoad payload).2.HostKeeps 0x14 p := by
  unfold Part.takeSetLoad
  split
  · split
    · dsimp only
      split
      · exact .refl _ p
      · constructor
        case loads => exact update_accepted_host p.loads _ _
        all_goals simp
    · exact .refl _ p
  · exact .refl _ p

theorem takeReadSensors_host (payload : List Byte) (p : Part) : (p.takeReadSensors payload).2.HostKeeps 0x30 p := by
  have hspend : p.spendFree.HostKeepsAll p := by simp
  unfold Part.takeReadSensors
  split
  · split
    · exact .refl _ p
    · split
      · constructor
        case loads => exact Loads.hostKeeps_of_config _ rfl
        all_goals simp
      · exact hspend.keeps _
  · exact .refl _ p

theorem clearLeakLatch_host (p : Part) : p.clearLeakLatch.HostKeeps 0x38 p := by
  constructor
  case loads => exact Loads.hostKeeps_of_config _ (by simp)
  all_goals simp

theorem takeClearLeak_host (payload : List Byte) (p : Part) : (p.takeClearLeak payload).2.HostKeeps 0x38 p := by
  unfold Part.takeClearLeak
  split
  · rw [accept_snd]
    exact Part.HostKeepsAll.after (settle_host _) (clearLeakLatch_host p)
  · exact .refl _ p

theorem takeRestoreTotals_host (payload : List Byte) (p : Part) :
    (p.takeRestoreTotals payload).2.HostKeeps 0x3B p := by
  unfold Part.takeRestoreTotals
  split
  next v3 v2 v1 v0 s3 s2 s1 s0 c1 c0 =>
    dsimp only
    rw [accept_snd]
    refine Part.HostKeepsAll.after (settle_host _) ?_
    generalize read32 v3 v2 v1 v0 = ml
    generalize read32 s3 s2 s1 s0 = seconds
    generalize read16 c1 c0 = credit
    constructor
    case loads => exact Loads.hostKeeps_of_config _ (by simp)
    all_goals simp
  next => exact .refl _ p

theorem setCompressor_host (running : Bool) (p : Part) : (p.setCompressor running).HostKeeps 0x50 p := by
  unfold Part.setCompressor
  dsimp only
  constructor
  case loads => exact Loads.hostKeeps_of_config _ (by split <;> simp)
  all_goals split <;> simp

theorem takeCompressor_host (payload : List Byte) (p : Part) : (p.takeCompressor payload).2.HostKeeps 0x50 p := by
  unfold Part.takeCompressor
  repeat' split
  · exact setCompressor_host false p
  · exact setCompressor_host true p
  · exact .refl _ p
  · exact .refl _ p

theorem abort_host (p q : Part) (h : p.abort = some q) : q.HostKeeps 0x53 p := by
  have hheating : (p.endHeating .aborted).HostKeepsAll p := by simp
  unfold Part.abort at h
  split at h <;> cases h
  · constructor
    case loads => exact Loads.hostKeeps_of_config _ (by simp)
    all_goals simp
  · exact hheating.keeps _

theorem takeDefrostAbort_host (payload : List Byte) (p : Part) :
    (p.takeDefrostAbort payload).2.HostKeeps 0x53 p := by
  unfold Part.takeDefrostAbort
  split
  · cases ha : p.abort with
    | none => exact .refl _ p
    | some q =>
      have hq := abort_host p q ha
      exact (settle_host q).after hq
  · exact .refl _ p

/-- A curve table replaced leaves the rest of the Sense Unit (R37). -/
theorem setCurve_eq (c : CurveClass) (t : List CurvePoint) (s : Sense) :
    s.setCurve c t = { s with curveA := (s.setCurve c t).curveA, curveB := (s.setCurve c t).curveB } := by
  cases c <;> rfl

theorem handClass_host (c : CurveClass) (t : List CurvePoint) (p : Part) :
    (Part.handClass c { p with sense := p.sense.setCurve c t }).HostKeeps 0x12 p := by
  obtain ⟨hconfig, -, -⟩ := handClass_settings c { p with sense := p.sense.setCurve c t }
  obtain ⟨⟨-, -, hsense, -⟩, -⟩ := handClass_frame c { p with sense := p.sense.setCurve c t }
  constructor
  case loads => exact Loads.hostKeeps_of_config _ hconfig
  case scan =>
    rw [hsense, setCurve_eq]
    exact fun _ => rfl
  case sense =>
    rw [hsense, setCurve_eq]
  all_goals simp

theorem takeLoadCurve_host (payload : List Byte) (p : Part) : (p.takeLoadCurve payload).2.HostKeeps 0x12 p := by
  unfold Part.takeLoadCurve
  split
  · split
    · exact .refl _ p
    · split
      · exact .refl _ p
      · split
        · exact .refl _ p
        · split
          · rw [accept_snd]
            exact Part.HostKeepsAll.after (settle_host _) (handClass_host _ _ p)
          · exact .refl _ p
  · exact .refl _ p

/-! SET_PARAM: the new value, and what its owner makes of it (R177). -/

/-- What the owner of a parameter keeps that takes its new value; it may write the log, at the end of a recovery. -/
@[simp] abbrev Part.ParamKeeps (q p : Part) : Prop :=
  q.clock = p.clock ∧ q.resetting = p.resetting ∧ q.link.inbox = p.link.inbox ∧ q.link.mask = p.link.mask ∧
    q.supervision.lock = p.supervision.lock ∧ q.sense = p.sense ∧ q.loads.config = p.loads.config ∧
    q.line.filterMl = p.line.filterMl ∧ q.line.filterSeconds = p.line.filterSeconds ∧
    q.line.leakLatch = p.line.leakLatch ∧ q.line.leakTime = p.line.leakTime ∧
    q.defrost.compressorRunning = p.defrost.compressorRunning

/-- An expiry of the silence timer ends the LINK work (R182). -/
@[simp] theorem endLinkWork_param (p : Part) : p.endLinkWork.ParamKeeps p := by
  unfold Part.endLinkWork
  split <;> simp

@[simp] theorem compareSilence_param (p : Part) : p.compareSilence.ParamKeeps p := by
  unfold Part.compareSilence Part.expireSilence
  dsimp only
  (repeat' split) <;> simp

theorem paramChanged_param (k : Param) (p : Part) : (p.paramChanged k).ParamKeeps p := by
  unfold Part.paramChanged
  split <;> simp

theorem takeParam_host {p q : Part} (h : q.ParamKeeps p) : q.HostKeeps 0x10 p := by
  obtain ⟨hclock, hresetting, hinbox, hmask, hlock, hsense, hconfig, hml, hseconds, hlatch, htime, hcompressor⟩ := h
  constructor
  case loads => exact Loads.hostKeeps_of_config _ hconfig
  all_goals simp [*]

theorem acceptParam_host (k : Param) (v : Int) (p : Part) : (p.acceptParam k v).HostKeeps 0x10 p :=
  takeParam_host (paramChanged_param k { p with supervision.params := p.supervision.params.set v k })

theorem takeSetParam_host (payload : List Byte) (p : Part) : (p.takeSetParam payload).2.HostKeeps 0x10 p := by
  unfold Part.takeSetParam
  split
  · split
    · exact .refl _ p
    · split
      · exact .refl _ p
      · dsimp only
        exact Part.HostKeepsAll.after (settle_host _) (acceptParam_host _ _ p)
  · exact .refl _ p

end Sys2Proof.Machine

namespace Sys2Proof.Machine

/-! The kind table, and the row (O53). -/

/-- One line of the kind table: the owner of the kind keeps what its kind keeps. -/
theorem ite_host {k : Byte} {f : Frame} {p : Part} {a b : Option Answer × Part} (ha : a.2.HostKeeps k p)
    (hb : b.2.HostKeeps f.kind p) : (if f.kind = k then a else b).2.HostKeeps f.kind p := by
  split
  next h =>
    rw [h]
    exact ha
  next => exact hb

theorem takeKind_host (f : Frame) (p : Part) : (Part.takeKind f p).2.HostKeeps f.kind p := by
  unfold Part.takeKind
  exact ite_host ((takePing_host _ p).keeps _) <| ite_host ((takeStatus_host _ p).keeps _) <|
    ite_host ((takeReadNotices_host _ p).keeps _) <| ite_host (takeSetNoticeMask_host _ p) <|
    ite_host (takeRestart_host _ p) <| ite_host (takeSetParam_host _ p) <|
    ite_host ((takeGetParam_host _ p).keeps _) <| ite_host (takeLoadCurve_host _ p) <|
    ite_host ((takeGetCurve_host _ p).keeps _) <| ite_host (takeSetLoad_host _ p) <|
    ite_host ((takeGetLoads_host _ p).keeps _) <| ite_host (takeSetRotation_host _ p) <|
    ite_host (takeLockLimits_host _ p) <| ite_host ((takeSubmit_host _ _ p).keeps _) <|
    ite_host ((takeCancel_host _ p).keeps _) <| ite_host ((takeFetch_host _ p).keeps _) <|
    ite_host ((takeTicketInfo_host _ p).keeps _) <| ite_host ((takePoolStatus_host _ p).keeps _) <|
    ite_host (takeReadSensors_host _ p) <| ite_host (takeClearLeak_host _ p) <|
    ite_host (takeFilterReset_host _ p) <| ite_host ((takeGetTotals_host _ p).keeps _) <|
    ite_host (takeRestoreTotals_host _ p) <| ite_host ((takeIceControl_host _ p).keeps _) <|
    ite_host (takeCompressor_host _ p) <| ite_host ((takeDefrostReply_host _ p).keeps _) <|
    ite_host ((takeDefrostForce_host _ p).keeps _) <| ite_host (takeDefrostAbort_host _ p) <|
    ite_host ((takeDefrostLog_host _ p).keeps _) <| .refl _ p

/-- The reply is none of the settings. -/
theorem sendReply_host (f : Frame) (a : Answer) (p : Part) : (p.sendReply f a).HostKeepsAll p := by
  simp [Part.sendReply]

/-- The taking of a frame on an idle link, and its execution. -/
theorem execute_host (f : Frame) (p : Part) : (Part.execute f p).HostKeeps f.kind p := by
  have htaken : (Part.takeKind f { p with link.executing := some f }).2.HostKeeps f.kind p :=
    { takeKind_host f { p with link.executing := some f } with }
  unfold Part.execute
  generalize Part.takeKind f { p with link.executing := some f } = r at htaken ⊢
  obtain ⟨_ | a, q⟩ := r
  · exact htaken
  · exact (sendReply_host f a q).after htaken

/-- A well-formed host command's frame can be taken (R193). -/
theorem hostRow_fits (i : Instr) (dt : Nat) (f : Frame) (h : hostRow i = some (dt, f)) (hw : i.wellFormed = true) :
    f.payload.length ≤ 64 := by
  have hpayload := payload_of_wellFormed i hw
  cases i <;> simp only [hostRow, Option.some.injEq, Prod.mk.injEq, reduceCtorEq] at h <;>
    obtain ⟨rfl, rfl⟩ := h
  case iceControlPark | iceControlRun | iceControlResume | iceControlHarvestNow | defrostReplyGo | defrostReplyDefer =>
    simp
  all_goals exact hpayload

/-- Settles O53: the owner of each kind keeps the settings that are not its own, and the link's part of a command none. -/
theorem hostCommandsChangeTheirOwn : Obligations.HostCommandsChangeTheirOwn := by
  intro i s t dt f hrow hw hidle h
  have hbecomes := becomes_execute i s dt f hidle hrow (hostRow_fits i dt f hrow hw)
  obtain ⟨hresetting, hinbox, -⟩ := hidle
  obtain rfl : t = { s with part := Part.execute f (s.later dt).reloadSilence } :=
    Host.Outcome.next.inj (h.symm.trans hbecomes)
  have hk := execute_host f (s.later dt).reloadSilence
  exact ⟨rfl, hk.clock, hk.resetting.trans hresetting, hk.inbox.trans hinbox, hk.log, hk.params, hk.lock, hk.curves,
    hk.loads.rotation, hk.loads.accepted, hk.mask, hk.compressor, hk.filter, hk.leak, hk.scan,
    (congrArg Sense.channels hk.sense).symm, hk.sense, hk.loads.budget, hk.loads.slot, hk.loads.inForce⟩

end Sys2Proof.Machine

namespace Sys2Proof.Machine

/-! R66 through the jobs: an operation that moves the valves opens one user's valve with the inlet for that user as
owner, or closes all three; every other operation leaves the valves and the owner. -/

/-- With every valve closed the owner does not matter. -/
theorem valvesSafe_of_shut (l : Line) (hinlet : l.inlet = false) (hfill : l.moldFill = false)
    (hdispense : l.dispense = false) : l.valvesSafe := by
  simp [Line.valvesSafe, hinlet, hfill, hdispense]

/-- A grant or a resumption opens the user's valve and the inlet, and no other valve. -/
@[simp] theorem openFor_valvesSafe (u : LineUser) (l : Line) : (l.openFor u).valvesSafe := by
  cases u <;> simp [Line.valvesSafe, Line.openFor]

@[simp] theorem toSettle_valvesSafe (now : Nat) (u : LineUser) (r : Option EndingReason) (l : Line) :
    (l.toSettle now u r).valvesSafe :=
  valvesSafe_of_shut _ rfl rfl rfl

@[simp] theorem toIdle_valvesSafe (l : Line) : l.toIdle.valvesSafe := valvesSafe_of_shut _ rfl rfl rfl

@[simp] theorem afterReset_valvesSafe (l : Line) : l.afterReset.valvesSafe := valvesSafe_of_shut _ rfl rfl rfl

section
variable {p : Part}

/-! The line itself. -/

@[simp] theorem openLine_valvesSafe (u : LineUser) (n : TicketNo) : (p.openLine u n).line.valvesSafe :=
  openFor_valvesSafe u p.line

@[simp] theorem grantFill_valvesSafe (n : TicketNo) : (p.grantFill n).line.valvesSafe :=
  openLine_valvesSafe .fill n

@[simp] theorem pauseLine_valvesSafe (h : p.line.valvesSafe) : p.pauseLine.line.valvesSafe := by
  unfold Part.pauseLine
  split
  · exact valvesSafe_of_shut _ rfl rfl rfl
  · exact h

@[simp] theorem resumeLine_valvesSafe (h : p.line.valvesSafe) : p.resumeLine.line.valvesSafe := by
  unfold Part.resumeLine
  split
  · exact openFor_valvesSafe .dispense p.line
  · exact h

@[simp] theorem grantDispense_valvesSafe (n : TicketNo) : (p.grantDispense n).line.valvesSafe := by
  unfold Part.grantDispense
  dsimp only
  split
  · exact pauseLine_valvesSafe (by simp)
  · simp

@[simp] theorem endWork_valvesSafe (r : EndingReason) (h : p.line.valvesSafe) : (p.endWork r).line.valvesSafe := by
  unfold Part.endWork
  split
  case h_1 u _ _ | h_2 u _ _ =>
    rw [(tellEnding_frame _ _ _).2.1]
    exact toSettle_valvesSafe p.clock.now u (some r) p.line
  case h_3 => exact h

@[simp] theorem suspendFill_valvesSafe (n : TicketNo) : (p.suspendFill n).line.valvesSafe :=
  toSettle_valvesSafe p.clock.now .fill none p.line

@[simp] theorem resumeFill_valvesSafe (w : Work) : (p.resumeFill w).line.valvesSafe := by
  unfold Part.resumeFill
  split
  · rw [(tellEnding_frame _ _ _).2.1]
    exact toSettle_valvesSafe p.clock.now .fill (some .target) p.line
  · exact openFor_valvesSafe .fill p.line

@[simp] theorem judgeFill_valvesSafe (h : p.line.valvesSafe) : p.judgeFill.line.valvesSafe := by
  unfold Part.judgeFill
  (repeat' split) <;> simp [h]

@[simp] theorem giveLine_valvesSafe : p.giveLine.line.valvesSafe := by
  unfold Part.giveLine
  dsimp only
  split
  · simp
  · exact judgeFill_valvesSafe (toIdle_valvesSafe p.line)

@[simp] theorem compareOpenLimit_valvesSafe (h : p.line.valvesSafe) : p.compareOpenLimit.line.valvesSafe := by
  unfold Part.compareOpenLimit
  split <;> simp [h]

@[simp] theorem compareNoFlow_valvesSafe (h : p.line.valvesSafe) : p.compareNoFlow.line.valvesSafe := by
  unfold Part.compareNoFlow
  split
  · exact endWork_valvesSafe .noWater h
  · exact h

@[simp] theorem judgeFilter_valvesSafe (h : p.line.valvesSafe) : p.judgeFilter.line.valvesSafe := by
  rw [judgeFilter_line]
  exact h

@[simp] theorem filterPulse_valvesSafe (h : p.line.valvesSafe) : p.filterPulse.line.valvesSafe :=
  judgeFilter_valvesSafe h

@[simp] theorem filterSecond_valvesSafe (h : p.line.valvesSafe) : p.filterSecond.line.valvesSafe :=
  judgeFilter_valvesSafe h

@[simp] theorem leakPulse_valvesSafe (h : p.line.valvesSafe) : p.leakPulse.line.valvesSafe := by
  unfold Part.leakPulse
  dsimp only
  split <;> exact h

@[simp] theorem checkTarget_valvesSafe (h : p.line.valvesSafe) : p.checkTarget.line.valvesSafe := by
  rcases checkTarget_cases p with hc | hc <;> rw [hc]
  · exact h
  · exact endWork_valvesSafe .target h

@[simp] theorem creditPulse_valvesSafe (h : p.line.valvesSafe) : p.creditPulse.line.valvesSafe := by
  unfold Part.creditPulse
  split
  · exact checkTarget_valvesSafe h
  · exact checkTarget_valvesSafe h
  · split <;> exact h
  · split
    · exact h
    · exact leakPulse_valvesSafe h

@[simp] theorem endDryRetry_valvesSafe (h : p.line.valvesSafe) : p.endDryRetry.line.valvesSafe := judgeFill_valvesSafe h

@[simp] theorem clearLeakLatch_valvesSafe (h : p.line.valvesSafe) : p.clearLeakLatch.line.valvesSafe :=
  judgeFill_valvesSafe h

@[simp] theorem judgeGrant_valvesSafe (h : p.line.valvesSafe) : p.judgeGrant.line.valvesSafe := by
  unfold Part.judgeGrant
  split <;> simp [h]

@[simp] theorem judgeResume_valvesSafe (h : p.line.valvesSafe) : p.judgeResume.line.valvesSafe := by
  unfold Part.judgeResume
  (repeat' split) <;> simp [h]

/-! The ice maker. -/

@[simp] theorem redraw_valvesSafe (h : p.line.valvesSafe) : p.redraw.line.valvesSafe := by
  unfold Part.redraw
  split
  next =>
    split
    next => exact h
    next kind _ =>
      obtain ⟨-, hline, -⟩ := draw_frame kind .iceMaker none {} p
      split
      next q hq =>
        rw [hq] at hline
        exact hline ▸ h
      next n q hq =>
        rw [hq] at hline
        have hdrawn : q.line.valvesSafe := hline ▸ h
        split
        · rw [(enterHarvestHeat_frame n q).2.1]
          exact hdrawn
        · exact hdrawn
  next => exact h

@[simp] theorem parkFilling_valvesSafe (h : p.line.valvesSafe) : p.parkFilling.line.valvesSafe := by
  unfold Part.parkFilling
  dsimp only
  split
  · rw [(fillEnded_frame _ _ _).2.1]
    exact h
  · split
    · exact endWork_valvesSafe (.release .parked) h
    · exact h

@[simp] theorem parkFillWait_valvesSafe (h : p.line.valvesSafe) : p.parkFillWait.line.valvesSafe := by
  rw [Part.parkFillWait, (finishSlot_frame _ _ _).2.1, (enterParked_frame _).2.1]
  exact h

theorem park_valvesSafe (q : Part) (hq : p.park = some q) (h : p.line.valvesSafe) : q.line.valvesSafe := by
  unfold Part.park at hq
  (repeat' split at hq) <;> cases hq <;> simp [h]

theorem runIce_valvesSafe (q : Part) (hq : p.runIce = some q) (h : p.line.valvesSafe) : q.line.valvesSafe := by
  unfold Part.runIce at hq
  (repeat' split at hq) <;> cases hq <;> simp [h]

/-! The outlet. -/

@[simp] theorem stopDelivery_valvesSafe (o : TicketOutcome) (h : p.line.valvesSafe) :
    (p.stopDelivery o).line.valvesSafe := by
  unfold Part.stopDelivery
  (repeat' split) <;> simp [h]

@[simp] theorem stopHead_valvesSafe (o : TicketOutcome) (h : p.line.valvesSafe) : (p.stopHead o).line.valvesSafe := by
  unfold Part.stopHead
  split
  · rw [(finishUnstarted_frame _ _).2.1]
    exact h
  all_goals simp [h]

@[simp] theorem claimDispense_valvesSafe (n : TicketNo) (h : p.line.valvesSafe) :
    (p.claimDispense n).line.valvesSafe := by
  unfold Part.claimDispense
  split
  · simpa using h
  · split
    · simp
    · simp
    · exact h

@[simp] theorem startHead_valvesSafe (n : TicketNo) (byPaddle : Bool) (h : p.line.valvesSafe) :
    (p.startHead n byPaddle).line.valvesSafe := by
  unfold Part.startHead Part.startWater
  dsimp only
  (repeat' split) <;> simp [h]

@[simp] theorem startOne_valvesSafe (press : Option Paddle) (h : p.line.valvesSafe) :
    (p.startOne press).line.valvesSafe := by
  unfold Part.startOne
  (repeat' split) <;> simp [h]

@[simp] theorem startUpTo_valvesSafe (k : Nat) (h : p.line.valvesSafe) : (p.startUpTo k).line.valvesSafe := by
  induction k generalizing p with
  | zero => exact h
  | succ k ih =>
    unfold Part.startUpTo
    split
    · exact ih (startOne_valvesSafe none h)
    · exact h

@[simp] theorem startHeads_valvesSafe (h : p.line.valvesSafe) : p.startHeads.line.valvesSafe := startUpTo_valvesSafe 8 h

@[simp] theorem paddleDraw_valvesSafe (pad : Paddle) (h : p.line.valvesSafe) : (p.paddleDraw pad).line.valvesSafe := by
  obtain ⟨-, hline, -⟩ := draw_frame (paddleKind pad) .paddle none (p.paddleRequest pad) p
  unfold Part.paddleDraw
  split
  next q hq =>
    rw [hq] at hline
    exact hline ▸ h
  next n q hq =>
    rw [hq] at hline
    exact startOne_valvesSafe none (hline ▸ h)

@[simp] theorem judgePress_valvesSafe (pad : Paddle) (h : p.line.valvesSafe) : (p.judgePress pad).line.valvesSafe := by
  unfold Part.judgePress
  (repeat' split) <;> simp [h]

@[simp] theorem judgeRelease_valvesSafe (pad : Paddle) (h : p.line.valvesSafe) :
    (p.judgeRelease pad).line.valvesSafe := by
  unfold Part.judgeRelease
  split <;> simp [h]

@[simp] theorem doorOpens_valvesSafe (h : p.line.valvesSafe) : p.doorOpens.line.valvesSafe := by
  unfold Part.doorOpens
  (repeat' split) <;> simp [h]

@[simp] theorem resumeHead_valvesSafe (h : p.line.valvesSafe) : p.resumeHead.line.valvesSafe := by
  unfold Part.resumeHead
  (repeat' split) <;> simp [h]

@[simp] theorem doorCloses_valvesSafe (h : p.line.valvesSafe) : p.doorCloses.line.valvesSafe := by
  unfold Part.doorCloses
  dsimp only
  (repeat' split) <;> simp [h]

@[simp] theorem cancelQueued_valvesSafe (n : TicketNo) (o : TicketOutcome) (h : p.line.valvesSafe) :
    (p.cancelQueued n o).line.valvesSafe := by
  unfold Part.cancelQueued
  split <;> simp [h]

@[simp] theorem loseLink_valvesSafe (n : TicketNo) (h : p.line.valvesSafe) : (p.loseLink n).line.valvesSafe := by
  unfold Part.loseLink
  split <;> simp [h]

@[simp] theorem loseQueue_valvesSafe (h : p.line.valvesSafe) : p.loseQueue.line.valvesSafe := by
  unfold Part.loseQueue
  generalize p.pool.queue = l
  induction l generalizing p with
  | nil => exact h
  | cons n l ih => exact ih (loseLink_valvesSafe n h)

/-! What follows at once, and the ends of the line's work. -/

@[simp] theorem settle_valvesSafe (h : p.line.valvesSafe) : p.settle.line.valvesSafe := by
  have hheads : p.startHeads.compareTarget.prepWait.line.valvesSafe := by simp [h]
  exact judgeFill_valvesSafe (redraw_valvesSafe hheads)

@[simp] theorem endLineSettle_valvesSafe : p.endLineSettle.line.valvesSafe := giveLine_valvesSafe

/-! The inputs, the seconds and the silence timer. -/

theorem doorBecomes_valvesSafe (d : Door) (h : p.line.valvesSafe) : (p.doorBecomes d).line.valvesSafe := by
  unfold Part.doorBecomes
  dsimp only
  split <;> simp [h]

theorem paddleBecomes_valvesSafe (pad : Paddle) (st : PaddleState) (h : p.line.valvesSafe) :
    (p.paddleBecomes pad st).line.valvesSafe := by
  unfold Part.paddleBecomes
  dsimp only
  split <;> simp [h]

theorem homeBecomes_valvesSafe (c : Contact) (h : p.line.valvesSafe) : (p.homeBecomes c).line.valvesSafe := by
  unfold Part.homeBecomes
  dsimp only
  split <;> simp [h]

theorem flapBecomes_valvesSafe (c : Contact) (h : p.line.valvesSafe) : (p.flapBecomes c).line.valvesSafe := by
  unfold Part.flapBecomes
  dsimp only
  split <;> simp [h]

theorem beamBecomes_valvesSafe (l : BeamLevel) (h : p.line.valvesSafe) : (p.beamBecomes l).line.valvesSafe := by
  simpa [Part.beamBecomes] using h

/-- A row of an input tells its level, and lets the change follow that the level or the one before it has earned. -/
theorem Input.row_valvesSafe {α : Type} [DecidableEq α] (u : Input α) (takes : Option α → Prop)
    [DecidablePred takes] (v : α) (htell : ∀ v p, (u.tell v p).line = p.line)
    (hbecome : ∀ v (p : Part), p.line.valvesSafe → (u.become v p).line.valvesSafe) (h : p.line.valvesSafe) :
    (u.row takes v p).line.valvesSafe := by
  have htold : (u.told v p).line.valvesSafe := by
    rw [Input.told, htell]
    cases u.due p with
    | none => exact h
    | some w => exact hbecome w p h
  unfold Input.row
  split
  · exact hbecome v _ htold
  · exact htold

@[simp] theorem doorRow_valvesSafe (takes : Option Door → Prop) [DecidablePred takes] (d : Door)
    (h : p.line.valvesSafe) : (doorInput.row takes d p).line.valvesSafe :=
  doorInput.row_valvesSafe takes d (fun _ _ => rfl) (fun v _ => doorBecomes_valvesSafe v) h

@[simp] theorem paddleRow_valvesSafe (pad : Paddle) (takes : Option PaddleState → Prop) [DecidablePred takes]
    (st : PaddleState) (h : p.line.valvesSafe) : ((paddleInput pad).row takes st p).line.valvesSafe :=
  (paddleInput pad).row_valvesSafe takes st (fun _ _ => rfl) (fun v _ => paddleBecomes_valvesSafe pad v) h

@[simp] theorem homeRow_valvesSafe (takes : Option Contact → Prop) [DecidablePred takes] (c : Contact)
    (h : p.line.valvesSafe) : (homeInput.row takes c p).line.valvesSafe :=
  homeInput.row_valvesSafe takes c (fun _ _ => rfl) (fun v _ => homeBecomes_valvesSafe v) h

@[simp] theorem flapRow_valvesSafe (takes : Option Contact → Prop) [DecidablePred takes] (c : Contact)
    (h : p.line.valvesSafe) : (flapInput.row takes c p).line.valvesSafe :=
  flapInput.row_valvesSafe takes c (fun _ _ => rfl) (fun v _ => flapBecomes_valvesSafe v) h

@[simp] theorem beamRow_valvesSafe (takes : Option BeamLevel → Prop) [DecidablePred takes] (l : BeamLevel)
    (h : p.line.valvesSafe) : (beamInput.row takes l p).line.valvesSafe :=
  beamInput.row_valvesSafe takes l (fun _ _ => rfl) (fun v _ => beamBecomes_valvesSafe v) h

@[simp] theorem firstRead_valvesSafe (r : FirstReading) (h : p.line.valvesSafe) : (p.firstRead r).line.valvesSafe := by
  cases r with
  | door d => exact doorRow_valvesSafe (· = none) d h
  | paddle pad st => exact paddleRow_valvesSafe pad (· = none) st h
  | home c => exact homeRow_valvesSafe (· = none) c h
  | flap c => exact flapRow_valvesSafe (· = none) c h

/-- The end of a conversion hands on a reading, which leaves the line. -/
theorem endConversion_line (raw : BitVec 16) : (p.endConversion raw).line = p.line := by
  have hconvert (ch : ChannelNo) (count : Nat) (q : Part) : (q.convertChannel ch count).line = q.line := by
    unfold Part.convertChannel
    dsimp only
    split <;> simp
  simp [Part.endConversion, hconvert]

@[simp] theorem advanceSecond_valvesSafe (h : p.line.valvesSafe) : p.advanceSecond.line.valvesSafe := by
  obtain ⟨c, k, hadvance, -⟩ := advanceSecond_eq p
  let u : Part := { p with clock := c, freeCount := k }
  have hboundary : u.boundary.line = p.line := (boundary_frame u).2.1
  have hline : p.advanceSecond.line = u.boundary.filterSecond.line := by
    rw [hadvance, Part.slotSecond, frostSecond_frame]
  rw [hline]
  exact filterSecond_valvesSafe (hboundary ▸ h)

@[simp] theorem endLinkWork_valvesSafe (h : p.line.valvesSafe) : p.endLinkWork.line.valvesSafe := by
  unfold Part.endLinkWork
  split <;> simp [h]

@[simp] theorem expireSilence_valvesSafe (h : p.line.valvesSafe) : p.expireSilence.line.valvesSafe := by
  obtain ⟨-, -, -, hline, -⟩ := expireSilence_blocks p
  rw [hline]
  exact endLinkWork_valvesSafe (p := p.silenced) h

@[simp] theorem compareSilence_valvesSafe (h : p.line.valvesSafe) : p.compareSilence.line.valvesSafe := by
  unfold Part.compareSilence
  split
  · exact expireSilence_valvesSafe h
  · exact h

/-! The owners of the command kinds. -/

/-- An accepted parameter acts at once: on the open time and the no-flow window, on the silence timer, or away from the
valves. -/
theorem paramChanged_valvesSafe (k : Param) (h : p.line.valvesSafe) : (p.paramChanged k).line.valvesSafe := by
  cases k
  case silenceLimit => exact compareSilence_valvesSafe h
  case fillOpenLimit => exact compareOpenLimit_valvesSafe h
  case dispenseOpenLimit =>
    have hline : p.compareOpenLimit.compareRunning.line = p.compareOpenLimit.line := by simp
    exact hline ▸ compareOpenLimit_valvesSafe h
  case noFlowWindow => exact compareNoFlow_valvesSafe h
  case filterLimitL | filterLimitDays => exact judgeFilter_valvesSafe h
  case binCapacity | harvestTemp | freezeHold | minFreeze | moldHeatLimit | defrostMinH | defrostMaxH | defrostStartH
      | defrostHeatLimit | wantLimit | channelClass =>
    simpa [Part.paramChanged] using h
  all_goals exact h

theorem takeSetParam_valvesSafe (payload : List Byte) (h : p.line.valvesSafe) :
    (p.takeSetParam payload).2.line.valvesSafe := by
  unfold Part.takeSetParam
  split
  · split
    · exact h
    next k _ =>
      split
      · exact h
      · dsimp only
        exact settle_valvesSafe (paramChanged_valvesSafe k h)
  · exact h

theorem takeLoadCurve_valvesSafe (payload : List Byte) (h : p.line.valvesSafe) :
    (p.takeLoadCurve payload).2.line.valvesSafe := by
  have hclass (cls : CurveClass) (q : Part) : (q.handClass cls).line = q.line := by simp
  unfold Part.takeLoadCurve
  split
  · split
    · exact h
    · split
      · exact h
      · split
        · exact h
        next cls _ =>
          split
          · rw [accept_snd]
            exact settle_valvesSafe (by rw [hclass]; exact h)
          · exact h
  · exact h

theorem placeLink_line (n : TicketNo) (kind : TicketKind) (r : Request) : (p.placeLink n kind r).line = p.line := by
  unfold Part.placeLink
  dsimp only
  (repeat' split) <;> simp

theorem takeSubmit_valvesSafe (tag : Byte) (payload : List Byte) (h : p.line.valvesSafe) :
    (p.takeSubmit tag payload).2.line.valvesSafe := by
  unfold Part.takeSubmit
  split
  next =>
    split
    next => exact h
    next kind r _ =>
      obtain ⟨-, hline, -⟩ := draw_frame kind .link (some tag) r p
      split
      next => exact h
      next =>
        split
        next q hq =>
          rw [hq] at hline
          exact hline ▸ h
        next n q hq =>
          rw [hq] at hline
          dsimp only
          exact settle_valvesSafe (by rw [placeLink_line]; exact hline ▸ h)
  next => exact h

theorem takeCancel_valvesSafe (payload : List Byte) (h : p.line.valvesSafe) :
    (p.takeCancel payload).2.line.valvesSafe := by
  unfold Part.takeCancel
  split
  · split
    · dsimp only
      split
      · exact h
      · rw [accept_snd]
        refine settle_valvesSafe ?_
        split
        · exact cancelQueued_valvesSafe _ .cancelled h
        · simpa using h
    · exact h
  · exact h

theorem fetchUpTo_line (k : Nat) : (p.fetchUpTo k).2.line = p.line := by
  induction k generalizing p with
  | zero => rfl
  | succ k ih =>
    unfold Part.fetchUpTo
    split
    next => rfl
    next n rest _ => rw [ih, (joinFree_frame _ _).2.1]

theorem takeFetch_valvesSafe (payload : List Byte) (h : p.line.valvesSafe) :
    (p.takeFetch payload).2.line.valvesSafe := by
  unfold Part.takeFetch
  split
  · split
    · exact h
    · dsimp only
      exact settle_valvesSafe (by rw [fetchUpTo_line]; exact h)
  · exact h

theorem takeClearLeak_valvesSafe (payload : List Byte) (h : p.line.valvesSafe) :
    (p.takeClearLeak payload).2.line.valvesSafe := by
  unfold Part.takeClearLeak
  split
  · rw [accept_snd]
    exact settle_valvesSafe (clearLeakLatch_valvesSafe h)
  · exact h

theorem takeRestoreTotals_valvesSafe (payload : List Byte) (h : p.line.valvesSafe) :
    (p.takeRestoreTotals payload).2.line.valvesSafe := by
  unfold Part.takeRestoreTotals
  split
  · rw [accept_snd]
    refine settle_valvesSafe ?_
    rw [(compareTarget_frame _).2.1]
    exact judgeFilter_valvesSafe h
  · exact h

theorem answerIce_valvesSafe (taken : Option Part) (htaken : ∀ q, taken = some q → q.line.valvesSafe)
    (h : p.line.valvesSafe) : (p.answerIce taken).2.line.valvesSafe := by
  cases taken with
  | none => exact h
  | some q =>
    dsimp only [Part.answerIce]
    exact settle_valvesSafe (htaken q rfl)

theorem resumeIce_line (q : Part) (hq : p.resumeIce = some q) : q.line = p.line := by
  unfold Part.resumeIce at hq
  split at hq <;> cases hq
  exact (enterHoming_frame p).2.1

theorem harvestNow_line (q : Part) (hq : p.harvestNow = some q) : q.line = p.line := by
  unfold Part.harvestNow at hq
  split at hq <;> cases hq
  exact (endFreeze_frame false p).2.1

theorem takeIceControl_valvesSafe (payload : List Byte) (h : p.line.valvesSafe) :
    (p.takeIceControl payload).2.line.valvesSafe := by
  unfold Part.takeIceControl
  repeat' split
  · exact answerIce_valvesSafe _ (fun q hq => park_valvesSafe q hq h) h
  · exact answerIce_valvesSafe _ (fun q hq => runIce_valvesSafe q hq h) h
  · exact answerIce_valvesSafe _ (fun q hq => resumeIce_line q hq ▸ h) h
  · exact answerIce_valvesSafe _ (fun q hq => harvestNow_line q hq ▸ h) h
  · exact h
  · exact h

theorem answerDefrost_valvesSafe (taken : Option Part) (htaken : ∀ q, taken = some q → q.line = p.line)
    (h : p.line.valvesSafe) : (p.answerDefrost taken).2.line.valvesSafe := by
  cases taken with
  | none => exact h
  | some q =>
    dsimp only [Part.answerDefrost]
    exact settle_valvesSafe (htaken q rfl ▸ h)

theorem go_line (q : Part) (hq : p.go = some q) : q.line = p.line := by
  unfold Part.go at hq
  split at hq <;> cases hq <;> exact (enterPrep_frame false false p).2.1

theorem defer_line (m : Nat) (q : Part) (hq : p.defer m = some q) : q.line = p.line := by
  unfold Part.defer at hq
  split at hq <;> cases hq
  exact (enterDeferred_frame m p).2.1

theorem force_line (q : Part) (hq : p.force = some q) : q.line = p.line := by
  unfold Part.force at hq
  split at hq <;> cases hq <;> exact (enterPrep_frame true false p).2.1

theorem abort_line (q : Part) (hq : p.abort = some q) : q.line = p.line := by
  unfold Part.abort at hq
  split at hq <;> cases hq
  · exact (abortPrep_frame p).2.1
  · exact (endHeating_frame .aborted p).2.1

theorem takeDefrostReply_valvesSafe (payload : List Byte) (h : p.line.valvesSafe) :
    (p.takeDefrostReply payload).2.line.valvesSafe := by
  unfold Part.takeDefrostReply
  repeat' split
  · exact answerDefrost_valvesSafe _ go_line h
  · exact h
  · exact answerDefrost_valvesSafe _ (defer_line _) h
  · exact h
  · exact h

theorem takeDefrostForce_valvesSafe (payload : List Byte) (h : p.line.valvesSafe) :
    (p.takeDefrostForce payload).2.line.valvesSafe := by
  unfold Part.takeDefrostForce
  split
  · exact answerDefrost_valvesSafe _ force_line h
  · exact h

theorem takeDefrostAbort_valvesSafe (payload : List Byte) (h : p.line.valvesSafe) :
    (p.takeDefrostAbort payload).2.line.valvesSafe := by
  unfold Part.takeDefrostAbort
  split
  · exact answerDefrost_valvesSafe _ abort_line h
  · exact h

theorem takeCompressor_valvesSafe (payload : List Byte) (h : p.line.valvesSafe) :
    (p.takeCompressor payload).2.line.valvesSafe := by
  have hset (running : Bool) : (p.setCompressor running).line = p.line := by
    unfold Part.setCompressor
    dsimp only
    split <;> simp
  unfold Part.takeCompressor
  (repeat' split) <;> simpa [hset, Part.refuseDefrost] using h

theorem takeRestart_valvesSafe (payload : List Byte) (h : p.line.valvesSafe) :
    (p.takeRestart payload).2.line.valvesSafe := by
  unfold Part.takeRestart
  split <;> simpa using h

theorem takeSetLoad_valvesSafe (payload : List Byte) (h : p.line.valvesSafe) :
    (p.takeSetLoad payload).2.line.valvesSafe := by
  unfold Part.takeSetLoad
  split
  · split
    · dsimp only
      split <;> exact h
    · exact h
  · exact h

theorem takeTicketInfo_valvesSafe (payload : List Byte) (h : p.line.valvesSafe) :
    (p.takeTicketInfo payload).2.line.valvesSafe := by
  unfold Part.takeTicketInfo
  split
  · split
    · dsimp only
      split <;> exact h
    · exact h
  · exact h

/-! The Link Port. -/

theorem ite_snd_valvesSafe {c : Prop} [Decidable c] {a b : Option Answer × Part} (ha : a.2.line.valvesSafe)
    (hb : b.2.line.valvesSafe) : (if c then a else b).2.line.valvesSafe := by
  split
  · exact ha
  · exact hb

/-- Thirteen kinds leave the line as it was, a filter reset sets its totals alone, and the others are above. -/
theorem takeKind_valvesSafe (f : Frame) (h : p.line.valvesSafe) : (p.takeKind f).2.line.valvesSafe := by
  have hping : (p.takePing f.payload).2.line = p.line := by unfold Part.takePing; split <;> rfl
  have hstatus : (p.takeStatus f.payload).2.line = p.line := by unfold Part.takeStatus; split <;> rfl
  have hnotices : (p.takeReadNotices f.payload).2.line = p.line := by
    unfold Part.takeReadNotices; (repeat' split) <;> rfl
  have hmask : (p.takeSetNoticeMask f.payload).2.line = p.line := by
    unfold Part.takeSetNoticeMask; (repeat' split) <;> rfl
  have hparam : (p.takeGetParam f.payload).2.line = p.line := by unfold Part.takeGetParam; (repeat' split) <;> rfl
  have hcurve : (p.takeGetCurve f.payload).2.line = p.line := by unfold Part.takeGetCurve; (repeat' split) <;> rfl
  have hloads : (p.takeGetLoads f.payload).2.line = p.line := by unfold Part.takeGetLoads; split <;> rfl
  have hrotation : (p.takeSetRotation f.payload).2.line = p.line := by
    unfold Part.takeSetRotation; (repeat' split) <;> rfl
  have hlock : (p.takeLockLimits f.payload).2.line = p.line := by unfold Part.takeLockLimits; split <;> rfl
  have hpool : (p.takePoolStatus f.payload).2.line = p.line := by unfold Part.takePoolStatus; (repeat' split) <;> rfl
  have hsensors : (p.takeReadSensors f.payload).2.line = p.line := by
    unfold Part.takeReadSensors; (repeat' split) <;> rfl
  have hfilter : (p.takeFilterReset f.payload).2.line.valvesSafe := by
    unfold Part.takeFilterReset; split <;> exact h
  have htotals : (p.takeGetTotals f.payload).2.line = p.line := by unfold Part.takeGetTotals; split <;> rfl
  have hlog : (p.takeDefrostLog f.payload).2.line = p.line := by unfold Part.takeDefrostLog; split <;> rfl
  unfold Part.takeKind
  exact ite_snd_valvesSafe (hping ▸ h) <| ite_snd_valvesSafe (hstatus ▸ h) <| ite_snd_valvesSafe (hnotices ▸ h) <|
    ite_snd_valvesSafe (hmask ▸ h) <| ite_snd_valvesSafe (takeRestart_valvesSafe _ h) <|
    ite_snd_valvesSafe (takeSetParam_valvesSafe _ h) <| ite_snd_valvesSafe (hparam ▸ h) <|
    ite_snd_valvesSafe (takeLoadCurve_valvesSafe _ h) <| ite_snd_valvesSafe (hcurve ▸ h) <|
    ite_snd_valvesSafe (takeSetLoad_valvesSafe _ h) <| ite_snd_valvesSafe (hloads ▸ h) <|
    ite_snd_valvesSafe (hrotation ▸ h) <| ite_snd_valvesSafe (hlock ▸ h) <|
    ite_snd_valvesSafe (takeSubmit_valvesSafe _ _ h) <| ite_snd_valvesSafe (takeCancel_valvesSafe _ h) <|
    ite_snd_valvesSafe (takeFetch_valvesSafe _ h) <| ite_snd_valvesSafe (takeTicketInfo_valvesSafe _ h) <|
    ite_snd_valvesSafe (hpool ▸ h) <| ite_snd_valvesSafe (hsensors ▸ h) <|
    ite_snd_valvesSafe (takeClearLeak_valvesSafe _ h) <| ite_snd_valvesSafe hfilter <|
    ite_snd_valvesSafe (htotals ▸ h) <| ite_snd_valvesSafe (takeRestoreTotals_valvesSafe _ h) <|
    ite_snd_valvesSafe (takeIceControl_valvesSafe _ h) <| ite_snd_valvesSafe (takeCompressor_valvesSafe _ h) <|
    ite_snd_valvesSafe (takeDefrostReply_valvesSafe _ h) <| ite_snd_valvesSafe (takeDefrostForce_valvesSafe _ h) <|
    ite_snd_valvesSafe (takeDefrostAbort_valvesSafe _ h) <| ite_snd_valvesSafe (hlog ▸ h) h

theorem execute_valvesSafe (f : Frame) (h : p.line.valvesSafe) : (p.execute f).line.valvesSafe := by
  have ht : (Part.takeKind f { p with link.executing := some f }).2.line.valvesSafe := takeKind_valvesSafe f h
  unfold Part.execute
  generalize Part.takeKind f { p with link.executing := some f } = a at ht ⊢
  rcases a with ⟨_ | a, q⟩
  · exact ht
  · exact ht

theorem beginNext_valvesSafe (h : p.line.valvesSafe) : p.beginNext.line.valvesSafe := by
  unfold Part.beginNext
  split
  next f rest _ _ => exact execute_valvesSafe f h
  next => exact h

theorem discard_line (e : LinkError) : (p.discard e).line = p.line := (notify_frame .linkError _).2.1

theorem takeFrame_valvesSafe (f : Frame) (h : p.line.valvesSafe) : (p.takeFrame f).line.valvesSafe := by
  unfold Part.takeFrame
  split
  · exact discard_line (p := p) .overrun ▸ h
  · exact beginNext_valvesSafe h

theorem hostFrame_valvesSafe (f : Frame) (h : p.line.valvesSafe) : (p.hostFrame f).line.valvesSafe := by
  unfold Part.hostFrame
  split
  · exact discard_line (p := p) .length ▸ h
  · exact takeFrame_valvesSafe f h

theorem checkFrame_valvesSafe (bytes : List Byte) (h : p.line.valvesSafe) : (p.checkFrame bytes).line.valvesSafe := by
  unfold Part.checkFrame
  split
  · split
    · exact takeFrame_valvesSafe _ h
    · exact discard_line (p := p) .check ▸ h
  · exact discard_line (p := p) .check ▸ h

theorem gather_valvesSafe (bytes : List Byte) (b : Byte) (h : p.line.valvesSafe) :
    (p.gather bytes b).line.valvesSafe := by
  unfold Part.gather
  dsimp only
  split
  · rw [discard_line]
    exact h
  · split
    · exact checkFrame_valvesSafe _ h
    · exact h

theorem endGap_valvesSafe (h : p.line.valvesSafe) : p.endGap.line.valvesSafe := by
  rw [Part.endGap, discard_line]
  exact h

theorem receive_valvesSafe (b : Byte) (h : p.line.valvesSafe) : (p.receive b).line.valvesSafe := by
  have hgap : (if p.gapOver then p.endGap else p).line.valvesSafe := by
    split
    · exact endGap_valvesSafe h
    · exact h
  unfold Part.receive
  dsimp only
  split
  · split <;> exact hgap
  · exact gather_valvesSafe _ b hgap

theorem receiveAll_valvesSafe (bytes : List Byte) (h : p.line.valvesSafe) : (p.receiveAll bytes).line.valvesSafe := by
  unfold Part.receiveAll
  induction bytes generalizing p with
  | nil => exact h
  | cons b bytes ih => exact ih (receive_valvesSafe b h)

theorem answerFresh_line : p.answerFresh.line = p.line := by
  unfold Part.answerFresh
  split <;> rfl

/-! The resets: every valve is shut. -/

theorem beginReset_valvesSafe (k : ResetKind) : (p.beginReset k).line.valvesSafe := by
  cases k with
  | powerOn => exact valvesSafe_of_shut _ rfl rfl rfl
  | lineReset => exact afterReset_valvesSafe p.line
  | restart => exact afterReset_valvesSafe p.line

theorem endReset_line : p.endReset.line = p.line := by
  unfold Part.endReset
  dsimp only
  rw [(compareTarget_frame _).2.1, (homeNow_frame _).2.1]

theorem replyEnds_valvesSafe (h : p.line.valvesSafe) : p.replyEnds.line.valvesSafe := by
  unfold Part.replyEnds
  split
  · exact h
  · split
    · exact beginReset_valvesSafe .restart
    · exact beginNext_valvesSafe h

theorem onDue_valvesSafe (due : Part → Bool) (f : Part → Part)
    (hf : ∀ p : Part, p.line.valvesSafe → (f p).line.valvesSafe) (h : p.line.valvesSafe) :
    (p.onDue due f).line.valvesSafe := by
  unfold Part.onDue
  split
  · exact settle_valvesSafe (hf p h)
  · exact h

end

/-! The rows and the step. -/

theorem take_valvesSafe {s t : State} {dt : Nat} {f : Part → Part} (h : s.take dt f = .next t)
    (hs : s.part.line.valvesSafe) (hf : ∀ p : Part, p.line.valvesSafe → (f p).line.valvesSafe) :
    t.part.line.valvesSafe := by
  obtain ⟨-, hpart | hpart⟩ := take_cases s t dt f h
  · rw [hpart]
    exact hs
  · rw [hpart]
    exact hf (s.later dt) hs

theorem flowRow_valvesSafe {p : Part} (h : p.line.valvesSafe) :
    p.countFlow.filterPulse.creditPulse.settle.line.valvesSafe :=
  settle_valvesSafe (creditPulse_valvesSafe (filterPulse_valvesSafe h))

theorem exec_valvesSafe (i : Instr) (s t : State) (hs : s.part.line.valvesSafe) (h : exec i s = .next t) :
    t.part.line.valvesSafe := by
  cases hr : hostRow i with
  | some r =>
    rw [exec_hostRow i s r.1 r.2 hr] at h
    exact take_valvesSafe h hs fun _ => hostFrame_valvesSafe r.2
  | none =>
    cases i
    case powerOn => cases h; exact beginReset_valvesSafe .powerOn
    case lineReset => cases h; exact beginReset_valvesSafe .lineReset
    case resetEnd dt =>
      cases h
      dsimp only
      split
      · rw [endReset_line]; exact hs
      · exact hs
    case readSensorsFreshReply =>
      exact take_valvesSafe h hs fun p hp => by rw [answerFresh_line]; exact hp
    case frameReceived bytes => exact take_valvesSafe h hs fun _ => receiveAll_valvesSafe bytes
    case replySent => exact take_valvesSafe h hs fun _ => replyEnds_valvesSafe
    case lineSettleEnd =>
      exact take_valvesSafe h hs fun _ => onDue_valvesSafe _ _ fun _ _ => endLineSettle_valvesSafe
    case openTimeLimit =>
      exact take_valvesSafe h hs fun _ => onDue_valvesSafe _ _ fun _ => endWork_valvesSafe .timeout
    case noFlowExpiry =>
      exact take_valvesSafe h hs fun _ => onDue_valvesSafe _ _ fun _ => compareNoFlow_valvesSafe
    case dryRetryEnd =>
      exact take_valvesSafe h hs fun _ => onDue_valvesSafe _ _ fun _ => endDryRetry_valvesSafe
    case pauseTimerEnd =>
      exact take_valvesSafe h hs fun _ => onDue_valvesSafe _ _ fun _ => stopDelivery_valvesSafe .doorOpen
    case silenceExpiry =>
      exact take_valvesSafe h hs fun _ => onDue_valvesSafe _ _ fun _ => expireSilence_valvesSafe
    case lineGrant =>
      exact take_valvesSafe h hs fun _ hp => settle_valvesSafe (judgeGrant_valvesSafe hp)
    case fillResume =>
      exact take_valvesSafe h hs fun _ hp => settle_valvesSafe (judgeResume_valvesSafe hp)
    case gapTimeout =>
      refine take_valvesSafe h hs (fun p hp => ?_)
      split
      · exact endGap_valvesSafe hp
      · exact hp
    case flowPeriodTimeout =>
      refine take_valvesSafe h hs (fun p hp => ?_)
      split <;> exact hp
    case harvestStart =>
      refine take_valvesSafe h hs (fun p hp => ?_)
      split
      · exact settle_valvesSafe (redraw_valvesSafe hp)
      · exact hp
    case internalRedraw =>
      exact take_valvesSafe h hs fun _ hp => settle_valvesSafe (redraw_valvesSafe hp)
    case headStart =>
      exact take_valvesSafe h hs fun _ hp => settle_valvesSafe (startOne_valvesSafe none hp)
    case partSecondsAdvance =>
      exact take_valvesSafe h hs fun _ hp => settle_valvesSafe (advanceSecond_valvesSafe hp)
    case conversionEnd raw =>
      refine take_valvesSafe h hs fun p hp => ?_
      rw [answerFresh_line]
      exact settle_valvesSafe (endConversion_line (p := p) raw ▸ hp)
    case switchFirstReading reading =>
      exact take_valvesSafe h hs fun _ hp => settle_valvesSafe (firstRead_valvesSafe reading hp)
    case paddlePress pad =>
      exact take_valvesSafe ((exec_paddlePress s _ pad).symm.trans h) hs fun _ hp =>
        settle_valvesSafe (paddleRow_valvesSafe pad _ .pressed hp)
    case paddleRelease pad =>
      exact take_valvesSafe ((exec_paddleRelease s _ pad).symm.trans h) hs fun _ hp =>
        settle_valvesSafe (paddleRow_valvesSafe pad _ .released hp)
    case doorOpening =>
      exact take_valvesSafe ((exec_doorOpening s _).symm.trans h) hs fun _ hp =>
        settle_valvesSafe (doorRow_valvesSafe _ .opened hp)
    case doorClosing =>
      exact take_valvesSafe ((exec_doorClosing s _).symm.trans h) hs fun _ hp =>
        settle_valvesSafe (doorRow_valvesSafe _ .closed hp)
    case homeSwitchChange c =>
      exact take_valvesSafe ((exec_homeSwitch s _ c).symm.trans h) hs fun _ hp =>
        settle_valvesSafe (homeRow_valvesSafe _ c hp)
    case flapSwitchChange c =>
      exact take_valvesSafe ((exec_flapSwitch s _ c).symm.trans h) hs fun _ hp =>
        settle_valvesSafe (flapRow_valvesSafe _ c hp)
    case beamFilterChange l =>
      exact take_valvesSafe ((exec_beam s _ l).symm.trans h) hs fun _ hp =>
        settle_valvesSafe (beamRow_valvesSafe _ l hp)
    case flowPulse =>
      exact take_valvesSafe h hs fun _ => flowRow_valvesSafe
    case tachPulse =>
      exact take_valvesSafe h hs fun p hp => by simpa using hp
    case defrostHeatingStart =>
      exact take_valvesSafe h hs fun p hp => settle_valvesSafe ((prepWait_frame p).2.1 ▸ hp)
    case deferTimerEnd | wantLimitReached | silentWantLimit | defrostHeatLimitExpiry | dwellEnd | recoverLimitExpiry
        | homingDeadline | minFreezeReached | faultFreezeTime | moldHeatLimitExpiry | leaveHomeDeadline
        | ejectReturnDeadline | ejectRetryTimer | iceSettleEnd | flapOpenDeadline | flapCloseEnd | runTargetReached
        | runningTimeLimit | jamWindowExpiry | reverseEnd | flapHoldEnd | chuteTestHoldEnd | ductTimerEnd =>
      exact take_valvesSafe h hs fun _ => onDue_valvesSafe _ _ fun p hp => by simpa using hp
    all_goals cases hr

/-- Settles O54: every row keeps R66, operation by operation, and a tick leaves the valves. -/
theorem valvesStaySafe : Obligations.ValvesStaySafe := by
  intro s t hs h
  unfold step at h
  split at h
  next =>
    cases h
    unfold State.tick
    split <;> exact hs
  next i rest _ => exact exec_valvesSafe i { s with pending := rest } t hs h

end Sys2Proof.Machine

namespace Sys2Proof.Machine

/-! The filter totals, set by the host (R90, R91). -/

theorem toNat_append_byte {w : Nat} (x : BitVec w) (b : Byte) : (x ++ b).toNat = x.toNat * 256 + b.toNat := by
  rw [BitVec.toNat_append, ← Nat.shiftLeft_add_eq_or_of_lt b.isLt, Nat.shiftLeft_eq]

theorem read16_eq (hi lo : Byte) : read16 hi lo = (hi ++ lo : BitVec 16).toNat := (toNat_append_byte hi lo).symm

theorem read32_eq (a b c d : Byte) : read32 a b c d = (a ++ b ++ c ++ d : BitVec 32).toNat := by
  refine Eq.trans ?_ (toNat_append_byte (a ++ b ++ c) d).symm
  rw [toNat_append_byte, toNat_append_byte, read32]

theorem answers_restoreTotals (s : State) (dt : Nat) (tag : Byte) (payload : List Byte) (q : Part) (hs : s.linkIdle)
    (hl : payload.length ≤ 64) (hk : (s.heard (.restoreTotals dt tag payload)).takeRestoreTotals payload = accept q)
    (hq : q.link.inbox = []) : Answers (.restoreTotals dt tag payload) s .ok [] q := by
  refine answers_of_takeKind _ s dt ⟨0x3B, tag, payload⟩ .ok [] q hs rfl hl ?_ hq
  change atOnce (Part.takeRestoreTotals payload (s.heard _)) = _
  rw [hk]
  rfl

/-- A filter status that becomes DUE pends its notice (R89). -/
theorem judgeFilter_tells (p : Part) (hbefore : p.line.filterStatus ≠ .due)
    (hdue : p.judgeFilter.line.filterStatus = .due) : p.judgeFilter.isPending .filterDue = true := by
  rw [judgeFilter_line] at hdue
  unfold Part.judgeFilter
  dsimp only
  rw [if_pos ⟨hdue, hbefore⟩]
  simp

/-- The totals that RESTORE_TOTALS sets, with their filter status judged, and the credit with its two counts at 0
(R91, R149). -/
def Part.restored (ml seconds credit : Nat) (p : Part) : Part :=
  let q := Part.judgeFilter { p with line.filterMl := ml, line.filterRem := 0, line.filterSeconds := seconds }
  { q with defrost.credit := credit, defrost.compressorSeconds := 0, defrost.doorSeconds := 0 }

theorem takeRestoreTotals_eq (p : Part) (v3 v2 v1 v0 s3 s2 s1 s0 c1 c0 : Byte) :
    p.takeRestoreTotals [v3, v2, v1, v0, s3, s2, s1, s0, c1, c0] =
      accept (p.restored (read32 v3 v2 v1 v0) (read32 s3 s2 s1 s0) (read16 c1 c0)).compareTarget.settle := rfl

theorem restored_line (ml seconds credit : Nat) (p : Part) :
    (p.restored ml seconds credit).line =
      { p.line with
        filterMl := ml
        filterRem := 0
        filterSeconds := seconds
        filterStatus := filterStatusOf p.supervision.params ml seconds } :=
  judgeFilter_line _

theorem restored_defrost (ml seconds credit : Nat) (p : Part) :
    (p.restored ml seconds credit).defrost =
      { p.defrost with credit := credit, compressorSeconds := 0, doorSeconds := 0 } := by
  simp [Part.restored]

theorem restored_tells (ml seconds credit : Nat) (p : Part) (hbefore : p.line.filterStatus ≠ .due)
    (hdue : (p.restored ml seconds credit).line.filterStatus = .due) :
    (p.restored ml seconds credit).isPending .filterDue = true :=
  judgeFilter_tells { p with line.filterMl := ml, line.filterRem := 0, line.filterSeconds := seconds } hbefore hdue

/-- In ACCRUING, a credit at its target makes the defrost wanted (R149). -/
theorem compareTarget_wants (p : Part) (hstate : p.defrost.state = .accruing)
    (htarget : p.defrost.target ≤ p.defrost.credit) :
    p.compareTarget.defrost.state = .wanted := by
  rw [Part.compareTarget, if_pos ⟨hstate, htarget⟩, Part.enterWanted, setDefrostState_defrost]

/-- Settles O31: FILTER_RESET by its answer; RESTORE_TOTALS by the totals, the status judged, and the credit
compared. -/
theorem filterTotalsAreReset : Obligations.FilterTotalsAreReset := by
  refine ⟨fun s dt tag hs => ?_, fun s dt tag v3 v2 v1 v0 s3 s2 s1 s0 c1 c0 hs => ?_⟩
  · exact answers_of_takeKind _ s dt ⟨0x39, tag, []⟩ .ok [] _ hs rfl (Nat.zero_le 64) rfl
      (heard_inbox _ s dt _ hs rfl)
  · intro i q ps
    let u : Part := q.restored (read32 v3 v2 v1 v0) (read32 s3 s2 s1 s0) (read16 c1 c0)
    have hinbox : u.compareTarget.settle.link.inbox = [] := by
      simpa [u, Part.restored] using heard_inbox i s dt _ hs rfl
    obtain ⟨hcredit, -, hcompressor, hdoor, -, -, -, -, -, hpends⟩ := compareTarget_keeps u
    have hline : u.compareTarget.line = u.line := (compareTarget_frame u).2.1
    have hdefrost := restored_defrost (read32 v3 v2 v1 v0) (read32 s3 s2 s1 s0) (read16 c1 c0) q
    refine ⟨u.compareTarget, ?_, ?_⟩
    · exact answers_restoreTotals s dt tag _ _ hs (by simp)
        (takeRestoreTotals_eq q v3 v2 v1 v0 s3 s2 s1 s0 c1 c0) hinbox
    · rw [hline, hcredit, hcompressor, hdoor, hdefrost, restored_line, read32_eq, read32_eq, read16_eq]
      refine ⟨rfl, rfl, rfl, rfl, rfl, rfl, rfl, fun hbefore hdue => ?_, fun hstate htarget => ?_⟩
      · refine hpends _ (restored_tells _ _ _ q hbefore ?_)
        rw [restored_line, read32_eq, read32_eq]
        exact hdue
      · exact compareTarget_wants u (by rw [hdefrost]; exact hstate)
          (by rw [hdefrost, read16_eq]; exact htarget)

end Sys2Proof.Machine

namespace Sys2Proof.Machine

/-! The rules of the line's moves: a grant and a resumption of the fill, and when the waiting fill is given the line. -/

theorem grantFill_line (p : Part) (n : TicketNo) : (p.grantFill n).line = (p.openLine .fill n).line := rfl

theorem grantFill_ice (p : Part) (n : TicketNo) : (p.grantFill n).ice = { p.ice with state := .filling } := rfl

theorem ticket_activate (p : Part) (n : TicketNo) :
    (p.activate n).ticket n =
      { p.ticket n with state := .active, progress := { startTime := some p.clock.partSeconds } } := by
  simp [Part.activate, ticket_updateTicket]

theorem ticket_grantFill (p : Part) (n : TicketNo) :
    (p.grantFill n).ticket n =
      { p.ticket n with state := .active, progress := { startTime := some p.clock.partSeconds } } :=
  ticket_activate (p.openLine .fill n) n

/-- A suspended fill short of its target goes on in OPEN (R74). -/
theorem resumeFill_short (p : Part) (w : Work) (hshort : w.target.any (· ≤ w.pulses) = false) :
    p.resumeFill w =
      { p with line := { p.line.openFor .fill with work := some (w.resume p.clock.now), suspended := none } } := by
  simp [Part.resumeFill, hshort]

/-- A suspended fill whose count has reached its target ends by TARGET in a new SETTLE (R74). -/
theorem resumeFill_full (p : Part) (w : Work) (hfull : w.target.any (· ≤ w.pulses) = true) :
    p.resumeFill w =
      Part.tellEnding .fill .complete
        { p with
          line := { p.line.toSettle p.clock.now .fill (some .target) with work := some w, suspended := none } } := by
  simp [Part.resumeFill, hfull]

theorem freeForFill_iff (l : Line) :
    l.freeForFill = true ↔ l.state = .idle ∧ l.supply = .ok ∧ l.leakLatch = false := by
  simp [Line.freeForFill, and_assoc]

section
variable (p : Part)

theorem judgeFill_blocked (h : p.line.freeForFill = false) : p.judgeFill = p := by
  simp [Part.judgeFill, h]

theorem judgeFill_unclaimed (hsuspended : p.line.suspended = none) (hclaim : p.line.fillClaim = none) :
    p.judgeFill = p := by
  simp [Part.judgeFill, hsuspended, hclaim]

theorem judgeFill_resumes (w : Work) (hfree : p.line.freeForFill = true) (hsuspended : p.line.suspended = some w) :
    p.judgeFill = p.resumeFill w := by
  simp [Part.judgeFill, hfree, hsuspended]

theorem judgeFill_grants (n : TicketNo) (hfree : p.line.freeForFill = true) (hsuspended : p.line.suspended = none)
    (hclaim : p.line.fillClaim = some n) : p.judgeFill = p.grantFill n := by
  simp [Part.judgeFill, hfree, hsuspended, hclaim]

/-- What the judgement of the fill can do. -/
theorem judgeFill_cases :
    p.judgeFill = p ∨ (∃ w, p.line.suspended = some w ∧ p.judgeFill = p.resumeFill w) ∨
      ∃ n, p.line.fillClaim = some n ∧ p.judgeFill = p.grantFill n := by
  unfold Part.judgeFill
  split
  · split
    next w hsuspended => exact .inr (.inl ⟨w, hsuspended, rfl⟩)
    next n _ hclaim => exact .inr (.inr ⟨n, hclaim, rfl⟩)
    next => exact .inl rfl
  · exact .inl rfl

/-- The supply, the DRY_RETRY timer and the leak latch stay as the fill is judged, and an empty leak record stays
empty. -/
theorem judgeFill_keeps_supply :
    p.judgeFill.line.supply = p.line.supply ∧ p.judgeFill.line.dryRetry = p.line.dryRetry ∧
      p.judgeFill.line.leakLatch = p.line.leakLatch ∧ p.judgeFill.line.leakTime = p.line.leakTime ∧
      (p.line.leakList = [] → p.judgeFill.line.leakList = []) := by
  rcases judgeFill_cases p with h | ⟨w, -, h⟩ | ⟨n, -, h⟩ <;> rw [h]
  · exact ⟨rfl, rfl, rfl, rfl, id⟩
  · cases hfull : w.target.any (· ≤ w.pulses)
    · rw [resumeFill_short p w hfull]
      exact ⟨rfl, rfl, rfl, rfl, id⟩
    · rw [resumeFill_full p w hfull, (tellEnding_frame _ _ _).2.1]
      exact ⟨rfl, rfl, rfl, rfl, id⟩
  · exact ⟨rfl, rfl, rfl, rfl, fun _ => rfl⟩

end

theorem atOnce_mk (a : Answer) (q : Part) : atOnce (a, q) = (some a, q) := rfl

theorem takeClearLeak_nil (p : Part) : p.takeClearLeak [] = (⟨.ok, []⟩, p.clearLeakLatch.settle) := rfl

/-- CLEAR_LEAK is answered with the latch cleared, the fill judged, and what follows at once (R87). -/
theorem answers_clearLeak (s : State) (dt : Nat) (tag : Byte) (hs : s.linkIdle) :
    Answers (.clearLeak dt tag []) s .ok [] (s.heard (.clearLeak dt tag [])).clearLeakLatch.settle := by
  refine answers_of_takeKind _ s dt ⟨0x38, tag, []⟩ .ok [] _ hs rfl (Nat.zero_le 64) ?_ ?_
  · change atOnce (Part.takeClearLeak [] (s.heard _)) = _
    rw [takeClearLeak_nil, atOnce_mk]
  · simpa [Part.clearLeakLatch] using heard_inbox (.clearLeak dt tag []) s dt _ hs rfl

/-- Settles O30: the judgement of the fill with the latch cleared, and with the supply OK again. -/
theorem lineFreesTheWaitingFill : Obligations.LineFreesTheWaitingFill := by
  refine ⟨fun s dt tag hs => ?_, fun s dt e hr => ?_⟩
  · intro i q
    let u : Part := { q with line := { q.line with leakLatch := false, leakTime := none, leakList := [] } }
    have hcleared : q.clearLeakLatch = u.judgeFill := rfl
    have hfree (hidle : q.line.state = .idle) (hsupply : q.line.supply = .ok) : u.line.freeForFill = true :=
      (freeForFill_iff u.line).2 ⟨hidle, hsupply, rfl⟩
    obtain ⟨-, -, hlatch, htime, hlist⟩ := judgeFill_keeps_supply u
    refine ⟨q.clearLeakLatch, answers_clearLeak s dt tag hs, ?_⟩
    rw [hcleared]
    refine ⟨hlatch, htime, hlist rfl, fun n hclaim hsuspended hidle hsupply => ?_,
      fun w hsuspended hidle hsupply hshort => ?_, fun hclaim hsuspended => judgeFill_unclaimed u hsuspended hclaim⟩
    · rw [judgeFill_grants u n (hfree hidle hsupply) hsuspended hclaim, grantFill_line, grantFill_ice,
        ticket_grantFill]
      exact ⟨rfl, rfl, rfl, rfl, rfl, rfl⟩
    · rw [judgeFill_resumes u w (hfree hidle hsupply) hsuspended, resumeFill_short u w hshort]
      exact ⟨rfl, rfl, rfl⟩
  · intro p he
    refine ⟨fun hearly => ?_, fun hdue => ?_⟩
    · exact becomes_early (.dryRetryEnd dt) s dt Part.dueDryRetry Part.endDryRetry hr rfl
        (by rw [Part.dueDryRetry, he]; exact decide_eq_false (Nat.not_le.2 hearly))
    · let u : Part := { p with line.supply := .ok, line.dryRetry := none }
      obtain ⟨hsupply, hretry, -⟩ := judgeFill_keeps_supply u
      refine ⟨u.judgeFill, becomes_due (.dryRetryEnd dt) s dt Part.dueDryRetry Part.endDryRetry hr rfl
        (by rw [Part.dueDryRetry, he, passed_some]; exact hdue), hsupply, hretry,
        fun n hidle hleak hsuspended hclaim => ?_, fun hbusy => judgeFill_blocked u ?_⟩
      · have hfree : u.line.freeForFill = true := (freeForFill_iff u.line).2 ⟨hidle, rfl, hleak⟩
        rw [judgeFill_grants u n hfree hsuspended hclaim, grantFill_line, grantFill_ice]
        exact ⟨rfl, rfl, rfl⟩
      · rw [Bool.eq_false_iff, ne_eq, freeForFill_iff]
        exact fun h => hbusy h.1

end Sys2Proof.Machine

namespace Sys2Proof.Machine

/-! The limits of the line: the open time and the no-flow time (R82, R83). -/

section
variable (p : Part) (u : LineUser) (w : Work) (reason : EndingReason)

/-- The limit of the open time of a user's work (R82). -/
def Params.openLimit (ps : Params) : LineUser → Nat
  | .fill => ps.fillOpenLimit
  | .dispense => ps.dispenseOpenLimit

theorem openLimitReached_iff (hs : p.line.state = .opened) (ho : p.line.owner = some u) (hw : p.line.work = some w) :
    p.openLimitReached = true ↔
      p.supervision.params.openLimit u * 1000000 ≤ w.openTime.read p.clock.now := by
  simp only [Part.openLimitReached, hs, ho, hw]
  cases u <;> exact decide_eq_true_iff

theorem openLimitReached_elsewhere (hs : p.line.state ≠ .opened) : p.openLimitReached = false := by
  unfold Part.openLimitReached
  split
  next h _ _ => exact absurd h hs
  next => rfl

theorem noFlowReached_iff (hs : p.line.state = .opened) (hw : p.line.work = some w) :
    p.noFlowReached = true ↔ w.noFlowFrom + p.supervision.params.noFlowWindow * 1000000 ≤ p.clock.now := by
  simp only [Part.noFlowReached, hs, hw]
  exact decide_eq_true_iff

theorem noFlowReached_elsewhere (hs : p.line.state ≠ .opened) : p.noFlowReached = false := by
  unfold Part.noFlowReached
  split
  next h _ => exact absurd h hs
  next => rfl

/-- The line closed by an ending of a user's work, in a SETTLE of 500 ms (R77 to R79). -/
def Line.Closed (l : Line) (now : Nat) (u : LineUser) (w : Work) (reason : EndingReason) : Prop :=
  l.inlet = false ∧ l.moldFill = false ∧ l.dispense = false ∧ l.state = .settle ∧ l.owner = none ∧
    l.closingOwner = some u ∧ l.ending = some reason ∧ l.settleEnd = some (now + 500000) ∧
    ∃ w', l.work = some w' ∧ w'.ticket = w.ticket ∧ w'.pulses = w.pulses ∧ w'.target = w.target

theorem endWork_closed (hs : p.line.state = .opened) (ho : p.line.owner = some u) (hw : p.line.work = some w) :
    (p.endWork reason).line.Closed p.clock.now u w reason := by
  rw [endWork_line p u reason (.inl hs) ho, hw]
  exact ⟨rfl, rfl, rfl, rfl, rfl, rfl, rfl, rfl, w.stopOpen p.clock.now, rfl, rfl, rfl, rfl⟩

/-- An ending closes the valves, and tells the claimant. -/
theorem endWork_open (hs : p.line.state = .opened) (ho : p.line.owner = some u) :
    p.endWork reason =
      Part.tellEnding u reason.outcome
        { p with
          line :=
            { p.line.toSettle p.clock.now u (some reason) with
              work := p.line.work.map (·.stopOpen p.clock.now) } } := by
  simp only [Part.endWork, hs, ho]

theorem tellEnding_fill (o : TicketOutcome) (n : TicketNo) (hn : p.pool.iceSlot = some n) :
    ((p.tellEnding .fill o).ticket n).state = .stopping := by
  simp [Part.tellEnding, ticket_updateSlot, hn, Ticket.stopping]

theorem tellEnding_dispense (o : TicketOutcome) :
    (p.tellEnding .dispense o).outlet.state = .stopping ∧
      ∀ n, p.pool.queue.head? = some n → ((p.tellEnding .dispense o).ticket n).state = .stopping := by
  refine ⟨rfl, fun n hn => ?_⟩
  change ((p.updateHead Ticket.stopping).ticket n).state = .stopping
  simp [Part.updateHead, ticket_updateSlot, hn, Ticket.stopping]

/-- An expiry of the no-flow time also makes the supply DRY, starts the DRY_RETRY timer and sets LINE_DRY (R83). -/
theorem compareNoFlow_expired (h : p.noFlowReached = true) :
    let q := p.compareNoFlow
    q.line =
        { (p.endWork .noWater).line with
          supply := .dry
          dryRetry := some (p.clock.now + p.supervision.params.dryRetry * 1000000) } ∧
      q.isPending .lineDry = true := by
  obtain ⟨⟨hclock, -, -, hsupervision, -⟩, -⟩ := endWork_frame .noWater p
  simp only [Part.compareNoFlow, h, if_true, hclock, hsupervision]
  exact ⟨rfl, by simp⟩

end

/-- Settles O34: both timer rows, when due and when not. -/
theorem lineLimitsCloseTheValves : Obligations.LineLimitsCloseTheValves := by
  intro s dt u w hr p ps closed limit ho hw
  have hlimit : limit = ps.openLimit u := by cases u <;> rfl
  have hclosed (reason : EndingReason) (q : Part) (hq : q.line.Closed p.clock.now u w reason) : closed reason q := hq
  refine ⟨fun hs hreached => ?_, fun hs hearly => ?_, fun hs => ?_, fun hs hreached => ?_, fun hs hearly => ?_,
    fun hs => ?_⟩
  · have hdue := (openLimitReached_iff p u w hs ho hw).2 (hlimit ▸ hreached)
    refine ⟨p.endWork .timeout,
      becomes_due (.openTimeLimit dt) s dt Part.openLimitReached (Part.endWork .timeout) hr rfl hdue,
      hclosed _ _ (endWork_closed p u w .timeout hs ho hw), (endWork_keeps_line p .timeout).1, ?_, ?_⟩
    · rintro rfl n hn
      rw [endWork_open p .fill .timeout hs ho]
      exact tellEnding_fill _ _ n hn
    · rintro rfl
      rw [endWork_open p .dispense .timeout hs ho]
      exact tellEnding_dispense _ _
  · refine becomes_early (.openTimeLimit dt) s dt Part.openLimitReached (Part.endWork .timeout) hr rfl ?_
    rw [Bool.eq_false_iff, ne_eq, openLimitReached_iff p u w hs ho hw]
    exact Nat.not_le.2 (hlimit ▸ hearly)
  · exact becomes_early (.openTimeLimit dt) s dt Part.openLimitReached (Part.endWork .timeout) hr rfl
      (openLimitReached_elsewhere p hs)
  · have hdue := (noFlowReached_iff p w hs hw).2 hreached
    obtain ⟨hline, hpends⟩ := compareNoFlow_expired p hdue
    refine ⟨p.compareNoFlow, becomes_due (.noFlowExpiry dt) s dt Part.noFlowReached Part.compareNoFlow hr rfl hdue,
      hclosed _ _ ?_, ?_, ?_, hpends⟩
    · rw [hline]
      exact endWork_closed p u w .noWater hs ho hw
    · rw [hline]
    · rw [hline]
  · refine becomes_early (.noFlowExpiry dt) s dt Part.noFlowReached Part.compareNoFlow hr rfl ?_
    rw [Bool.eq_false_iff, ne_eq, noFlowReached_iff p w hs hw]
    exact Nat.not_le.2 hearly
  · exact becomes_early (.noFlowExpiry dt) s dt Part.noFlowReached Part.compareNoFlow hr rfl
      (noFlowReached_elsewhere p hs)

end Sys2Proof.Machine

namespace Sys2Proof.Machine

/-! The grants of the line, and the resumption of a suspended fill (R71, R72, R74, R128). -/

section
variable (p : Part) (n : TicketNo)

theorem grantDispense_closed (hdoor : p.sense.door ≠ some .opened) :
    p.grantDispense n = { (p.openLine .dispense n).activateHead n with outlet.state := .running } :=
  if_neg hdoor

theorem grantDispense_opened (hdoor : p.sense.door = some .opened) :
    p.grantDispense n = Part.pauseLine { (p.openLine .dispense n).activateHead n with outlet.state := .paused } :=
  if_pos hdoor

theorem ticket_openDispense :
    ((p.openLine .dispense n).activateHead n).ticket n =
      (p.ticket n).started p.clock.partSeconds p.outlet.paddleStarted p.outlet.tankNote :=
  ticket_activateHead (p.openLine .dispense n) n

theorem judgeGrant_dispense (hidle : p.line.state = .idle) (hclaim : p.line.dispenseClaim = some n) :
    p.judgeGrant = p.grantDispense n := by
  simp only [Part.judgeGrant, hidle, hclaim]

theorem judgeGrant_fill (hidle : p.line.state = .idle) (hclaim : p.line.dispenseClaim = none)
    (hsuspended : p.line.suspended = none) : p.judgeGrant = p.judgeFill := by
  simp only [Part.judgeGrant, hidle, hclaim, hsuspended]

theorem judgeResume_free (w : Work) (hsuspended : p.line.suspended = some w) (hfree : p.line.freeForFill = true) :
    p.judgeResume = p.resumeFill w := by
  simp only [Part.judgeResume, hsuspended, hfree, if_true]

theorem grantFill_heater : (p.grantFill n).loads.heaters[(3 : HeaterNo)].ownerDemand = true := by
  change (p.loads.update 3 Heater.raiseOwner).heaters[(3 : HeaterNo)].ownerDemand = true
  rw [heaters_update, if_pos rfl]
  exact (raiseOwner_spec _).1

end

/-- The open time goes on from what it has counted (R74, R81). -/
theorem read_start (now : Nat) (w : Stopwatch) : (w.start now).read now = w.read now := by
  change w.read now + (now - now) = w.read now
  rw [Nat.sub_self, Nat.add_zero]

/-- Settles O33: the grant by the claims and the door, and the suspended fill by its count. -/
theorem grantsOpenTheLine : Obligations.GrantsOpenTheLine := by
  refine ⟨fun s dt n hr hidle => ?_, fun s dt w hr => ?_⟩
  · intro p opened
    have hrow : Becomes (.lineGrant dt) s p.judgeGrant.settle :=
      becomes_row (.lineGrant dt) s dt (fun p => p.judgeGrant.settle) hr rfl
    have hticket := ticket_openDispense p n
    refine ⟨fun hclaim hdoor => ?_, fun hclaim hdoor => ?_, fun hclaim hsuspended hfill hsupply hleak => ?_⟩
    · rw [judgeGrant_dispense p n hidle hclaim,
        grantDispense_closed p n (by rw [hdoor]; exact fun h => nomatch h)] at hrow
      refine ⟨_, hrow, rfl, rfl, rfl, rfl, rfl, rfl, rfl, rfl, rfl, ?_, ?_⟩
      · exact congrArg Ticket.state hticket
      · exact congrArg (fun t => t.progress.startTime) hticket
    · rw [judgeGrant_dispense p n hidle hclaim, grantDispense_opened p n hdoor, pauseLine_open _ rfl rfl] at hrow
      exact ⟨_, hrow, rfl, rfl, rfl, rfl, rfl, rfl, congrArg Ticket.state hticket⟩
    · have hfree : p.line.freeForFill = true := (freeForFill_iff p.line).2 ⟨hidle, hsupply, hleak⟩
      rw [judgeGrant_fill p hidle hclaim hsuspended, judgeFill_grants p n hfree hsuspended hfill] at hrow
      refine ⟨_, hrow, rfl, rfl, rfl, rfl, grantFill_heater p n, rfl, rfl, rfl, rfl, rfl, ?_, ?_⟩
      · exact congrArg Ticket.state (ticket_grantFill p n)
      · exact congrArg (fun t => t.progress.startTime) (ticket_grantFill p n)
  · intro p hsuspended hidle hsupply hleak
    have hfree : p.line.freeForFill = true := (freeForFill_iff p.line).2 ⟨hidle, hsupply, hleak⟩
    have hrow : Becomes (.fillResume dt) s p.judgeResume.settle :=
      becomes_row (.fillResume dt) s dt (fun p => p.judgeResume.settle) hr rfl
    rw [judgeResume_free p w hsuspended hfree] at hrow
    refine ⟨p.resumeFill w, hrow, ?_⟩
    cases hfull : w.target.any (· ≤ w.pulses) with
    | false =>
      rw [resumeFill_short p w hfull]
      exact ⟨rfl, fun _ => ⟨rfl, rfl, rfl, rfl, rfl, w.resume p.clock.now, rfl, rfl, rfl, rfl,
        read_start p.clock.now w.openTime, rfl⟩, fun h => nomatch h⟩
    | true =>
      rw [resumeFill_full p w hfull, (tellEnding_frame _ _ _).2.1]
      exact ⟨rfl, (fun h => nomatch h), fun _ => ⟨rfl, rfl, rfl, rfl, rfl, rfl, rfl⟩⟩

end Sys2Proof.Machine

namespace Sys2Proof.Machine

/-! The end of a fill (R79, R99, R114). -/

/-- The state that the ice maker enters at the end of a fill (Table 5-2, R114). -/
def IceMaker.afterFill (c : IceMaker) (o : TicketOutcome) (loaded : Bool) : IceState :=
  if c.parkPending = true ∨ o = .parked then .parked
  else if o = .complete ∨ loaded = true then .freezing
  else .fillWait

/-- What entering the state after a fill sets, and what it leaves. -/
theorem afterFill_spec (p : Part) (o : TicketOutcome) (loaded : Bool) :
    let q := p.afterFill o loaded
    let st := p.ice.afterFill o loaded
    q.ice.state = st ∧ q.ice.moldLoaded = p.ice.moldLoaded ∧ q.ice.freezeStart = p.ice.freezeStart ∧
      (st = .parked → q.ice.parkPending = false) ∧ q.defrost = { p.defrost with iceCopy := st } ∧
      q.loads = p.loads ∧ q.pool = { p.pool with starvation := q.pool.starvation } := by
  simp only [Part.afterFill, IceMaker.afterFill, Bool.or_eq_true, beq_iff_eq]
  split
  · exact ⟨rfl, rfl, rfl, fun _ => rfl, rfl, rfl, rfl⟩
  · split
    · exact ⟨rfl, rfl, rfl, (fun h => nomatch h), rfl, rfl, rfl⟩
    · obtain ⟨hice, hdefrost⟩ := enterFillWait_ice p
      obtain ⟨-, -, hloads, -⟩ := iceAttempt_frame (p.setIceState .fillWait)
      rw [hice, hdefrost]
      exact ⟨rfl, rfl, rfl, (fun h => nomatch h), rfl, hloads, iceAttempt_pool (p.setIceState .fillWait)⟩

/-- The fill's weight, added to the defrost credit if the fill is complete and credit accrues (R149). -/
def Part.weighed (o : TicketOutcome) (p : Part) : Part := if o = .complete then p.fillCompletion else p

theorem weighed_spec (p : Part) (o : TicketOutcome) :
    p.weighed o = { p with defrost := (p.weighed o).defrost } ∧ (p.weighed o).defrost.state = p.defrost.state ∧
      (p.weighed o).defrost.credit =
        if o = .complete ∧ p.defrost.state.accrues = true then
          sat16 (p.defrost.credit + p.supervision.params.fillWeight)
        else p.defrost.credit := by
  unfold Part.weighed
  by_cases ho : o = .complete
  · by_cases haccrues : p.defrost.state.accrues = true
    · rw [if_pos ho, if_pos ⟨ho, haccrues⟩, Part.fillCompletion, if_pos haccrues]
      exact ⟨rfl, rfl, rfl⟩
    · rw [if_pos ho, if_neg fun h => haccrues h.2, Part.fillCompletion, if_neg haccrues]
      exact ⟨rfl, rfl, rfl⟩
  · rw [if_neg ho, if_neg fun h => ho h.1]
    exact ⟨rfl, rfl, rfl⟩

theorem ticket_writeAmounts (p : Part) (w : Work) (m : TicketNo) :
    (p.writeAmounts w).ticket m =
      if m = w.ticket then
        (p.ticket w.ticket).withProgress fun g =>
          { g with
            measured := sat16 (pulsesToMl p.supervision.params.flowK w.pulses)
            overshoot := sat16 (overshootMl p.supervision.params.flowK w.pulses w.target) }
      else p.ticket m :=
  ticket_updateTicket p w.ticket m _

/-- The ticket of a work that has ended with its amounts (R79, R80). -/
def Work.report (w : Work) (flowK now : Nat) (o : TicketOutcome) (t : Ticket) : Ticket :=
  { t with
    state := .done
    progress :=
      { t.progress with
        measured := sat16 (pulsesToMl flowK w.pulses)
        overshoot := sat16 (overshootMl flowK w.pulses w.target)
        endTime := some now
        outcome := some o } }

/-- The part with the amounts of a work written and its ticket in the completion queue. -/
def Part.reported (w : Work) (o : TicketOutcome) (p : Part) : Part := (p.writeAmounts w).toCompletion w.ticket o

theorem ticket_reported (p : Part) (w : Work) (o : TicketOutcome) (m : TicketNo) :
    (p.reported w o).ticket m =
      if m = w.ticket then w.report p.supervision.params.flowK p.clock.partSeconds o (p.ticket w.ticket)
      else p.ticket m := by
  rw [Part.reported, ticket_toCompletion]
  by_cases h : m = w.ticket
  · rw [if_pos h, if_pos h, ticket_writeAmounts, if_pos rfl]
    rfl
  · rw [if_neg h, if_neg h, ticket_writeAmounts, if_neg h]

/-- The state of the part between the report of a fill's work and the state that it enters: the heat is dropped, and a
loaded mold begins to freeze (R99). -/
def Part.filled (w : Work) (p : Part) : Part :=
  if w.loaded then { p.dropOwner 3 with ice.moldLoaded := true, ice.freezeStart := some p.clock.partSeconds }
  else p.dropOwner 3

theorem filled_frame (p : Part) (w : Work) :
    (p.filled w).pool = p.pool ∧ (p.filled w).defrost = p.defrost ∧ (p.filled w).supervision = p.supervision ∧
      (p.filled w).loads = p.loads.update 3 Heater.dropOwner ∧
      (p.filled w).ice =
        { p.ice with
          moldLoaded := if w.loaded then true else p.ice.moldLoaded
          freezeStart := if w.loaded then some p.clock.partSeconds else p.ice.freezeStart } := by
  unfold Part.filled
  split <;> exact ⟨rfl, rfl, rfl, rfl, rfl⟩

/-- With its record kept, the end of a fill is its report, what it filled, its weight, and the state it enters. -/
theorem fillEnded_eq (p : Part) (r : EndingReason) (w : Work) (hfree : 4 ≤ p.pool.free.length) :
    p.fillEnded r w =
      (((p.reported w r.outcome).filled w).weighed r.outcome).afterFill r.outcome w.loaded := by
  have hfinish : (p.writeAmounts w).finish w.ticket r.outcome = p.reported w r.outcome :=
    finish_enough _ _ _ hfree
  unfold Part.fillEnded Part.filled Part.weighed
  rw [hfinish]
  cases w.loaded <;> rfl

/-- The end of a fill whose record is kept: the ticket is reported, H3 is dropped, a loaded mold freezes from now, and
the ice maker enters the state that follows (R79, R99). -/
theorem fillEnded_spec (p : Part) (r : EndingReason) (w : Work) (hfree : 4 ≤ p.pool.free.length) :
    let q := p.fillEnded r w
    let st := p.ice.afterFill r.outcome w.loaded
    q.pool = { (p.reported w r.outcome).pool with starvation := q.pool.starvation } ∧
      q.loads = p.loads.update 3 Heater.dropOwner ∧ q.ice.state = st ∧
      q.ice.moldLoaded = (if w.loaded then true else p.ice.moldLoaded) ∧
      q.ice.freezeStart = (if w.loaded then some p.clock.partSeconds else p.ice.freezeStart) ∧
      (st = .parked → q.ice.parkPending = false) ∧ q.defrost.iceCopy = st ∧ q.defrost.state = p.defrost.state ∧
      q.defrost.credit =
        if r.outcome = .complete ∧ p.defrost.state.accrues = true then
          sat16 (p.defrost.credit + p.supervision.params.fillWeight)
        else p.defrost.credit := by
  intro q st
  let a : Part := (p.reported w r.outcome).filled w
  obtain ⟨hpool, hdefrost, hsupervision, hloads, hice⟩ := filled_frame (p.reported w r.outcome) w
  have hadefrost : a.defrost = p.defrost := hdefrost
  have hasupervision : a.supervision = p.supervision := hsupervision
  obtain ⟨hframe, hbstate, hbcredit⟩ := weighed_spec a r.outcome
  have hq : q = (a.weighed r.outcome).afterFill r.outcome w.loaded := fillEnded_eq p r w hfree
  generalize a.weighed r.outcome = b at hframe hbstate hbcredit hq
  have hbice : b.ice = a.ice := by rw [hframe]
  have hbpool : b.pool = a.pool := by rw [hframe]
  have hbloads : b.loads = a.loads := by rw [hframe]
  obtain ⟨hst, hmold, hfreeze, hpark, hcopy, hqloads, hqpool⟩ := afterFill_spec b r.outcome w.loaded
  have hafter : b.ice.afterFill r.outcome w.loaded = st := by rw [hbice, hice]; rfl
  rw [hafter] at hst hpark hcopy
  rw [hq]
  refine ⟨?_, ?_, hst, ?_, ?_, hpark, ?_, ?_, ?_⟩
  · rw [hqpool, hbpool, hpool]
  · rw [hqloads, hbloads, hloads]
    rfl
  · rw [hmold, hbice, hice]
    rfl
  · rw [hfreeze, hbice, hice]
    rfl
  · rw [hcopy]
  · rw [hcopy]
    exact hbstate.trans (congrArg Defrost.state hadefrost)
  · rw [hcopy]
    exact hbcredit.trans (by rw [hadefrost, hasupervision])

section
variable (p : Part) (r : EndingReason) (w : Work) (hfree : 4 ≤ p.pool.free.length)
include hfree

theorem ticket_fillEnded (m : TicketNo) :
    (p.fillEnded r w).ticket m =
      if m = w.ticket then
        w.report p.supervision.params.flowK p.clock.partSeconds r.outcome (p.ticket w.ticket)
      else p.ticket m := by
  obtain ⟨hpool, -⟩ := fillEnded_spec p r w hfree
  rw [Part.ticket, hpool]
  exact ticket_reported p w r.outcome m

theorem fillEnded_iceSlot (hslot : p.pool.iceSlot = some w.ticket) : (p.fillEnded r w).pool.iceSlot = none := by
  obtain ⟨hpool, -⟩ := fillEnded_spec p r w hfree
  rw [hpool]
  exact if_pos hslot

theorem fillEnded_queue : (p.fillEnded r w).pool.queue = p.pool.queue.erase w.ticket := by
  obtain ⟨hpool, -⟩ := fillEnded_spec p r w hfree
  rw [hpool]
  rfl

end

end Sys2Proof.Machine

namespace Sys2Proof.Machine

/-! ICE_CONTROL on an idle link (R113 to R116). -/

/-- What the requests that are taken leave of the link. -/
theorem park_inbox (p t : Part) (h : p.park = some t) : t.link.inbox = p.link.inbox := by
  unfold Part.park at h
  (repeat' split at h) <;> cases h <;> simp [Part.parkFillWait, Part.parkFilling]
  (repeat' split) <;> simp

theorem runIce_inbox (p t : Part) (h : p.runIce = some t) : t.link.inbox = p.link.inbox := by
  unfold Part.runIce at h
  split at h <;> cases h
  (repeat' split) <;> simp

theorem resumeIce_inbox (p t : Part) (h : p.resumeIce = some t) : t.link.inbox = p.link.inbox := by
  unfold Part.resumeIce at h
  split at h <;> cases h
  simp

theorem harvestNow_inbox (p t : Part) (h : p.harvestNow = some t) : t.link.inbox = p.link.inbox := by
  unfold Part.harvestNow at h
  split at h <;> cases h
  simp

section
variable (i : Instr) (s : State) (dt : Nat) (tag r : Byte) (hs : s.linkIdle)
  (hrow : hostRow i = some (dt, ⟨0x40, tag, [r]⟩))
include hs hrow

theorem answers_iceControl (st : Status) (data : List Byte) (q : Part)
    (hk : (s.heard i).takeIceControl [r] = (⟨st, data⟩, q)) (hq : q.link.inbox = []) : Answers i s st data q := by
  refine answers_of_takeKind i s dt ⟨0x40, tag, [r]⟩ st data q hs hrow (by simp) ?_ hq
  change atOnce (Part.takeIceControl [r] (s.heard i)) = _
  rw [hk]
  rfl

/-- A request that is taken is answered OK with the state that follows at once (R113). -/
theorem answers_iceTaken (taken : Option Part) (t : Part)
    (hk : (s.heard i).takeIceControl [r] = (s.heard i).answerIce taken) (ht : taken = some t)
    (hinbox : t.link.inbox = (s.heard i).link.inbox) : Answers i s .ok t.settle.iceData t.settle := by
  refine answers_iceControl i s dt tag r hs hrow .ok _ _ ?_ ?_
  · rw [hk, ht, Part.answerIce]
  · obtain ⟨-, -, -, -, -, -, hkept, -⟩ := settle_frame t
    rw [hkept, hinbox]
    exact heard_inbox i s dt _ hs hrow

/-- A request that is not taken is answered STATE and changes nothing (R113). -/
theorem answers_iceRefused (taken : Option Part)
    (hk : (s.heard i).takeIceControl [r] = (s.heard i).answerIce taken) (ht : taken = none) :
    Answers i s .state (s.heard i).iceData (s.heard i) := by
  refine answers_iceControl i s dt tag r hs hrow .state _ _ ?_ (heard_inbox i s dt _ hs hrow)
  rw [hk, ht, Part.answerIce]

end

section
variable (p : Part)

theorem takeIceControl_park : p.takeIceControl [0] = p.answerIce p.park := rfl
theorem takeIceControl_run : p.takeIceControl [1] = p.answerIce p.runIce := rfl
theorem takeIceControl_resume : p.takeIceControl [2] = p.answerIce p.resumeIce := rfl
theorem takeIceControl_harvestNow : p.takeIceControl [3] = p.answerIce p.harvestNow := rfl

end

end Sys2Proof.Machine

namespace Sys2Proof.Machine

/-! PARK by the state of the ice maker (R114). -/

section
variable (p : Part)

theorem park_again (h : p.ice.parkPending = true) : p.park = some p := if_pos h

variable (hpending : p.ice.parkPending = false)
include hpending

theorem park_parked (h : p.ice.state = .parked) : p.park = some p := by
  simp only [Part.park, hpending, h, Bool.false_eq_true, if_false]

theorem park_refused (h : p.ice.state = .homing ∨ p.ice.state = .fault) : p.park = none := by
  rcases h with h | h <;> simp only [Part.park, hpending, h, Bool.false_eq_true, if_false]

theorem park_freezing (h : p.ice.state = .freezing ∨ p.ice.state = .harvestWait) : p.park = some p.enterParked := by
  rcases h with h | h <;> simp only [Part.park, hpending, h, Bool.false_eq_true, if_false]

theorem park_harvest (h : p.ice.state = .harvestHeat ∨ p.ice.state = .eject ∨ p.ice.state = .settle) :
    p.park = some { p with ice.parkPending := true } := by
  rcases h with h | h | h <;> simp only [Part.park, hpending, h, Bool.false_eq_true, if_false]

theorem park_fillWait (h : p.ice.state = .fillWait) : p.park = some p.parkFillWait := by
  simp only [Part.park, hpending, h, Bool.false_eq_true, if_false]

theorem park_filling (h : p.ice.state = .filling) : p.park = some p.parkFilling := by
  simp only [Part.park, hpending, h, Bool.false_eq_true, if_false]

end

section
variable (p : Part)

theorem parkFilling_suspended (w : Work) (h : p.line.suspended = some w) :
    p.parkFilling = Part.fillEnded .withdrawn w { p with ice.parkPending := true, line.suspended := none } := by
  simp only [Part.parkFilling, h]

theorem parkFilling_owner (h : p.line.suspended = none) (ho : p.line.owner = some .fill) :
    p.parkFilling = Part.endWork (.release .parked) { p with ice.parkPending := true } := by
  simp only [Part.parkFilling, h, ho, if_true]

theorem parkFilling_unowned (h : p.line.suspended = none) (ho : p.line.owner ≠ some .fill) :
    p.parkFilling = { p with ice.parkPending := true } := by
  simp only [Part.parkFilling, h, ho, if_false]

/-- A waiting claim withdrawn by PARK: its ticket ends PARKED, its record kept (R114, R75). -/
theorem parkFillWait_spec (n : TicketNo) (hslot : p.pool.iceSlot = some n) (hfree : 4 ≤ p.pool.free.length) :
    let q := p.parkFillWait
    q.ice.state = .parked ∧ q.line.fillClaim = none ∧ q.pool.iceSlot = none ∧
      (q.ticket n).state = .done ∧ (q.ticket n).progress.outcome = some .parked := by
  let u : Part := Part.enterParked { p with line.fillClaim := none }
  have hq : p.parkFillWait = u.toCompletion n .parked := by
    have hfinish : u.finish n .parked = u.toCompletion n .parked := finish_enough u n .parked hfree
    rw [← hfinish, Part.parkFillWait]
    exact congrArg (fun slot => u.finishSlot slot .parked) hslot
  rw [hq]
  have hempty : (u.toCompletion n .parked).pool.iceSlot = none := by
    obtain ⟨-, -, -, hslot', -⟩ := toCompletion_pool u n .parked
    rw [hslot']
    exact if_pos hslot
  have hticket := ticket_toCompletion_self u n .parked
  exact ⟨rfl, rfl, hempty, congrArg Ticket.state hticket, congrArg (fun t => t.progress.outcome) hticket⟩

/-- PARK with a suspended fill: the fill ends PARKED with what it has, and the ice maker is PARKED (R114, R75). -/
theorem parkFilling_withdrawn (w : Work) (hsuspended : p.line.suspended = some w)
    (hslot : p.pool.iceSlot = some w.ticket) (hfree : 4 ≤ p.pool.free.length) :
    let q := p.parkFilling
    q.ice.state = .parked ∧ q.defrost.iceCopy = .parked ∧ q.ice.parkPending = false ∧
      q.line = { p.line with suspended := none } ∧ q.pool.iceSlot = none ∧
      q.ticket w.ticket = w.report p.supervision.params.flowK p.clock.partSeconds .parked (p.ticket w.ticket) ∧
      q.loads.heaters[(3 : HeaterNo)].ownerDemand = false ∧
      q.ice.moldLoaded = (if w.loaded then true else p.ice.moldLoaded) ∧
      q.ice.freezeStart = (if w.loaded then some p.clock.partSeconds else p.ice.freezeStart) ∧
      q.defrost.credit = p.defrost.credit := by
  intro q
  let u : Part := { p with ice.parkPending := true, line.suspended := none }
  have hq : q = u.fillEnded .withdrawn w := parkFilling_suspended p w hsuspended
  obtain ⟨-, hloads, hstate, hmold, hfreeze, hpark, hcopy, -, hcredit⟩ := fillEnded_spec u .withdrawn w hfree
  have hst : u.ice.afterFill EndingReason.withdrawn.outcome w.loaded = .parked := if_pos (.inl rfl)
  have hline : (u.fillEnded .withdrawn w).line = u.line := (fillEnded_frame .withdrawn w u).2.1
  rw [hq, hstate, hcopy, hline, fillEnded_iceSlot u .withdrawn w hfree hslot, ticket_fillEnded u .withdrawn w hfree,
    if_pos rfl, hloads, heaters_update, if_pos rfl, hmold, hfreeze, hcredit, hst]
  exact ⟨rfl, rfl, hpark hst, rfl, rfl, rfl, (dropOwner_spec _).1, rfl, rfl, rfl⟩

end

end Sys2Proof.Machine

namespace Sys2Proof.Machine

/-! RUN, RESUME and HARVEST_NOW (R115, R116). -/

section
variable (p : Part)

/-! Homing entered anew, by the home switch as it stands (R96). -/

theorem enterHoming_made (h : p.sense.home = some .made) : p.enterHoming = (p.setIceState .homing).homingSucceeds := by
  simp only [Part.enterHoming, Part.homeNow, setIceState_sense, h]

theorem enterHoming_released (h : p.sense.home = some .released) :
    p.enterHoming =
      { p.setIceState .homing with
        ice.ejector := true
        ice.homingDeadline := some (p.clock.now + p.supervision.params.ejectLimit * 1000000) } := by
  simp only [Part.enterHoming, Part.homeNow, setIceState_sense, h]
  rfl

theorem enterHoming_unread (h : p.sense.home = none) :
    p.enterHoming =
      { p.setIceState .homing with
        ice.homingDeadline := some (p.clock.now + p.supervision.params.ejectLimit * 1000000) } := by
  simp only [Part.enterHoming, Part.homeNow, setIceState_sense, h]
  rfl

theorem runIce_refused (h : p.ice.state ≠ .parked ∨ p.ejectorTest.isSome = true) : p.runIce = none := by
  refine if_neg fun ⟨hstate, htest⟩ => ?_
  rcases h with h | h
  · exact h hstate
  · rw [htest] at h
    exact nomatch h

theorem runIce_taken (h : p.ice.state = .parked) (ht : p.ejectorTest = none) :
    p.runIce =
      some
        (if p.ice.offHome then Part.enterHoming { p with ice.offHome := false }
        else if p.ice.moldLoaded then p.enterFreezing
        else p.enterFillWait) :=
  if_pos ⟨h, ht⟩

end

/-- An IDLE link hears a command with the ice maker as it was. -/
theorem heard_iceState (i : Instr) (s : State) (dt : Nat) (f : Frame) (h : hostRow i = some (dt, f)) :
    (s.heard i).ice.state = s.part.ice.state := by
  rw [heard_eq i s dt f h]
  rfl

section
variable (s : State) (dt : Nat) (tag : Byte) (hs : s.linkIdle)
include hs

theorem answers_park (t : Part) (ht : (s.heard (.iceControlPark dt tag)).park = some t) :
    Answers (.iceControlPark dt tag) s .ok t.settle.iceData t.settle :=
  answers_iceTaken _ s dt tag 0 hs rfl _ t (takeIceControl_park _) ht (park_inbox _ t ht)

theorem answers_run (t : Part) (ht : (s.heard (.iceControlRun dt tag)).runIce = some t) :
    Answers (.iceControlRun dt tag) s .ok t.settle.iceData t.settle :=
  answers_iceTaken _ s dt tag 1 hs rfl _ t (takeIceControl_run _) ht (runIce_inbox _ t ht)

theorem answers_resume (t : Part) (ht : (s.heard (.iceControlResume dt tag)).resumeIce = some t) :
    Answers (.iceControlResume dt tag) s .ok t.settle.iceData t.settle :=
  answers_iceTaken _ s dt tag 2 hs rfl _ t (takeIceControl_resume _) ht (resumeIce_inbox _ t ht)

theorem answers_harvestNow (t : Part) (ht : (s.heard (.iceControlHarvestNow dt tag)).harvestNow = some t) :
    Answers (.iceControlHarvestNow dt tag) s .ok t.settle.iceData t.settle :=
  answers_iceTaken _ s dt tag 3 hs rfl _ t (takeIceControl_harvestNow _) ht (harvestNow_inbox _ t ht)

end

/-- Settles O36: each request by the state that it finds; what a rule takes is answered OK after what follows at once,
the rest STATE. -/
theorem iceControlJudgesByState : Obligations.IceControlJudgesByState := by
  intro s dt tag hs data park run resume now st
  refine ⟨?_, ?_, ?_, ?_⟩
  · intro q
    have hst : q.ice.state = st := heard_iceState park s dt _ rfl
    refine ⟨fun hstate hpending => ?_, fun hstate => ?_, fun hstate hpending => ?_, fun hstate hpending => ?_,
      fun n hstate hpending hslot _ hfree => ?_, fun hstate hpending howner hline hsuspended => ?_,
      fun w hstate hpending hsuspended hslot _ hfree => ?_, fun hstate hpending hsuspended howner => ?_⟩
    · exact answers_iceRefused park s dt tag 0 hs rfl _ (takeIceControl_park q)
        (park_refused q hpending (hst ▸ hstate))
    · refine answers_park s dt tag hs q ?_
      cases hpending : q.ice.parkPending with
      | true => exact park_again q hpending
      | false => exact park_parked q hpending (hst.trans (hstate.resolve_right (by simp [hpending])))
    · exact ⟨q.enterParked, answers_park s dt tag hs _ (park_freezing q hpending (hst ▸ hstate)), rfl, rfl, rfl,
        rfl, rfl, rfl, rfl⟩
    · exact answers_park s dt tag hs _ (park_harvest q hpending (hst ▸ hstate))
    · exact ⟨q.parkFillWait, answers_park s dt tag hs _ (park_fillWait q hpending (hst.trans hstate)),
        parkFillWait_spec q n hslot hfree⟩
    · have hended := parkFilling_owner q hsuspended howner
      let u : Part := { q with ice.parkPending := true }
      have hclosed := endWork_line u .fill (.release .parked) (.inl hline) howner
      have hice : (u.endWork (.release .parked)).ice = u.ice := (endWork_frame _ u).2.2.1
      refine ⟨q.parkFilling, answers_park s dt tag hs _ (park_filling q hpending (hst.trans hstate)), ?_⟩
      rw [hended, hice, hclosed]
      exact ⟨hst.trans hstate, rfl, rfl, rfl, rfl⟩
    · obtain ⟨hparked, hcopy, hpark, hline, hnone, hticket, hheater, hmold, hfreeze, hcredit⟩ :=
        parkFilling_withdrawn q w hsuspended hslot hfree
      exact ⟨q.parkFilling, answers_park s dt tag hs _ (park_filling q hpending (hst.trans hstate)), hparked, hcopy,
        hpark, hline, hnone, congrArg Ticket.state hticket, congrArg (fun t => t.progress.outcome) hticket,
        congrArg (fun t => t.progress.measured) hticket, hheater, hmold, hfreeze, hcredit⟩
    · have ht := park_filling q hpending (hst.trans hstate)
      rw [parkFilling_unowned q hsuspended howner] at ht
      exact answers_park s dt tag hs _ ht
  · intro q
    have hst : q.ice.state = st := heard_iceState run s dt _ rfl
    refine ⟨fun hrefused => ?_, fun hstate htest => ?_⟩
    · exact answers_iceRefused run s dt tag 1 hs rfl _ (takeIceControl_run q) (runIce_refused q (hst ▸ hrefused))
    · refine ⟨_, answers_run s dt tag hs _ (runIce_taken q (hst.trans hstate) htest), fun hoff hhome => ?_,
        fun hoff hmold => ?_, fun hoff hmold => ?_⟩
      · rw [hoff, if_pos rfl, enterHoming_released { q with ice.offHome := false } hhome]
        exact ⟨rfl, rfl, rfl⟩
      · rw [hoff, hmold]
        exact ⟨rfl, rfl, rfl, rfl⟩
      · rw [hoff, hmold]
        exact congrArg IceMaker.state (enterFillWait_ice q).1
  · intro q
    have hst : q.ice.state = st := heard_iceState resume s dt _ rfl
    refine ⟨fun hrefused => ?_, fun hstate => ?_⟩
    · exact answers_iceRefused resume s dt tag 2 hs rfl _ (takeIceControl_resume q) (if_neg (hst ▸ hrefused))
    · refine ⟨q.enterHoming, answers_resume s dt tag hs _ (if_pos (hst.trans hstate)), fun hhome => ?_,
        fun hhome => ?_, fun hhome => ?_⟩
      · rw [enterHoming_made q hhome]
        exact ⟨rfl, rfl⟩
      · rw [enterHoming_released q hhome]
        exact ⟨rfl, rfl⟩
      · rw [enterHoming_unread q hhome]
        exact ⟨rfl, rfl⟩
  · intro q
    have hst : q.ice.state = st := heard_iceState now s dt _ rfl
    refine ⟨fun hrefused => ?_, fun hstate => ?_⟩
    · exact answers_iceRefused now s dt tag 3 hs rfl _ (takeIceControl_harvestNow q) (if_neg (hst ▸ hrefused))
    · obtain ⟨hice, -⟩ := endFreeze_spec false q
      refine ⟨q.endFreeze false, answers_harvestNow s dt tag hs _ (if_pos (hst.trans hstate)), ?_⟩
      rw [hice]
      exact ⟨rfl, rfl⟩

end Sys2Proof.Machine

namespace Sys2Proof.Machine

/-! The start of the head, condition by condition (R122 to R124, R128, R133). -/

section
variable (p : Part) (n : TicketNo) (byPaddle : Bool)

/-- The start conditions with no paddle pressed (R123). -/
theorem headReady_none_iff (hh : p.pool.queue.head? = some n) :
    p.headReady none = true ↔
      p.outlet.state = .idle ∧ p.sense.door = some .closed ∧ (p.ticket n).state = .queued ∧
        (p.ticket n).request.awaitPaddle = false ∧
        ((p.ticket n).isWater = true ∨
          p.sense.flap.isSome = true ∧ (p.outlet.flap = .closed ∨ p.outlet.chuteFault = true)) ∧
        ((p.ticket n).isWater = true → (p.ticket n).request.coldOnly = true →
          (p.reading tank).status ≠ .notReady) := by
  rw [Part.headReady, headIs_of_head p n _ hh]
  simp [Ticket.awaits, and_assoc, imp_iff_not_or, or_assoc]

theorem startOne_unready (press : Option Paddle) (h : p.headReady press = false) : p.startOne press = p := by
  unfold Part.startOne
  split
  · rfl
  · rw [h]
    rfl

/-- The outlet with the start notes taken, in LINE_WAIT for its claim (R123, R128). -/
def Part.lineWaiting (byPaddle : Bool) (p : Part) : Part :=
  { p with
    outlet := { p.outlet with paddleStarted := byPaddle, tankNote := (p.reading tank).temp, state := .lineWait } }

/-- The outlet with the start notes taken, its head ended at its start check (R123, R124). -/
def Part.checked (byPaddle : Bool) (p : Part) : Part :=
  { p with outlet := { p.outlet with paddleStarted := byPaddle, tankNote := (p.reading tank).temp } }

/-- A water head that any tank serves claims the line, and so does one whose tank is cold enough (R124, R128). -/
theorem startHead_claims (hw : (p.ticket n).isWater = true)
    (htank : (p.ticket n).request.coldOnly = false ∨
      ∃ x, (p.reading tank).measured = some x ∧ x ≤ p.supervision.params.waterColdLimit) :
    p.startHead n byPaddle = (p.lineWaiting byPaddle).claimDispense n := by
  rw [startHead_of_water p n byPaddle hw]
  rcases htank with hany | ⟨x, hx, hcold⟩
  · exact startWater_anyTank { p with outlet.paddleStarted := byPaddle } n hany
  · cases hany : (p.ticket n).request.coldOnly with
    | false => exact startWater_anyTank { p with outlet.paddleStarted := byPaddle } n hany
    | true =>
      have hread : (Part.reading tank { p with outlet.paddleStarted := byPaddle }).measured = some x := hx
      refine (if_pos hany).trans ?_
      dsimp only
      rw [hread]
      exact if_neg (Int.not_lt.2 hcold)

/-- A COLD_ONLY head whose tank is in FAULT ends SENSOR (R124). -/
theorem startHead_sensor (hw : (p.ticket n).isWater = true) (hc : (p.ticket n).request.coldOnly = true)
    (hm : (p.reading tank).measured = none) :
    p.startHead n byPaddle = (p.checked byPaddle).finishUnstarted .sensor := by
  have hread : (Part.reading tank { p with outlet.paddleStarted := byPaddle }).measured = none := hm
  rw [startHead_of_water p n byPaddle hw]
  refine (if_pos hc).trans ?_
  dsimp only
  rw [hread]
  rfl

/-- A COLD_ONLY head whose tank is too warm ends WARM (R124). -/
theorem startHead_warm (hw : (p.ticket n).isWater = true) (hc : (p.ticket n).request.coldOnly = true) (x : Int)
    (hm : (p.reading tank).measured = some x) (hwarm : p.supervision.params.waterColdLimit < x) :
    p.startHead n byPaddle = (p.checked byPaddle).finishUnstarted .warm := by
  have hread : (Part.reading tank { p with outlet.paddleStarted := byPaddle }).measured = some x := hm
  rw [startHead_of_water p n byPaddle hw]
  refine (if_pos hc).trans ?_
  dsimp only
  rw [hread]
  exact if_pos hwarm

theorem claimDispense_leak (hleak : p.line.leakLatch = true) : p.claimDispense n = p.finishUnstarted .leak :=
  if_pos hleak

theorem claimDispense_suspends (hleak : p.line.leakLatch = false) (hline : p.line.state = .opened)
    (howner : p.line.owner = some .fill) : p.claimDispense n = p.suspendFill n := by
  simp only [Part.claimDispense, hleak, hline, howner, Bool.false_eq_true, if_false]

theorem claimDispense_waits (hleak : p.line.leakLatch = false) (hline : p.line.state = .settle) :
    p.claimDispense n = { p with line.dispenseClaim := some n } := by
  simp only [Part.claimDispense, hleak, hline, Bool.false_eq_true, if_false]

/-- A claim on an IDLE line with the door CLOSED is granted: the head runs (R71, R128). -/
theorem lineWaiting_granted (hw : (p.ticket n).isWater = true) (hleak : p.line.leakLatch = false)
    (hidle : p.line.state = .idle) (hdoor : p.sense.door = some .closed) :
    let q := (p.lineWaiting byPaddle).claimDispense n
    q.outlet.state = .running ∧ q.line.state = .opened ∧ q.line.owner = some .dispense ∧ q.line.inlet = true ∧
      q.line.dispense = true ∧ (q.ticket n).state = .active ∧
      (q.ticket n).progress.tankTemp = (p.reading tank).temp := by
  let u : Part := p.lineWaiting byPaddle
  have hclosed : u.sense.door ≠ some .opened := by
    change p.sense.door ≠ some .opened
    rw [hdoor]
    decide
  have hticket : ((u.grantDispense n).ticket n) =
      (p.ticket n).started p.clock.partSeconds byPaddle (p.reading tank).temp := by
    rw [grantDispense_closed u n hclosed]
    exact ticket_openDispense u n
  dsimp only
  rw [claimDispense_idle u n hleak hidle, hticket, grantDispense_closed u n hclosed]
  exact ⟨rfl, rfl, rfl, rfl, rfl, rfl, if_pos hw⟩

/-- A head that ends before it has become ACTIVE, its record kept: the outlet is IDLE with the rest of the queue, and
the line and the loads are as they were (R122, R123). -/
theorem finishUnstarted_spec (o : TicketOutcome) (rest : List TicketNo) (hqueue : p.pool.queue = n :: rest)
    (hkept : p.keepsRecord n) :
    let q := p.finishUnstarted o
    q.outlet.state = .idle ∧ q.pool.queue = rest ∧ q.line = p.line ∧ q.loads = p.loads ∧
      q.ticket n = ((p.ticket n).noted p.outlet).finished p.clock.partSeconds o := by
  have hh : p.pool.queue.head? = some n := by rw [hqueue]; rfl
  dsimp only
  rw [ticket_finishUnstarted p n n o hh hkept, if_pos rfl, finishUnstarted_of_head p n o hh hkept]
  refine ⟨rfl, ?_, rfl, rfl, rfl⟩
  change p.pool.queue.erase n = rest
  rw [hqueue, List.erase_cons_head]

/-- The start of a head that needs the flap, with the chute in order (R130, R133, R142). -/
theorem startFlap_opens (hfault : p.outlet.chuteFault = false) :
    p.startFlap n = Part.beginOpening { p.activateHead n with outlet.state := .opening, outlet.run := {} } :=
  if_neg (by rw [hfault]; decide)

theorem startFlap_faulted (hfault : p.outlet.chuteFault = true) : p.startFlap n = p.finishUnstarted .chuteFault :=
  if_pos hfault

theorem beginOpening_heater : p.beginOpening.loads.heaters[(4 : HeaterNo)].ownerDemand = true := by
  change (p.loads.update 4 Heater.raiseOwner).heaters[(4 : HeaterNo)].ownerDemand = true
  rw [heaters_update, if_pos rfl]
  exact (raiseOwner_spec _).1

end

theorem valid_ready (r : Reading) (h : r.status = .ok ∨ r.status = .range) : r.status ≠ .notReady := by
  rcases h with h | h <;> rw [h] <;> decide

/-- Settles O39: the head's conditions, then what its start does by the line, the tank and the chute. -/
theorem headsStart : Obligations.HeadsStart := by
  intro s dt n rest hr p t hqueue hidle hqueued
  have hh : p.pool.queue.head? = some n := by rw [hqueue]; rfl
  have hrow : Becomes (.headStart dt) s (p.startOne none).settle :=
    becomes_row (.headStart dt) s dt (fun p => (p.startOne none).settle) hr rfl
  let byPaddle : Bool := t.awaits none || t.origin == some .paddle
  have hstart (h : p.headReady none = true) : Becomes (.headStart dt) s (p.startHead n byPaddle).settle := by
    rw [startOne_ready p n none hh h] at hrow
    exact hrow
  have hstay (h : ¬p.headReady none = true) : Becomes (.headStart dt) s p.settle := by
    rw [startOne_unready p none (Bool.eq_false_iff.2 h)] at hrow
    exact hrow
  refine ⟨fun hawait => hstay fun h => ?_,
    fun hawait => ⟨fun hdoor => hstay fun h => ?_, fun hdoor hkind hany => ?_, fun hdoor hkind hflap => ?_⟩,
    fun hawait hdoor hkind hcold => ?_⟩
  · obtain ⟨-, -, -, hnot, -⟩ := (headReady_none_iff p n hh).1 h
    exact absurd (hawait.symm.trans hnot) (by decide)
  · obtain ⟨-, hclosed, -⟩ := (headReady_none_iff p n hh).1 h
    exact hdoor hclosed
  · have hw := isWater_of_kind t hkind
    have hready := (headReady_none_iff p n hh).2
      ⟨hidle, hdoor, hqueued, hawait, .inl hw, fun _ hc => absurd (hany.symm.trans hc) (by decide)⟩
    have hclaim := startHead_claims p n byPaddle hw (.inl hany)
    refine ⟨_, hclaim ▸ hstart hready, fun hleak hline => lineWaiting_granted p n byPaddle hw hleak hline hdoor,
      fun hleak hline howner => ?_, fun hleak hline => ?_, fun hleak horigin => ?_⟩
    · rw [claimDispense_suspends (p.lineWaiting byPaddle) n hleak hline howner]
      refine ⟨rfl, rfl, rfl, rfl, rfl, rfl, fun w hw' => ⟨w.stopOpen p.clock.now, ?_, rfl, rfl, rfl⟩, rfl, rfl⟩
      exact congrArg (Option.map (Work.stopOpen p.clock.now)) hw'
    · rw [claimDispense_waits (p.lineWaiting byPaddle) n hleak hline]
      exact ⟨rfl, rfl, hqueued⟩
    · obtain ⟨hstate, hrest, hline, -, hticket⟩ :=
        finishUnstarted_spec (p.lineWaiting byPaddle) n .leak rest hqueue (.inl horigin)
      rw [claimDispense_leak (p.lineWaiting byPaddle) n hleak, hticket]
      exact ⟨hstate, hrest, rfl, rfl, hline⟩
  · obtain ⟨-, hw⟩ := isIce_of_kind t hkind
    let u : Part := { p with outlet.paddleStarted := byPaddle }
    have hstarted : p.startHead n byPaddle = u.startFlap n := startHead_of_flap p n byPaddle hw
    have hready (hchute : p.outlet.flap = .closed ∨ p.outlet.chuteFault = true) : p.headReady none = true :=
      (headReady_none_iff p n hh).2
        ⟨hidle, hdoor, hqueued, hawait, .inr ⟨hflap, hchute⟩, fun h => absurd (hw.symm.trans h) (by decide)⟩
    by_cases hchute : p.outlet.flap = .closed ∨ p.outlet.chuteFault = true
    · refine ⟨_, hstarted ▸ hstart (hready hchute), fun hfault _ => ?_, fun hfault horigin => ?_⟩
      · have hticket := ticket_activateHead u n
        rw [startFlap_opens u n hfault]
        exact ⟨rfl, rfl, rfl, rfl, congrArg Ticket.state hticket, congrArg (fun t => t.progress.startTime) hticket,
          beginOpening_heater _, rfl⟩
      · obtain ⟨hstate, hrest, -, hloads, hticket⟩ := finishUnstarted_spec u n .chuteFault rest hqueue (.inl horigin)
        rw [startFlap_faulted u n hfault, hticket]
        exact ⟨hstate, hrest, rfl, rfl, hloads⟩
    · refine ⟨p, hstay fun h => ?_, fun _ hclosed => absurd (.inl hclosed) hchute,
        fun hfault => absurd (.inr hfault) hchute⟩
      obtain ⟨-, -, -, -, hwater | ⟨-, hchute'⟩, -⟩ := (headReady_none_iff p n hh).1 h
      · exact absurd (hw.symm.trans hwater) (by decide)
      · exact hchute hchute'
  · intro r ends
    have hw := isWater_of_kind t hkind
    have hready (hread : (p.reading tank).status ≠ .notReady) : p.headReady none = true :=
      (headReady_none_iff p n hh).2 ⟨hidle, hdoor, hqueued, hawait, .inl hw, fun _ _ => hread⟩
    have hends (o : TicketOutcome) (hread : (p.reading tank).status ≠ .notReady)
        (ho : p.startHead n byPaddle = (p.checked byPaddle).finishUnstarted o) : ends o := by
      intro hkept
      obtain ⟨hstate, hrest, hline, -, hticket⟩ := finishUnstarted_spec (p.checked byPaddle) n o rest hqueue hkept
      refine ⟨_, ho ▸ hstart (hready hread), hstate, hrest, ?_⟩
      rw [hticket]
      exact ⟨rfl, rfl, rfl, if_pos hw, hline⟩
    refine ⟨fun hunread => hstay fun h => ?_, fun hfault => ?_,
      fun x hvalid hx => ⟨fun hwarm => ?_, fun hle hleak hline => ?_⟩⟩
    · obtain ⟨-, -, -, -, -, hread⟩ := (headReady_none_iff p n hh).1 h
      exact hread hw hcold hunread
    · have hread : (p.reading tank).status ≠ .notReady := fun h => nomatch hfault.symm.trans h
      exact hends .sensor hread (startHead_sensor p n byPaddle hw hcold (measured_of_fault _ hfault))
    · exact hends .warm (valid_ready _ hvalid)
        (startHead_warm p n byPaddle hw hcold x (measured_of_valid _ x hvalid hx) hwarm)
    · have hclaim := startHead_claims p n byPaddle hw (.inr ⟨x, measured_of_valid _ x hvalid hx, hle⟩)
      obtain ⟨hstate, hopen, howner, -, -, hactive, htemp⟩ := lineWaiting_granted p n byPaddle hw hleak hline hdoor
      exact ⟨_, hclaim ▸ hstart (hready (valid_ready _ hvalid)), hstate, hopen, howner, hactive, htemp.trans hx⟩

end Sys2Proof.Machine

namespace Sys2Proof.Machine

/-! The end of a line SETTLE: the work is reported, the heads are tried, and the line is given on (R72, R79). -/

theorem outcome_parked_iff (r : EndingReason) : r.outcome = .parked ↔ r = .withdrawn ∨ r = .release .parked := by
  cases r <;> simp [EndingReason.outcome]

theorem outcome_complete_iff (r : EndingReason) : r.outcome = .complete ↔ r = .target ∨ r = .release .complete := by
  cases r <;> simp [EndingReason.outcome]

section
variable (p : Part)

theorem reportWork_unfinished (hw : p.line.work = none) : p.reportWork = p := by
  unfold Part.reportWork
  rw [hw]
  split
  next h _ => exact nomatch h
  next h _ => exact nomatch h
  next => rfl

theorem reportWork_fill (w : Work) (r : EndingReason) (hc : p.line.closingOwner = some .fill)
    (hw : p.line.work = some w) (hr : p.line.ending = some r) : p.reportWork = p.fillEnded r w := by
  simp only [Part.reportWork, hc, hw, hr]

/-- The work of a LINK head is reported, and the outlet returns to IDLE (R79, R122). -/
theorem reportWork_dispense (w : Work) (r : EndingReason) (hc : p.line.closingOwner = some .dispense)
    (hw : p.line.work = some w) (hr : p.line.ending = some r) (hh : p.pool.queue.head? = some w.ticket)
    (hlink : (p.ticket w.ticket).origin = some .link) : p.reportWork = (p.reported w r.outcome).idleOutlet := by
  have hhead : (p.writeAmounts w).head = some w.ticket := hh
  have horigin : ((p.writeAmounts w).ticket w.ticket).origin = some .link := by
    rw [ticket_writeAmounts, if_pos rfl]
    exact hlink
  simp only [Part.reportWork, hc, hw, hr, Part.finishHead, hhead, Part.finishSlot]
  rw [finish_link _ _ _ horigin]
  rfl

/-! Where no head is ready, none starts. -/

theorem startHeads_unready (h : p.headReady none = false) : p.startHeads = p := by
  rw [Part.startHeads, Part.startUpTo, h]
  rfl

theorem headReady_busy (press : Option Paddle) (h : p.outlet.state ≠ .idle) : p.headReady press = false := by
  simp [Part.headReady, h]

theorem headReady_empty (press : Option Paddle) (h : p.pool.queue = []) : p.headReady press = false := by
  rw [Part.headReady, headIs_nil p _ h, Bool.and_false]

/-- The start conditions read the outlet, the inputs and the head. -/
theorem headReady_congr (q : Part) (press : Option Paddle) (houtlet : q.outlet = p.outlet) (hsense : q.sense = p.sense)
    (hparams : q.supervision.params = p.supervision.params) (hqueue : q.pool.queue = p.pool.queue)
    (hticket : ∀ n ∈ p.pool.queue, q.ticket n = p.ticket n) :
    q.headReady press = p.headReady press := by
  have hreading (c : ChannelNo) : q.reading c = p.reading c := by
    rw [Part.reading, Part.reading, hsense, hparams]
  have hhead (f g : Ticket → Bool) (hfg : f = g) : q.headIs f = p.headIs g := by
    unfold Part.headIs Part.head
    rw [hqueue, hfg]
    cases hh : p.pool.queue.head? with
    | none => rfl
    | some n => exact congrArg g (hticket n (List.mem_of_head? hh))
  unfold Part.headReady
  rw [houtlet, hsense, hreading]
  exact congrArg _ (hhead _ _ rfl)

/-! The line given on (R72). -/

theorem giveLine_fill (hclaim : p.line.dispenseClaim = none) :
    p.giveLine = Part.judgeFill { p with line := p.line.toIdle } := by
  have hclaim' : p.line.toIdle.dispenseClaim = none := hclaim
  simp only [Part.giveLine, hclaim']

theorem giveLine_outlet (n : TicketNo) (hclaim : p.line.dispenseClaim = some n) :
    p.giveLine = Part.grantDispense n { p with line := p.line.toIdle } := by
  have hclaim' : p.line.toIdle.dispenseClaim = some n := hclaim
  simp only [Part.giveLine, hclaim']

/-- With nobody waiting, the line is IDLE. -/
theorem giveLine_idle (hclaim : p.line.dispenseClaim = none)
    (hnobody : ¬(p.line.supply = .ok ∧ p.line.leakLatch = false) ∨
      p.line.suspended = none ∧ p.line.fillClaim = none) :
    p.giveLine = { p with line := p.line.toIdle } := by
  rw [giveLine_fill p hclaim]
  rcases hnobody with hblocked | ⟨hsuspended, hfill⟩
  · refine judgeFill_blocked _ (Bool.eq_false_iff.2 fun h => hblocked ?_)
    obtain ⟨-, hfree⟩ := (freeForFill_iff _).1 h
    exact hfree
  · exact judgeFill_unclaimed { p with line := p.line.toIdle } hsuspended hfill

theorem toIdle_free (hfree : p.line.supply = .ok ∧ p.line.leakLatch = false) : p.line.toIdle.freeForFill = true :=
  (freeForFill_iff _).2 ⟨rfl, hfree⟩

/-- A suspended fill has the line first. -/
theorem giveLine_resumes (v : Work) (hclaim : p.line.dispenseClaim = none)
    (hfree : p.line.supply = .ok ∧ p.line.leakLatch = false) (hsuspended : p.line.suspended = some v) :
    p.giveLine = Part.resumeFill v { p with line := p.line.toIdle } := by
  rw [giveLine_fill p hclaim]
  exact judgeFill_resumes { p with line := p.line.toIdle } v (toIdle_free p hfree) hsuspended

/-- Then a fill claim. -/
theorem giveLine_grants (m : TicketNo) (hclaim : p.line.dispenseClaim = none)
    (hfree : p.line.supply = .ok ∧ p.line.leakLatch = false) (hsuspended : p.line.suspended = none)
    (hfill : p.line.fillClaim = some m) : p.giveLine = Part.grantFill m { p with line := p.line.toIdle } := by
  rw [giveLine_fill p hclaim]
  exact judgeFill_grants { p with line := p.line.toIdle } m (toIdle_free p hfree) hsuspended hfill

theorem ticket_grantFill_other (n m : TicketNo) (h : m ≠ n) : (p.grantFill n).ticket m = p.ticket m := by
  change ((p.openLine .fill n).activate n).ticket m = _
  rw [Part.activate, ticket_updateTicket, if_neg h]
  rfl

theorem ticket_resumeFill (w : Work) (m : TicketNo) (h : p.pool.iceSlot ≠ some m) :
    (p.resumeFill w).ticket m = p.ticket m := by
  cases hfull : w.target.any (· ≤ w.pulses) with
  | false =>
    rw [resumeFill_short p w hfull]
    rfl
  | true =>
    rw [resumeFill_full p w hfull, Part.tellEnding, ticket_updateSlot, if_neg h]
    rfl

/-- What the judgement of the fill leaves of the tickets and the queue. -/
theorem ticket_judgeFill (m : TicketNo) (hfill : p.line.fillClaim ≠ some m)
    (hslot : ∀ v, p.line.suspended = some v → p.pool.iceSlot ≠ some m) : p.judgeFill.ticket m = p.ticket m := by
  rcases judgeFill_cases p with h | ⟨w, hw, h⟩ | ⟨n, hn, h⟩ <;> rw [h]
  · exact ticket_resumeFill p w m (hslot w hw)
  · exact ticket_grantFill_other p n m fun hm => hfill (hm ▸ hn)

/-- The judgement of the fill leaves the outlet. -/
theorem judgeFill_outlet : p.judgeFill.outlet = p.outlet := by
  rcases judgeFill_cases p with h | ⟨w, -, h⟩ | ⟨n, -, h⟩ <;> rw [h]
  · unfold Part.resumeFill Part.tellEnding
    split
    · dsimp only
      cases hslot : p.pool.iceSlot <;> rfl
    · rfl
  · rfl

theorem updateSlot_lists (slot : Option TicketNo) (f : Ticket → Ticket) :
    (p.updateSlot slot f).pool = { p.pool with tickets := (p.updateSlot slot f).pool.tickets } := by
  cases slot <;> rfl

theorem resumeFill_lists (w : Work) :
    (p.resumeFill w).pool = { p.pool with tickets := (p.resumeFill w).pool.tickets } := by
  unfold Part.resumeFill
  split
  · exact updateSlot_lists _ p.pool.iceSlot Ticket.stopping
  · rfl

theorem judgeFill_queue : p.judgeFill.pool.queue = p.pool.queue := by
  rcases judgeFill_cases p with h | ⟨w, -, h⟩ | ⟨n, -, h⟩ <;> rw [h]
  · rw [resumeFill_lists]
  · rfl

/-- The line given on with no fill waiting leaves the ice maker, the loads, the defrost and the ice slot. -/
theorem giveLine_unwaited (hsuspended : p.line.suspended = none) (hfill : p.line.fillClaim = none) :
    p.giveLine.ice = p.ice ∧ p.giveLine.loads = p.loads ∧ p.giveLine.defrost = p.defrost ∧
      p.giveLine.pool.iceSlot = p.pool.iceSlot := by
  cases hclaim : p.line.dispenseClaim with
  | none =>
    rw [giveLine_idle p hclaim (.inr ⟨hsuspended, hfill⟩)]
    exact ⟨rfl, rfl, rfl, rfl⟩
  | some n =>
    rw [giveLine_outlet p n hclaim]
    obtain ⟨-, hloads, hice, hdefrost⟩ := grantDispense_frame n { p with line := p.line.toIdle }
    refine ⟨hice, hloads, hdefrost, ?_⟩
    unfold Part.grantDispense Part.pauseLine
    dsimp only
    (repeat' split) <;> rfl

theorem ticket_grantDispense_other (n m : TicketNo) (h : m ≠ n) (hdoor : p.sense.door ≠ some .opened) :
    (p.grantDispense n).ticket m = p.ticket m := by
  rw [grantDispense_closed p n hdoor]
  change (((p.openLine .dispense n).activate n).updateTicket n _).ticket m = _
  rw [ticket_updateTicket, if_neg h, Part.activate, ticket_updateTicket, if_neg h]
  rfl

end

/-- Settles O35: the three ends of a SETTLE by the work that it reports, and the line given on by the claims. -/
theorem lineSettleEndsTheWork : Obligations.LineSettleEndsTheWork := by
  intro s dt e hr p ps k reported idle fresh givenToTheFill givenToTheOutlet hsettle hend
  have hdue (he : e ≤ p.clock.now) : p.dueLineSettle = true := by
    rw [Part.dueLineSettle, hend, hsettle]
    exact decide_eq_true he
  have hrow (he : e ≤ p.clock.now) (hready : p.reportWork.headReady none = false) :
      Becomes (.lineSettleEnd dt) s p.reportWork.giveLine.settle := by
    have hb := becomes_due (.lineSettleEnd dt) s dt Part.dueLineSettle Part.endLineSettle hr rfl (hdue he)
    rw [Part.endLineSettle, startHeads_unready _ hready] at hb
    exact hb
  have hreported (w : Work) (r : EndingReason) (q : Part) (now : Nat) (t : Ticket)
      (hq : q.ticket w.ticket = w.report k now r.outcome t) : reported w r q := by
    simp only [reported, hq]
    refine ⟨rfl, rfl, ?_, ?_⟩
    · change sat16 (overshootMl k w.pulses w.target) = _
      unfold overshootMl
      cases w.target <;> rfl
    · cases r <;> rfl
  have hfill (q : Part) (hline : q.line = p.line) (hclock : q.clock = p.clock)
      (hsupervision : q.supervision = p.supervision) (hclaim : p.line.dispenseClaim = none) :
      givenToTheFill q.giveLine := by
    rw [← hline] at hclaim
    simp only [givenToTheFill, idle, fresh, k, ps]
    rw [← hline, ← hclock, ← hsupervision]
    refine ⟨fun hnobody => ?_, fun v hfree hsuspended => ?_, fun m hfree hsuspended hfillClaim => ?_⟩
    · rw [giveLine_idle q hclaim hnobody]
      exact ⟨rfl, rfl, rfl, rfl, rfl, rfl, rfl, rfl, rfl⟩
    · rw [giveLine_resumes q v hclaim hfree hsuspended]
      cases hfull : v.target.any (· ≤ v.pulses) with
      | false =>
        rw [resumeFill_short _ v hfull]
        exact ⟨rfl, fun _ => ⟨rfl, rfl, rfl, rfl, v.resume q.clock.now, rfl, rfl, rfl, rfl, rfl⟩,
          fun h => nomatch h⟩
      | true =>
        rw [resumeFill_full _ v hfull, (tellEnding_frame _ _ _).2.1]
        exact ⟨rfl, (fun h => nomatch h), fun _ => ⟨rfl, rfl, rfl, rfl, rfl⟩⟩
    · rw [giveLine_grants q m hclaim hfree hsuspended hfillClaim]
      exact ⟨rfl, rfl, rfl, rfl, rfl, rfl, grantFill_heater _ m, congrArg Ticket.state (ticket_grantFill _ m)⟩
  have houtlet (q : Part) (n : TicketNo) (hline : q.line = p.line) (hclock : q.clock = p.clock)
      (hsupervision : q.supervision = p.supervision) (hsense : q.sense = p.sense) (hticket : q.ticket n = p.ticket n)
      (hclaim : p.line.dispenseClaim = some n) (hdoor : p.sense.door = some .closed) :
      givenToTheOutlet n q.giveLine := by
    rw [← hline] at hclaim
    simp only [givenToTheOutlet, fresh, k, ps]
    rw [← hline, ← hclock, ← hsupervision, ← hticket, giveLine_outlet q n hclaim,
      grantDispense_closed _ n (by change q.sense.door ≠ _; rw [hsense, hdoor]; decide)]
    exact ⟨rfl, rfl, rfl, rfl, rfl, rfl, rfl, rfl, rfl, congrArg Ticket.state (ticket_openDispense _ n), rfl⟩
  refine ⟨fun hearly => ?_, fun w r he hc hw hending hqueue hlink hclaim hother hslot => ?_,
    fun w r he hc hw hending hslot _ hfree hnofill hnosuspended hready => ?_, fun he hw hready => ?_⟩
  · refine becomes_early (.lineSettleEnd dt) s dt Part.dueLineSettle Part.endLineSettle hr rfl ?_
    rw [Part.dueLineSettle, hend, hsettle]
    exact decide_eq_false (Nat.not_le.2 hearly)
  · have hh : p.pool.queue.head? = some w.ticket := by rw [hqueue]; rfl
    have hreport := reportWork_dispense p w r hc hw hending hh hlink
    let q : Part := (p.reported w r.outcome).idleOutlet
    have hempty : q.pool.queue = [] := by
      change p.pool.queue.erase w.ticket = []
      rw [hqueue, List.erase_cons_head]
    have hgiven : q.giveLine = Part.judgeFill { q with line := q.line.toIdle } := giveLine_fill q hclaim
    have hticket : q.giveLine.ticket w.ticket = (p.reported w r.outcome).ticket w.ticket := by
      rw [hgiven]
      exact ticket_judgeFill _ w.ticket hother fun _ _ hheld => emptied_ne w.ticket p.pool.iceSlot hheld
    have hb := hrow he (by rw [hreport]; exact headReady_empty q none hempty)
    rw [hreport] at hb
    refine ⟨q.giveLine, hb, ?_, ?_, hreported w r _ p.clock.partSeconds (p.ticket w.ticket) ?_,
      hfill q rfl rfl rfl hclaim⟩
    · rw [hgiven, judgeFill_outlet]
      rfl
    · rw [hgiven, judgeFill_queue]
      exact hempty
    · rw [hticket, ticket_reported, if_pos rfl]
  · have hreport := reportWork_fill p w r hc hw hending
    let q : Part := p.fillEnded r w
    obtain ⟨⟨hclock, -, hsense, hsupervision, -⟩, hline, houtletKept⟩ := fillEnded_frame r w p
    obtain ⟨-, hloads, hstate, hmold, hfreeze, hpark, hcopy, -, hcredit⟩ := fillEnded_spec p r w hfree
    have hunready : q.headReady none = false := by
      rcases hready with hbusy | ⟨hnot, habsent⟩
      · exact headReady_busy q none (houtletKept ▸ hbusy)
      · rw [← hnot]
        refine headReady_congr p q none houtletKept hsense (congrArg Supervision.params hsupervision) ?_ fun m hm => ?_
        · rw [fillEnded_queue p r w hfree, List.erase_of_not_mem habsent]
        · rw [ticket_fillEnded p r w hfree, if_neg fun h : m = w.ticket => habsent (h ▸ hm)]
    have hb := hrow he (by rw [hreport]; exact hunready)
    rw [hreport] at hb
    have hticket : q.ticket w.ticket = w.report k p.clock.partSeconds r.outcome (p.ticket w.ticket) := by
      rw [ticket_fillEnded p r w hfree, if_pos rfl]
    obtain ⟨hice, hloadsKept, hdefrost, hiceSlot⟩ :=
      giveLine_unwaited q (hline ▸ hnosuspended) (hline ▸ hnofill)
    have hcompleteIff := outcome_complete_iff r
    have hparkedIff := or_congr (Iff.refl (p.ice.parkPending = true)) (outcome_parked_iff r)
    refine ⟨q.giveLine, hb, fun hclaim => ?_, fun n hclaim hn hdoor => ?_, ?_, ?_, ?_, ?_, ?_, ?_, ?_, ?_⟩
    · have hidle := giveLine_idle q (hline ▸ hclaim) (.inr ⟨hline ▸ hnosuspended, hline ▸ hnofill⟩)
      obtain ⟨hnobody, -⟩ := hfill q hline hclock hsupervision hclaim
      refine ⟨hnobody (.inr ⟨hnosuspended, hnofill⟩),
        hreported w r _ p.clock.partSeconds (p.ticket w.ticket) ?_⟩
      rw [hidle]
      exact hticket
    · have hother : q.ticket n = p.ticket n := by rw [ticket_fillEnded p r w hfree, if_neg hn]
      refine ⟨houtlet q n hline hclock hsupervision hsense hother hclaim hdoor,
        hreported w r _ p.clock.partSeconds (p.ticket w.ticket) ?_⟩
      rw [giveLine_outlet q n (hline ▸ hclaim), ticket_grantDispense_other _ n w.ticket (Ne.symm hn)
        (by change q.sense.door ≠ _; rw [hsense, hdoor]; decide)]
      exact hticket
    · rw [hiceSlot, fillEnded_iceSlot p r w hfree hslot]
    · rw [hloadsKept, hloads, heaters_update, if_pos rfl]
      exact (dropOwner_spec _).1
    · rw [hice, hmold]
      rfl
    · rw [hice, hfreeze]
      rfl
    · rw [hice, hstate]
      exact if_congr hparkedIff rfl (if_congr (or_congr hcompleteIff Iff.rfl) rfl rfl)
    · rw [hdefrost, hice, hcopy, hstate]
    · intro hparked
      rw [hice]
      exact hpark (if_pos (hparkedIff.2 hparked))
    · intro hbound
      rw [hdefrost, hcredit]
      exact if_congr (and_congr hcompleteIff (accrues_iff p.defrost.state)) rfl rfl
  · have hreport := reportWork_unfinished p hw
    have hb := hrow he (by
      rw [hreport]
      exact hready.elim (headReady_busy p none) id)
    rw [hreport] at hb
    exact ⟨p.giveLine, hb, hfill p rfl rfl rfl, fun n => houtlet p n rfl rfl rfl rfl rfl⟩

end Sys2Proof.Machine

namespace Sys2Proof.Machine

/-! The queue and the other lists of the pool: a queued ticket stands in no other place (R1), and a retirement takes
from the completion queue alone. -/

/-- No ticket is twice in the dispenser queue, or both there and in the free list or the completion queue (R1). -/
def Pool.queueApart (q : Pool) : Prop := q.queue.Nodup ∧ ∀ m ∈ q.queue, m ∉ q.free ∧ m ∉ q.completion

/-- Every ticket in one place keeps the queue apart. -/
theorem queueApart_of_places (q : Pool) (h : ∀ n : TicketNo, q.places n = 1) : q.queueApart := by
  refine ⟨List.nodup_iff_count_le_one.2 fun n => ?_, fun m hm => ⟨fun hfree => ?_, fun hdone => ?_⟩⟩
  · have hn := h n
    unfold Pool.places at hn
    omega
  · have hn := h m
    have hqueue := List.count_pos_iff.2 hm
    have hcount := List.count_pos_iff.2 hfree
    unfold Pool.places at hn
    omega
  · have hn := h m
    have hqueue := List.count_pos_iff.2 hm
    have hcount := List.count_pos_iff.2 hdone
    unfold Pool.places at hn
    omega

theorem mem_retireUpTo_free (k : Nat) (p : Part) (m : TicketNo) (h : m ∈ (p.retireUpTo k).pool.free) :
    m ∈ p.pool.free ∨ m ∈ p.pool.completion := by
  induction k generalizing p with
  | zero => exact .inl h
  | succ k ih =>
    unfold Part.retireUpTo at h
    split at h
    · split at h
      · exact .inl h
      next n hn =>
        obtain ⟨hmem, -⟩ := oldestRetirable_some p n hn
        obtain ⟨hfree, hcompletion, -⟩ := retire_pool n p
        rcases ih (p.retire n) h with hm | hm
        · rw [hfree, List.mem_append, List.mem_singleton] at hm
          exact hm.elim .inl fun hmn => .inr (hmn ▸ hmem)
        · rw [hcompletion] at hm
          exact .inr (List.mem_of_mem_erase hm)
    · exact .inl h

/-- The end of a ticket's work keeps the queue apart. -/
theorem finish_queueApart (p : Part) (n : TicketNo) (o : TicketOutcome) (h : p.pool.queueApart) :
    (p.finish n o).pool.queueApart := by
  obtain ⟨hnodup, hapart⟩ := h
  have hdone : (p.toCompletion n o).pool.queueApart := by
    refine ⟨hnodup.erase n, fun m hm => ?_⟩
    obtain ⟨hne, hmem⟩ := hnodup.mem_erase_iff.1 hm
    obtain ⟨hfree, hcompletion⟩ := hapart m hmem
    refine ⟨hfree, fun hin => ?_⟩
    rcases List.mem_append.1 hin with hold | hnew
    · exact hcompletion hold
    · exact hne (List.mem_singleton.1 hnew)
  unfold Part.finish
  split
  · obtain ⟨hqueueNodup, hqueueApart⟩ := hdone
    obtain ⟨-, hsub, -, -, -, -, hqueue, -⟩ := retireUpTo_pool 4 (p.toCompletion n o)
    refine ⟨(congrArg List.Nodup hqueue).mpr hqueueNodup, fun m hm => ?_⟩
    obtain ⟨hfree, hcompletion⟩ := hqueueApart m ((congrArg (m ∈ ·) hqueue).mp hm)
    exact ⟨fun hin => (mem_retireUpTo_free 4 _ m hin).elim hfree hcompletion, fun hin => hcompletion (hsub.mem hin)⟩
  · exact hdone

/-! What the start of a head can do: end it unstarted, or occupy the outlet. -/

/-- A head that has started: the outlet is no longer IDLE, the lists of the pool and the fill claim are as they were,
and the line, where it is IDLE, has not been touched. -/
structure Part.Occupies (q p : Part) : Prop where
  busy : q.outlet.state ≠ .idle
  queue : q.pool.queue = p.pool.queue
  free : q.pool.free = p.pool.free
  completion : q.pool.completion = p.pool.completion
  fillClaim : q.line.fillClaim = p.line.fillClaim
  idleLine : q.line.state = .idle → q.line = p.line

section
variable (p : Part) (n : TicketNo)

theorem grantDispense_occupies : (p.grantDispense n).Occupies p := by
  by_cases hdoor : p.sense.door = some .opened
  · rw [grantDispense_opened p n hdoor, pauseLine_open _ rfl rfl]
    exact ⟨(fun h => nomatch h), rfl, rfl, rfl, rfl, fun h => nomatch h⟩
  · rw [grantDispense_closed p n hdoor]
    exact ⟨(fun h => nomatch h), rfl, rfl, rfl, rfl, fun h => nomatch h⟩

/-- A claim without a leak occupies the outlet (R70, R128). -/
theorem claimDispense_occupies (hbusy : p.outlet.state ≠ .idle) (hleak : p.line.leakLatch = false) :
    (p.claimDispense n).Occupies p := by
  unfold Part.claimDispense
  rw [if_neg (by rw [hleak]; decide)]
  split
  next => exact grantDispense_occupies p n
  next => exact ⟨hbusy, rfl, rfl, rfl, rfl, fun h => nomatch h⟩
  next hidle _ => exact ⟨hbusy, rfl, rfl, rfl, rfl, fun h => absurd h hidle⟩

/-- The two ways of a start: the head ends unstarted, with an outlet that has its notes, or it occupies the outlet. -/
def Part.Starts (q p : Part) : Prop :=
  (∃ (c : Outlet) (o : TicketOutcome), q = Part.finishUnstarted o { p with outlet := c }) ∨ q.Occupies p

theorem claim_starts (byPaddle : Bool) : ((p.lineWaiting byPaddle).claimDispense n).Starts p := by
  cases hleak : p.line.leakLatch with
  | true => exact .inl ⟨(p.lineWaiting byPaddle).outlet, .leak, claimDispense_leak (p.lineWaiting byPaddle) n hleak⟩
  | false =>
    have h := claimDispense_occupies (p.lineWaiting byPaddle) n (fun h => nomatch h) hleak
    exact .inr ⟨h.busy, h.queue, h.free, h.completion, h.fillClaim, h.idleLine⟩

theorem startHead_starts (byPaddle : Bool) : (p.startHead n byPaddle).Starts p := by
  cases hw : (p.ticket n).isWater with
  | true =>
    cases hc : (p.ticket n).request.coldOnly with
    | false => exact startHead_claims p n byPaddle hw (.inl hc) ▸ claim_starts p n byPaddle
    | true =>
      cases hm : (p.reading tank).measured with
      | none => exact .inl ⟨(p.checked byPaddle).outlet, .sensor, startHead_sensor p n byPaddle hw hc hm⟩
      | some x =>
        by_cases hcold : x ≤ p.supervision.params.waterColdLimit
        · exact startHead_claims p n byPaddle hw (.inr ⟨x, hm, hcold⟩) ▸ claim_starts p n byPaddle
        · exact .inl ⟨(p.checked byPaddle).outlet, .warm,
            startHead_warm p n byPaddle hw hc x hm (Int.not_le.1 hcold)⟩
  | false =>
    let u : Part := { p with outlet.paddleStarted := byPaddle }
    have hstarted : p.startHead n byPaddle = u.startFlap n := startHead_of_flap p n byPaddle hw
    cases hfault : p.outlet.chuteFault with
    | true => exact .inl ⟨u.outlet, .chuteFault, hstarted.trans (startFlap_faulted u n hfault)⟩
    | false =>
      rw [hstarted, startFlap_opens u n hfault]
      exact .inr ⟨(fun h => nomatch h), rfl, rfl, rfl, rfl, fun _ => rfl⟩

theorem finishUnstarted_eq (o : TicketOutcome) (hh : p.pool.queue.head? = some n) :
    p.finishUnstarted o = ((p.updateTicket n (Ticket.noted p.outlet)).finish n o).idleOutlet := by
  have hhead : (p.updateTicket n (Ticket.noted p.outlet)).head = some n := hh
  rw [Part.finishUnstarted, updateHead_of_head p n _ hh]
  change (Part.finishSlot (p.updateTicket n (Ticket.noted p.outlet)).head o _).idleOutlet = _
  rw [hhead]
  rfl

/-- What a start keeps: the queue apart, the fill claim, and the line where it is IDLE; and the next head is tried on an
outlet in use or on a shorter queue. -/
theorem startHead_keeps (byPaddle : Bool) (hh : p.pool.queue.head? = some n) :
    let q := p.startHead n byPaddle
    (p.pool.queueApart → q.pool.queueApart) ∧ q.line.fillClaim = p.line.fillClaim ∧
      (q.line.state = .idle → q.line = p.line) ∧
      (q.outlet.state ≠ .idle ∨ q.pool.queue.length < p.pool.queue.length) := by
  intro q
  rcases startHead_starts p n byPaddle with ⟨c, o, hq⟩ | h
  · let u : Part := { p with outlet := c }
    let v : Part := u.updateTicket n (Ticket.noted c)
    have hv : q = (v.finish n o).idleOutlet := hq.trans (finishUnstarted_eq u n o hh)
    have hline : q.line = p.line := by
      rw [show q = u.finishUnstarted o from hq]
      exact (finishUnstarted_frame o u).2.1
    obtain ⟨hqueue, -⟩ := finish_holders v n o
    refine ⟨fun hapart => ?_, congrArg Line.fillClaim hline, fun _ => hline, .inr ?_⟩
    · rw [hv]
      exact finish_queueApart v n o hapart
    · rw [hv]
      change (v.finish n o).pool.queue.length < _
      have hmem : n ∈ v.pool.queue := List.mem_of_head? hh
      rw [hqueue, List.length_erase_of_mem hmem]
      exact Nat.sub_lt (List.length_pos_of_mem hmem) Nat.one_pos
  · refine ⟨fun hapart => ?_, h.fillClaim, h.idleLine, .inl h.busy⟩
    unfold Pool.queueApart at hapart ⊢
    rw [h.queue, h.free, h.completion]
    exact hapart

end

end Sys2Proof.Machine

namespace Sys2Proof.Machine

/-! The heads tried one after another (R122, R123). -/

section
variable (p : Part)

theorem headReady_head (press : Option Paddle) (h : p.headReady press = true) :
    ∃ n, p.pool.queue.head? = some n := by
  cases hh : p.pool.queue.head? with
  | some n => exact ⟨n, rfl⟩
  | none =>
    have hempty : p.pool.queue = [] := List.head?_eq_none_iff.1 hh
    exact absurd ((headReady_empty p press hempty).symm.trans h) (by decide)

theorem startOne_keeps (h : p.headReady none = true) :
    let q := p.startOne none
    (p.pool.queueApart → q.pool.queueApart) ∧ q.line.fillClaim = p.line.fillClaim ∧
      (q.line.state = .idle → q.line = p.line) ∧
      (q.outlet.state ≠ .idle ∨ q.pool.queue.length < p.pool.queue.length) := by
  obtain ⟨n, hh⟩ := headReady_head p none h
  rw [startOne_ready p n none hh h]
  exact startHead_keeps p n _ hh

theorem startUpTo_unready (k : Nat) (h : p.headReady none = false) : p.startUpTo k = p := by
  cases k with
  | zero => rfl
  | succ k =>
    rw [Part.startUpTo, h]
    rfl

theorem startUpTo_ready (k : Nat) (h : p.headReady none = true) :
    p.startUpTo (k + 1) = (p.startOne none).startUpTo k := by
  rw [Part.startUpTo, if_pos h]

theorem startUpTo_keeps (k : Nat) :
    let q := p.startUpTo k
    (p.pool.queueApart → q.pool.queueApart) ∧ q.line.fillClaim = p.line.fillClaim ∧
      (q.line.state = .idle → q.line = p.line) := by
  induction k generalizing p with
  | zero => exact ⟨id, rfl, fun _ => rfl⟩
  | succ k ih =>
    cases h : p.headReady none with
    | false =>
      rw [startUpTo_unready p (k + 1) h]
      exact ⟨id, rfl, fun _ => rfl⟩
    | true =>
      rw [startUpTo_ready p k h]
      obtain ⟨hapart, hclaim, hidle, -⟩ := startOne_keeps p h
      obtain ⟨hapart', hclaim', hidle'⟩ := ih (p.startOne none)
      refine ⟨hapart' ∘ hapart, hclaim'.trans hclaim, fun hs => ?_⟩
      have hline := hidle' hs
      exact hline.trans (hidle (hline ▸ hs))

/-- As many tries as the queue has tickets leave no head that could start. -/
theorem startUpTo_tried (k : Nat) (h : p.pool.queue.length ≤ k) : (p.startUpTo k).headReady none = false := by
  induction k generalizing p with
  | zero => exact headReady_empty p none (List.length_eq_zero_iff.1 (Nat.le_zero.1 h))
  | succ k ih =>
    cases hr : p.headReady none with
    | false =>
      rw [startUpTo_unready p (k + 1) hr]
      exact hr
    | true =>
      rw [startUpTo_ready p k hr]
      obtain ⟨-, -, -, hbusy | hshorter⟩ := startOne_keeps p hr
      · have hnext := headReady_busy (p.startOne none) none hbusy
        rw [startUpTo_unready _ k hnext]
        exact hnext
      · exact ih (p.startOne none) (by omega)

end

/-! What the later stages of `Part.settle` leave of the heads: none of them makes a head ready. -/

/-- The outlet, the inputs, the parameters and the queue are as they were, and so is every queued ticket that is still
QUEUED. -/
structure Part.KeepsHeads (q p : Part) : Prop where
  outlet : q.outlet = p.outlet
  sense : q.sense = p.sense
  supervision : q.supervision = p.supervision
  queue : q.pool.queue = p.pool.queue
  ticket : ∀ m ∈ p.pool.queue, q.ticket m = p.ticket m ∨ (q.ticket m).state ≠ .queued

theorem Part.KeepsHeads.refl (p : Part) : p.KeepsHeads p := ⟨rfl, rfl, rfl, rfl, fun _ _ => .inl rfl⟩

theorem Part.KeepsHeads.trans {p q r : Part} (h : r.KeepsHeads q) (g : q.KeepsHeads p) : r.KeepsHeads p := by
  refine ⟨h.outlet.trans g.outlet, h.sense.trans g.sense, h.supervision.trans g.supervision, h.queue.trans g.queue,
    fun m hm => ?_⟩
  rcases h.ticket m (g.queue ▸ hm) with hsame | hleft
  · rw [hsame]
    exact g.ticket m hm
  · exact .inr hleft

/-- A head that was not ready is not ready. -/
theorem Part.KeepsHeads.unready {p q : Part} (h : q.KeepsHeads p) (hp : p.headReady none = false) :
    q.headReady none = false := by
  cases hh : p.pool.queue.head? with
  | none => exact headReady_empty q none (h.queue.trans (List.head?_eq_none_iff.1 hh))
  | some n =>
    have hhq : q.pool.queue.head? = some n := by rw [h.queue, hh]
    refine Bool.eq_false_iff.2 fun hready => ?_
    obtain ⟨hidle, hdoor, hqueued, hrest⟩ := (headReady_none_iff q n hhq).1 hready
    have hsame : q.ticket n = p.ticket n := (h.ticket n (List.mem_of_head? hh)).resolve_right fun hleft => hleft hqueued
    have hreading : q.reading tank = p.reading tank := by rw [Part.reading, Part.reading, h.sense, h.supervision]
    rw [h.outlet] at hidle hrest
    rw [h.sense] at hdoor hrest
    rw [hsame] at hqueued hrest
    rw [hreading] at hrest
    exact absurd ((headReady_none_iff p n hh).2 ⟨hidle, hdoor, hqueued, hrest⟩) (by rw [hp]; decide)

section
variable (p : Part)

theorem compareTarget_keepsHeads : p.compareTarget.KeepsHeads p := by
  obtain ⟨⟨-, -, hsense, hsupervision, -⟩, -, -, houtlet⟩ := compareTarget_frame p
  obtain ⟨-, -, -, -, -, -, -, -, hpool, -⟩ := compareTarget_keeps p
  refine ⟨houtlet, hsense, hsupervision, ?_, fun m _ => .inl ?_⟩
  · rw [hpool]
  · rw [Part.ticket, hpool]
    rfl

end

/-- The SENSOR flag of a defrost leaves every list and every ticket's state. -/
theorem flagDefrostSensor_pool (p : Part) :
    let q := p.flagDefrostSensor
    q.pool.queue = p.pool.queue ∧ q.pool.free = p.pool.free ∧ q.pool.completion = p.pool.completion ∧
      q.pool.defrostSlot = p.pool.defrostSlot ∧
      ∀ m, (q.ticket m).state = (p.ticket m).state ∧
        (p.pool.defrostSlot ≠ some m → q.ticket m = p.ticket m) := by
  let u : Part := p.updateCycle fun c => { c with sensor := true }
  let f : Ticket → Ticket := Ticket.withProgress fun g => { g with sensor := true }
  have hticket (m : TicketNo) :
      p.flagDefrostSensor.ticket m = if p.pool.defrostSlot = some m then f (p.ticket m) else p.ticket m :=
    ticket_updateSlot u p.pool.defrostSlot f m
  have hlists : p.flagDefrostSensor.pool = { p.pool with tickets := p.flagDefrostSensor.pool.tickets } := by
    unfold Part.flagDefrostSensor
    cases p.pool.defrostSlot <;> rfl
  refine ⟨by rw [hlists], by rw [hlists], by rw [hlists], by rw [hlists], fun m => ?_⟩
  rw [hticket]
  split
  next h => exact ⟨rfl, fun hne => absurd h hne⟩
  next => exact ⟨rfl, fun _ => rfl⟩

/-- The stages of the entry into HEATING: the ticket in the defrost slot becomes ACTIVE, and an EVAP in FAULT is
flagged (R161, R166). -/
theorem enterHeating_stages (p : Part) :
    ∃ a : Part, p.enterHeating = (if a.inFault evap then a.flagDefrostSensor else a).setDefrostState .heating ∧
      a.pool = { p.pool with tickets := a.pool.tickets } ∧
      ∀ m, (p.pool.defrostSlot ≠ some m → a.ticket m = p.ticket m) ∧
        (p.pool.defrostSlot = some m → (a.ticket m).state = .active) := by
  refine ⟨_, rfl, ?_, fun m => ?_⟩
  · cases p.pool.defrostSlot <;> rfl
  · cases p.pool.defrostSlot with
    | none => exact ⟨fun _ => rfl, fun h => nomatch h⟩
    | some n =>
      change (_ → ((p.activate n).updateTicket n _).ticket m = _) ∧
        (_ → (((p.activate n).updateTicket n _).ticket m).state = _)
      rw [ticket_updateTicket]
      by_cases hm : m = n
      · rw [if_pos hm, hm]
        exact ⟨fun h => absurd rfl h, fun _ => congrArg Ticket.state (ticket_activate p n)⟩
      · rw [if_neg hm, Part.activate, ticket_updateTicket, if_neg hm]
        exact ⟨fun _ => rfl, fun h => absurd (Option.some.inj h).symm hm⟩

theorem enterHeating_pool (p : Part) :
    let q := p.enterHeating
    q.pool.queue = p.pool.queue ∧ q.pool.free = p.pool.free ∧ q.pool.completion = p.pool.completion ∧
      ∀ m, q.ticket m = p.ticket m ∨ (q.ticket m).state = .active := by
  obtain ⟨a, hstages, hlists, htickets⟩ := enterHeating_stages p
  obtain ⟨hqueue, hfree, hcompletion, hslot, hflag⟩ := flagDefrostSensor_pool a
  have hticket (m : TicketNo) : a.ticket m = p.ticket m ∨ (a.ticket m).state = .active := by
    by_cases hm : p.pool.defrostSlot = some m
    · exact .inr ((htickets m).2 hm)
    · exact .inl ((htickets m).1 hm)
  have haslot : a.pool.defrostSlot = p.pool.defrostSlot := by rw [hlists]
  dsimp only
  rw [hstages, setDefrostState_pool]
  simp only [ticket_setDefrostState]
  split
  · refine ⟨hqueue.trans (by rw [hlists]), hfree.trans (by rw [hlists]), hcompletion.trans (by rw [hlists]),
      fun m => ?_⟩
    by_cases hm : p.pool.defrostSlot = some m
    · exact .inr ((hflag m).1.trans ((htickets m).2 hm))
    · exact .inl (((hflag m).2 (haslot ▸ hm)).trans ((htickets m).1 hm))
  · exact ⟨by rw [hlists], by rw [hlists], by rw [hlists], hticket⟩

section
variable (p : Part)

theorem prepWait_keepsHeads : p.prepWait.KeepsHeads p := by
  obtain ⟨⟨-, -, hsense, hsupervision, -⟩, -, houtlet⟩ := enterHeating_frame p
  obtain ⟨hqueue, -, -, hticket⟩ := enterHeating_pool p
  unfold Part.prepWait
  split
  · refine ⟨houtlet, hsense, hsupervision, hqueue, fun m _ => (hticket m).imp_right fun hactive => ?_⟩
    rw [hactive]
    decide
  · exact .refl p

theorem prepWait_queueApart (h : p.pool.queueApart) : p.prepWait.pool.queueApart := by
  obtain ⟨hqueue, hfree, hcompletion, -⟩ := enterHeating_pool p
  unfold Part.prepWait
  split
  · unfold Pool.queueApart at h ⊢
    rw [hqueue, hfree, hcompletion]
    exact h
  · exact h

theorem compareTarget_queueApart (h : p.pool.queueApart) : p.compareTarget.pool.queueApart := by
  obtain ⟨-, -, -, -, -, -, -, -, hpool, -⟩ := compareTarget_keeps p
  rw [hpool]
  exact h

/-! The redraw (R10). -/

theorem ticket_enterHarvestHeat (n m : TicketNo) (h : m ≠ n) : (p.enterHarvestHeat n).ticket m = p.ticket m := by
  change ((p.activate n).updateTicket n _).ticket m = _
  rw [ticket_updateTicket, if_neg h, Part.activate, ticket_updateTicket, if_neg h]

theorem iceWants_of_slot (n : TicketNo) (h : p.pool.iceSlot = some n) : p.iceWants = none := by
  unfold Part.iceWants
  rw [h]
  split
  next h => exact nomatch h
  next h => exact nomatch h
  next => rfl

theorem iceWants_elsewhere (hfill : p.ice.state ≠ .fillWait) (hharvest : p.ice.state ≠ .harvestWait) :
    p.iceWants = none := by
  unfold Part.iceWants
  split
  next h _ => exact absurd h hfill
  next h _ => exact absurd h hharvest
  next => rfl

theorem redraw_unwanted (h : p.iceWants = none) : p.redraw = p := by
  unfold Part.redraw
  rw [h]
  exact ite_self p

/-- What a redraw can do: nothing, where it has no draw or too few tickets, or a draw of the first free ticket. -/
theorem redraw_cases :
    (p.redraw = p ∧ (4 ≤ p.pool.free.length → p.iceWants = none)) ∨
      ∃ (kind : TicketKind) (n : TicketNo) (rest : List TicketNo) (q : Part), p.pool.free = n :: rest ∧
        q = (p.takeHead n rest (.drawn kind .iceMaker none {})).autoRetire ∧
        (p.redraw = q.enterHarvestHeat n ∨ p.redraw = q.claimFill n) := by
  by_cases hfour : 4 ≤ p.pool.free.length
  · cases hw : p.iceWants with
    | none => exact .inl ⟨redraw_unwanted p hw, fun _ => rfl⟩
    | some kind =>
      cases hf : p.pool.free with
      | nil =>
        rw [hf] at hfour
        exact absurd hfour (by decide)
      | cons n rest =>
        have hdraw := draw_granted p kind .iceMaker none {} n rest hf hfour
        refine .inr ⟨kind, n, rest, _, rfl, rfl, ?_⟩
        rw [redraw_granted p kind n rest hf hfour hw, hdraw]
        split
        · exact .inl rfl
        · exact .inr rfl
  · exact .inl ⟨if_neg hfour, fun h => absurd h hfour⟩

/-- The ticket that a redraw draws stands in no queue, and a record that its auto-retire clears in the completion queue:
the queued tickets are as they were. -/
theorem redraw_keepsHeads (hapart : p.pool.queueApart) : p.redraw.KeepsHeads p := by
  obtain ⟨⟨-, -, hsense, hsupervision, -⟩, houtlet⟩ := redraw_frame p
  obtain ⟨-, hqueueApart⟩ := hapart
  rcases redraw_cases p with ⟨hsame, -⟩ | ⟨kind, n, rest, q, hf, hq, hredraw⟩
  · rw [hsame]
    exact .refl p
  · have hqueue : q.pool.queue = p.pool.queue := by
      obtain ⟨-, -, -, -, -, -, hkept, -⟩ := retireUpTo_pool 4 (p.takeHead n rest (.drawn kind .iceMaker none {}))
      rw [hq]
      exact hkept
    have hn (m : TicketNo) (hm : m ∈ p.pool.queue) : m ≠ n := by
      rintro rfl
      exact (hqueueApart m hm).1 (hf ▸ List.mem_cons_self)
    have hticket (m : TicketNo) (hm : m ∈ p.pool.queue) : q.ticket m = p.ticket m := by
      rw [hq, ticket_autoRetire (p.takeHead n rest (.drawn kind .iceMaker none {})) m (hqueueApart m hm).2,
        ticket_takeHead, if_neg (hn m hm)]
    refine ⟨houtlet, hsense, hsupervision, ?_, fun m hm => .inl ?_⟩
    · rcases hredraw with h | h <;> rw [h] <;> exact hqueue
    · rcases hredraw with h | h <;> rw [h]
      · rw [ticket_enterHarvestHeat q n m (hn m hm), hticket m hm]
      · exact hticket m hm

/-- After a redraw nothing more can be drawn: the tickets are too few, or the draw has been made (R10). -/
theorem redraw_spent (h : 4 ≤ p.redraw.pool.free.length) : p.redraw.iceWants = none := by
  rcases redraw_cases p with ⟨hsame, hspent⟩ | ⟨kind, n, rest, q, -, -, hheat | hclaim⟩
  · rw [hsame] at h ⊢
    exact hspent h
  · rw [hheat]
    exact iceWants_of_slot _ n rfl
  · rw [hclaim]
    exact iceWants_of_slot _ n rfl

/-- A redraw makes a fill claim at most. -/
theorem redraw_line : p.redraw.line = { p.line with fillClaim := p.redraw.line.fillClaim } := by
  rcases redraw_cases p with ⟨hsame, -⟩ | ⟨kind, n, rest, q, -, hq, hredraw⟩
  · rw [hsame]
  · have hline : q.line = p.line := by
      rw [hq]
      exact (autoRetire_frame _).2.1
    rcases hredraw with h | h <;> rw [h]
    · have hheat : (q.enterHarvestHeat n).line = p.line := hline
      rw [hheat]
    · exact congrArg (fun l : Line => { l with fillClaim := some n }) hline

/-! The judgement of the fill, the last of what follows at once. -/

theorem resumeFill_busy (w : Work) : (p.resumeFill w).line.state ≠ .idle := by
  cases hfull : w.target.any (· ≤ w.pulses) with
  | false =>
    rw [resumeFill_short p w hfull]
    exact fun h => nomatch h
  | true =>
    rw [resumeFill_full p w hfull, (tellEnding_frame _ _ _).2.1]
    exact fun h => nomatch h

theorem ticket_resumeFill_state (w : Work) (m : TicketNo) :
    (p.resumeFill w).ticket m = p.ticket m ∨ ((p.resumeFill w).ticket m).state = .stopping := by
  cases hfull : w.target.any (· ≤ w.pulses) with
  | false =>
    rw [resumeFill_short p w hfull]
    exact .inl rfl
  | true =>
    rw [resumeFill_full p w hfull, Part.tellEnding, ticket_updateSlot]
    split
    · exact .inr rfl
    · exact .inl rfl

theorem judgeFill_keepsHeads : p.judgeFill.KeepsHeads p := by
  obtain ⟨-, -, hsense, hsupervision, -⟩ := judgeFill_frame p
  refine ⟨judgeFill_outlet p, hsense, hsupervision, judgeFill_queue p, fun m _ => ?_⟩
  rcases judgeFill_cases p with h | ⟨w, -, h⟩ | ⟨n, -, h⟩ <;> rw [h]
  · exact .inl rfl
  · refine (ticket_resumeFill_state p w m).imp_right fun hstopping => ?_
    rw [hstopping]
    decide
  · by_cases hm : m = n
    · rw [hm, ticket_grantFill]
      exact .inr fun h => nomatch h
    · exact .inl (ticket_grantFill_other p n m hm)

/-- A judgement that leaves the line IDLE has changed nothing; and where the line was free, no fill was waiting. -/
theorem judgeFill_idle (h : p.judgeFill.line.state = .idle) :
    p.judgeFill = p ∧ (p.line.freeForFill = true → p.line.suspended = none ∧ p.line.fillClaim = none) := by
  have hsame : p.judgeFill = p := by
    rcases judgeFill_cases p with hc | ⟨w, -, hc⟩ | ⟨n, -, hc⟩
    · exact hc
    · rw [hc] at h
      exact absurd h (resumeFill_busy p w)
    · rw [hc] at h
      exact nomatch h
  refine ⟨hsame, fun hfree => ?_⟩
  cases hsuspended : p.line.suspended with
  | some w =>
    rw [judgeFill_resumes p w hfree hsuspended] at h
    exact absurd h (resumeFill_busy p w)
  | none =>
    cases hclaim : p.line.fillClaim with
    | some n =>
      rw [judgeFill_grants p n hfree hsuspended hclaim] at h
      exact nomatch h
    | none => exact ⟨rfl, rfl⟩

theorem judgeFill_spent (hp : 4 ≤ p.pool.free.length → p.iceWants = none) (h : 4 ≤ p.judgeFill.pool.free.length) :
    p.judgeFill.iceWants = none := by
  rcases judgeFill_cases p with hc | ⟨w, -, hc⟩ | ⟨n, -, hc⟩ <;> rw [hc] at h ⊢
  · exact hp h
  · obtain ⟨⟨-, -, hsense, hsupervision, -⟩, -, hice, -⟩ := resumeFill_frame w p
    rw [resumeFill_lists] at h
    rw [iceWants_congr p _ hice (by rw [resumeFill_lists]) hsense hsupervision]
    exact hp h
  · exact iceWants_elsewhere _ (fun h => nomatch h) fun h => nomatch h

end

end Sys2Proof.Machine

namespace Sys2Proof.Machine

/-! What follows at once, as a whole (R72, R122, R149, R160). -/

section
variable (p : Part)

/-- Of the link, what follows at once can change the pending set alone. -/
theorem settle_link : { p.settle.link with pendingSet := 0 } = { p.link with pendingSet := 0 } := by
  obtain ⟨-, -, -, -, -, hreceiver, hinbox, hexecuting, hreply, hrestart, herror, hmask⟩ := settle_frame p
  dsimp only
  rw [hreceiver, hinbox, hexecuting, hreply, hrestart, herror, hmask]

theorem compareTarget_short (h : p.defrost.state ≠ .accruing ∨ p.defrost.credit < p.defrost.target) :
    p.compareTarget = p :=
  if_neg fun ⟨hstate, htarget⟩ => h.elim (fun hne => hne hstate) fun hshort => Nat.not_le.2 hshort htarget

/-- After the target has been compared, the credit of an ACCRUING controller is short of it (R149). -/
theorem compareTarget_compared :
    ¬(p.compareTarget.defrost.state = .accruing ∧
      p.compareTarget.defrost.target ≤ p.compareTarget.defrost.credit) := by
  by_cases hreached : p.defrost.state = .accruing ∧ p.defrost.target ≤ p.defrost.credit
  · rw [compareTarget_wants p hreached.1 hreached.2]
    exact fun h => nomatch h.1
  · have hsame : p.compareTarget = p := if_neg hreached
    rwa [hsame]

theorem prepWait_elsewhere (h : p.defrost.state ≠ .prep) : p.prepWait = p := if_neg fun hwait => h hwait.1

theorem prepWait_heats (h : p.defrost.state = .prep ∧ p.defrost.iceCopy.holdsHeating = false) :
    p.prepWait.defrost.state = .heating := by
  obtain ⟨a, hstages, -⟩ := enterHeating_stages p
  rw [Part.prepWait, if_pos h, hstages, setDefrostState_defrost]

/-- A controller that is still in PREP waits for the heat of the ice maker (R160). -/
theorem prepWait_waits (h : p.prepWait.defrost.state = .prep) :
    p.prepWait = p ∧ p.defrost.iceCopy.holdsHeating = true := by
  by_cases hwait : p.defrost.state = .prep ∧ p.defrost.iceCopy.holdsHeating = false
  · rw [prepWait_heats p hwait] at h
    exact nomatch h
  · have hsame : p.prepWait = p := if_neg hwait
    rw [hsame] at h
    exact ⟨hsame, by simpa [h] using hwait⟩

theorem holdsHeating_iff (st : IceState) : st.holdsHeating = true ↔ st = .harvestHeat ∨ st = .eject := by
  cases st <;> simp [IceState.holdsHeating]

/-- Where nothing waits, nothing follows. -/
theorem settle_still (hhead : p.headReady none = false)
    (htarget : p.defrost.state ≠ .accruing ∨ p.defrost.credit < p.defrost.target)
    (hprep : p.defrost.state ≠ .prep) (hwait : p.ice.state ≠ .fillWait) (hharvest : p.ice.state ≠ .harvestWait)
    (hclaim : p.line.fillClaim = none)
    (hsuspended : p.line.suspended = none) : p.settle = p := by
  rw [Part.settle, startHeads_unready p hhead, compareTarget_short p htarget, prepWait_elsewhere p hprep,
    redraw_unwanted p (iceWants_elsewhere p hwait hharvest), judgeFill_unclaimed p hsuspended hclaim]

theorem headReady_still (h : p.pool.queue = [] ∨ p.outlet.state ≠ .idle ∨ p.sense.door ≠ some .closed) :
    p.headReady none = false := by
  rcases h with hempty | hbusy | hdoor
  · exact headReady_empty p none hempty
  · exact headReady_busy p none hbusy
  · simp [Part.headReady, hdoor]

/-- No head is left ready (R122, R123). -/
theorem settle_headReady (hplaced : ∀ n : TicketNo, p.pool.places n = 1) (hlength : p.pool.queue.length ≤ 8) :
    p.settle.headReady none = false := by
  obtain ⟨hapart, -, -⟩ := startUpTo_keeps p 8
  have hheads := hapart (queueApart_of_places p.pool hplaced)
  have hprep := prepWait_queueApart _ (compareTarget_queueApart _ hheads)
  have hkeeps : p.settle.KeepsHeads p.startHeads :=
    (judgeFill_keepsHeads _).trans <| (redraw_keepsHeads _ hprep).trans <|
      (prepWait_keepsHeads _).trans (compareTarget_keepsHeads _)
  exact hkeeps.unready (startUpTo_tried p 8 hlength)

/-- The state, the credit and the target of the controller stay after the heads, the target and the wait of PREP. -/
theorem settle_defrost_eq :
    let q := p.startHeads.compareTarget.prepWait
    p.settle.defrost.state = q.defrost.state ∧ p.settle.defrost.credit = q.defrost.credit ∧
      p.settle.defrost.target = q.defrost.target := by
  intro q
  obtain ⟨hredraw, -⟩ := redraw_defrost q
  obtain ⟨hfill, -⟩ := judgeFill_defrost q.redraw
  have hsettle : p.settle.defrost = _ := hfill
  rw [hsettle, hredraw]
  exact ⟨rfl, rfl, rfl⟩

/-- No credit that has reached its target is left ACCRUING (R149). -/
theorem settle_compared :
    ¬(p.settle.defrost.state = .accruing ∧ p.settle.defrost.target ≤ p.settle.defrost.credit) := by
  obtain ⟨hstate, hcredit, htarget⟩ := settle_defrost_eq p
  rw [hstate, hcredit, htarget]
  let u : Part := p.startHeads.compareTarget
  by_cases hwait : u.defrost.state = .prep ∧ u.defrost.iceCopy.holdsHeating = false
  · rw [prepWait_heats u hwait]
    exact fun h => nomatch h.1
  · have hsame : u.prepWait = u := if_neg hwait
    rw [show p.startHeads.compareTarget.prepWait = u from hsame]
    exact compareTarget_compared p.startHeads

/-- A controller left in PREP waits for HARVEST_HEAT or EJECT, which keep the ice maker (R160). -/
theorem settle_prep (hcopies : p.copiesAgree) (hclaim : ∀ n, p.line.fillClaim = some n → p.ice.state = .fillWait)
    (h : p.settle.defrost.state = .prep) : p.settle.ice.state = .harvestHeat ∨ p.settle.ice.state = .eject := by
  let u : Part := p.startHeads.compareTarget
  obtain ⟨hstate, -⟩ := settle_defrost_eq p
  obtain ⟨hprep, hholds⟩ := prepWait_waits u (hstate ▸ h)
  have hupre : u.defrost.state = .prep := by
    rw [hstate, show p.startHeads.compareTarget.prepWait = u from hprep] at h
    exact h
  obtain ⟨-, hice, hdefrost⟩ := startHeads_frame p
  have hu : u = p.startHeads := by
    rcases compareTarget_cases p.startHeads with hsame | ⟨hstate', htarget, -⟩
    · exact hsame
    · exact absurd (hupre.symm.trans (compareTarget_wants _ hstate' htarget)) (by decide)
  have hheat : p.ice.state = .harvestHeat ∨ p.ice.state = .eject := by
    rw [hu, hdefrost, hcopies.1] at hholds
    exact (holdsHeating_iff _).1 hholds
  have hwants : u.iceWants = none := by
    rw [hu]
    refine iceWants_elsewhere _ ?_ ?_ <;> rw [hice] <;> rcases hheat with h | h <;> rw [h] <;> decide
  have hsettle : p.settle = p.startHeads.judgeFill := by
    change u.prepWait.redraw.judgeFill = _
    rw [hprep, redraw_unwanted u hwants, hu]
  have hkept : p.startHeads.judgeFill.ice = p.startHeads.ice := by
    rcases judgeFill_cases p.startHeads with hc | ⟨w, -, hc⟩ | ⟨n, hn, hc⟩
    · rw [hc]
    · rw [hc]
      exact (resumeFill_frame w _).2.2.1
    · obtain ⟨-, hfill, -⟩ := startUpTo_keeps p 8
      have hfillWait := hclaim n (hfill.symm.trans hn)
      rw [hfillWait] at hheat
      exact absurd hheat (by decide)
  rw [hsettle, hkept, hice]
  exact hheat

/-- With tickets enough for a draw, the ice maker has none to make (R10). -/
theorem settle_spent (h : 4 ≤ p.settle.pool.free.length) : p.settle.iceWants = none :=
  judgeFill_spent _ (redraw_spent _) h

/-- A line left IDLE has no dispense claim, and, where a fill may have it, no fill waits (R69, R72). -/
theorem settle_idle (hclaim : p.line.state = .idle → p.line.dispenseClaim = none) (h : p.settle.line.state = .idle) :
    p.settle.line.dispenseClaim = none ∧
      (p.settle.line.freeForFill = true → p.settle.line.suspended = none ∧ p.settle.line.fillClaim = none) := by
  let u : Part := p.startHeads.compareTarget.prepWait
  obtain ⟨hsame, hfree⟩ := judgeFill_idle u.redraw h
  have hsettle : p.settle = u.redraw := hsame
  have hline : u.line = p.startHeads.line :=
    (prepWait_frame p.startHeads.compareTarget).2.1.trans (compareTarget_frame p.startHeads).2.1
  have hredraw := redraw_line u
  refine ⟨?_, fun hf => ?_⟩
  · obtain ⟨-, -, hidle⟩ := startUpTo_keeps p 8
    rw [hsettle, hredraw, hline] at h
    have hkept : p.startHeads.line = p.line := hidle h
    rw [hsettle, hredraw, hline, hkept]
    exact hclaim (hkept ▸ h)
  · rw [hsettle] at hf ⊢
    exact hfree hf

end

/-- Settles O51: what follows at once keeps its frame, is nothing where nothing waits, and leaves nothing of its own
kind to follow. -/
theorem whatFollowsAtOnceIsBounded : Obligations.WhatFollowsAtOnceIsBounded := by
  intro p
  refine ⟨?_, ?_, ?_⟩
  · obtain ⟨hclock, hresetting, hsense, hsupervision, hfree, -⟩ := settle_frame p
    obtain ⟨⟨hconfig, -⟩, -⟩ := settle_settings p
    obtain ⟨-, hbudget, hrotation, hslot⟩ := (config_eq_iff _ _).1 hconfig
    exact ⟨hclock, hresetting, hsense, hsupervision, settle_link p, hbudget, hrotation, hslot, hfree⟩
  · intro hhead htarget hprep hwait hharvest hclaim hsuspended
    exact settle_still p (headReady_still p hhead) htarget hprep hwait hharvest hclaim hsuspended
  · rintro ⟨⟨hplaced, -⟩, ⟨hlength, -⟩, ⟨-, hdispense, -⟩, ⟨hfill, -⟩⟩ hcopies
    dsimp only
    have hclaim (hidle : p.line.state = .idle) : p.line.dispenseClaim = none := by
      refine Option.eq_none_iff_forall_ne_some.2 fun n hn => ?_
      obtain ⟨-, hsettle, -⟩ := hdispense n hn
      exact nomatch hidle.symm.trans hsettle
    refine ⟨settle_headReady p hplaced hlength, settle_compared p,
      settle_prep p hcopies fun n hn => (hfill n hn).2, settle_spent p, fun hidle => ?_,
      fun hidle hsupply hleak => ?_⟩
    · obtain ⟨hnone, -⟩ := settle_idle p hclaim hidle
      exact hnone
    · obtain ⟨-, hnobody⟩ := settle_idle p hclaim hidle
      exact hnobody ((freeForFill_iff p.settle.line).2 ⟨hidle, hsupply, hleak⟩)

end Sys2Proof.Machine

namespace Sys2Proof.Machine

/-! R103 rests on four fields: the two states, and the copy that each controller has of the other's (R95, R147). An
operation that leaves them is said to keep the phases. -/

/-- The ice maker and the Defrost Controller are in the states they were in, and so are their copies of them. -/
@[simp] abbrev Part.SamePhases (q p : Part) : Prop :=
  q.ice.state = p.ice.state ∧ q.ice.defrostCopy = p.ice.defrostCopy ∧ q.defrost.state = p.defrost.state ∧
    q.defrost.iceCopy = p.defrost.iceCopy

/-! The stock estimate, the ejector and the filtered beam. -/

@[simp] theorem setStock_phases (n : Nat) (p : Part) : (p.setStock n).SamePhases p := by
  unfold Part.setStock
  split <;> simp

@[simp] theorem reportAuger_phases (ms : Nat) (p : Part) : (p.reportAuger ms).SamePhases p := setStock_phases _ p

@[simp] theorem stopEjector_phases (c : IceMaker) :
    c.stopEjector.state = c.state ∧ c.stopEjector.defrostCopy = c.defrostCopy := ⟨rfl, rfl⟩

@[simp] theorem driveEjector_phases (p : Part) : p.driveEjector.SamePhases p := ⟨rfl, rfl, rfl, rfl⟩

@[simp] theorem beginAttempt_phases (p : Part) : p.beginAttempt.SamePhases p := ⟨rfl, rfl, rfl, rfl⟩

@[simp] theorem endEjectorTest_phases (n : TicketNo) (o : TicketOutcome) (p : Part) :
    (p.endEjectorTest n o).SamePhases p := by
  simp [endEjectorTest_ice]

@[simp] theorem startEjectorTest_phases (p : Part) : p.startEjectorTest.SamePhases p := ⟨rfl, rfl, rfl, rfl⟩

@[simp] theorem abandonEjectorTest_phases (n : TicketNo) (o : TicketOutcome) (p : Part) :
    (p.abandonEjectorTest n o).SamePhases p := by
  unfold Part.abandonEjectorTest
  dsimp only
  split <;> simp

@[simp] theorem endServiceTest_phases (o : TicketOutcome) (p : Part) : (p.endServiceTest o).SamePhases p := by
  unfold Part.endServiceTest
  (repeat' split) <;> simp

@[simp] theorem beamChanged_phases (p : Part) : p.beamChanged.SamePhases p := by
  unfold Part.beamChanged
  split <;> simp

@[simp] theorem capacityChanged_phases (p : Part) : p.capacityChanged.SamePhases p := by
  simp [Part.capacityChanged]

/-! The cycle record, the credit and the log. -/

@[simp] theorem fillCompletion_phases (p : Part) : p.fillCompletion.SamePhases p := by
  unfold Part.fillCompletion
  split <;> simp [Defrost.addCredit]

@[simp] theorem flagDefrostSensor_phases (p : Part) : p.flagDefrostSensor.SamePhases p := by
  simp [Part.flagDefrostSensor]

@[simp] theorem writeLog_phases (r : EndReason) (t : Nat) (p : Part) : (p.writeLog r t).SamePhases p := by
  unfold Part.writeLog
  split <;> simp

@[simp] theorem writeResetRecord_phases (p : Part) : p.writeResetRecord.SamePhases p := by
  unfold Part.writeResetRecord
  dsimp only
  split <;> simp

@[simp] theorem setCompressor_phases (running : Bool) (p : Part) : (p.setCompressor running).SamePhases p := by
  unfold Part.setCompressor
  dsimp only
  split <;> simp

/-! The outlet: a run that stops is reported, which changes the stock estimate alone. -/

@[simp] theorem endRun_phases (p : Part) : p.endRun.SamePhases p := by
  unfold Part.endRun
  dsimp only
  split <;> simp

@[simp] theorem stopRun_phases (o : TicketOutcome) (p : Part) : (p.stopRun o).SamePhases p := by
  simp [Part.stopRun]

@[simp] theorem stopChuteTest_phases (o : TicketOutcome) (p : Part) : (p.stopChuteTest o).SamePhases p := by
  simp [Part.stopChuteTest]

@[simp] theorem stopDelivery_phases (o : TicketOutcome) (p : Part) : (p.stopDelivery o).SamePhases p := by
  unfold Part.stopDelivery
  (repeat' split) <;> simp

@[simp] theorem stopHead_phases (o : TicketOutcome) (p : Part) : (p.stopHead o).SamePhases p := by
  unfold Part.stopHead
  split <;> simp

@[simp] theorem judgeRelease_phases (pad : Paddle) (p : Part) : (p.judgeRelease pad).SamePhases p := by
  unfold Part.judgeRelease
  split <;> simp

@[simp] theorem flapFalls_phases (p : Part) : p.flapFalls.SamePhases p := by
  unfold Part.flapFalls
  (repeat' split) <;> simp

@[simp] theorem flapChanged_phases (c : Contact) (p : Part) : (p.flapChanged c).SamePhases p := by
  unfold Part.flapChanged
  (repeat' split) <;> simp

@[simp] theorem jam_phases (p : Part) : p.jam.SamePhases p := by
  unfold Part.jam
  split <;> simp

@[simp] theorem endReverse_phases (p : Part) : p.endReverse.SamePhases p := by
  unfold Part.endReverse
  split <;> simp

@[simp] theorem compareRunning_phases (p : Part) : p.compareRunning.SamePhases p := by
  unfold Part.compareRunning
  split <;> simp

@[simp] theorem doorCloses_phases (p : Part) : p.doorCloses.SamePhases p := by
  unfold Part.doorCloses
  dsimp only
  (repeat' split) <;> simp

@[simp] theorem cancelQueued_phases (n : TicketNo) (o : TicketOutcome) (p : Part) :
    (p.cancelQueued n o).SamePhases p := by
  unfold Part.cancelQueued
  split <;> simp

@[simp] theorem loseLink_phases (n : TicketNo) (p : Part) : (p.loseLink n).SamePhases p := by
  unfold Part.loseLink
  split <;> simp

@[simp] theorem loseQueue_phases (p : Part) : p.loseQueue.SamePhases p := by
  unfold Part.loseQueue
  generalize p.pool.queue = l
  induction l generalizing p with
  | nil => simp
  | cons n l ih => simp [ih]

/-! Silence, the seconds and the conversions. -/

@[simp] theorem endLinkWork_phases (p : Part) : p.endLinkWork.SamePhases p := by
  unfold Part.endLinkWork
  split <;> simp

@[simp] theorem expireSilence_phases (p : Part) : p.expireSilence.SamePhases p := by
  have hwork : p.silenced.endLinkWork.SamePhases p := endLinkWork_phases p.silenced
  rw [expireSilence_eq]
  split <;> exact hwork

@[simp] theorem compareSilence_phases (p : Part) : p.compareSilence.SamePhases p := by
  unfold Part.compareSilence
  split <;> simp

@[simp] theorem advanceSecond_phases (p : Part) : p.advanceSecond.SamePhases p := by
  obtain ⟨c, k, hadvance, -⟩ := advanceSecond_eq p
  let u : Part := { p with clock := c, freeCount := k }
  obtain ⟨-, -, hice, -, hdefrost, -⟩ := boundary_frame u
  obtain ⟨hfrost, -⟩ := frostSecond_spec u.boundary.filterSecond
  rw [hadvance, Part.slotSecond, frostSecond_frame, hfrost]
  simp [hice, hdefrost, u]

@[simp] theorem convertChannel_phases (ch : ChannelNo) (raw : Nat) (p : Part) :
    (p.convertChannel ch raw).SamePhases p := by
  unfold Part.convertChannel
  dsimp only
  split <;> simp

end Sys2Proof.Machine

namespace Sys2Proof.Machine

/-! A harvest and a defrost kept apart (R103). The ice maker comes to HARVEST_HEAT by its draw alone, which the Defrost
Controller's state as handed holds back from PREP on (R102), and to EJECT from HARVEST_HEAT alone; HEATING is entered by
the wait of PREP alone, which the ice maker's state as handed holds back (R159). -/

/-- Each controller's copy of the other's state is right, and a harvest and a defrost do not heat together. -/
def Part.apart (p : Part) : Prop := p.copiesAgree ∧ p.interlocked

theorem Part.SamePhases.apart {p q : Part} (hs : q.SamePhases p) (h : p.apart) : q.apart := by
  obtain ⟨hice, hdefrostCopy, hdefrost, hiceCopy⟩ := hs
  unfold Part.apart Part.copiesAgree Part.interlocked
  rw [hice, hdefrostCopy, hdefrost, hiceCopy]
  exact h

section
variable {p : Part}

/-- The ice maker enters a state that is no harvest. -/
theorem setIceState_apart (st : IceState) (hst : st.holdsHeating = false) (h : p.apart) : (p.setIceState st).apart := by
  obtain ⟨⟨-, hcopy⟩, -⟩ := h
  refine ⟨⟨rfl, hcopy⟩, fun ⟨hholds, _⟩ => ?_⟩
  exact absurd (hst.symm.trans hholds) Bool.false_ne_true

/-- The ice maker enters a state of the harvest while the Defrost Controller is not in HEATING. -/
theorem setIceState_apart_harvest (st : IceState) (hdefrost : p.defrost.state ≠ .heating) (h : p.apart) :
    (p.setIceState st).apart := by
  obtain ⟨⟨-, hcopy⟩, -⟩ := h
  exact ⟨⟨rfl, hcopy⟩, fun ⟨_, hheating⟩ => hdefrost hheating⟩

/-- The Defrost Controller enters HEATING with the ice maker out of its harvest, or any other state. -/
theorem setDefrostState_apart (st : DefrostState) (hst : st = .heating → p.ice.state.holdsHeating = false)
    (h : p.apart) : (p.setDefrostState st).apart := by
  obtain ⟨⟨hcopy, -⟩, -⟩ := h
  unfold Part.apart Part.copiesAgree Part.interlocked
  rw [setDefrostState_ice, setDefrostState_defrost]
  refine ⟨⟨hcopy, rfl⟩, fun ⟨hholds, hheating⟩ => ?_⟩
  exact absurd ((hst hheating).symm.trans hholds) Bool.false_ne_true

/-! The Defrost Controller. -/

theorem enterWanted_apart (h : p.apart) : p.enterWanted.apart :=
  setDefrostState_apart .wanted nofun h

theorem compareTarget_apart (h : p.apart) : p.compareTarget.apart := by
  unfold Part.compareTarget
  split
  · exact enterWanted_apart h
  · exact h

/-- R159, R161: HEATING is entered with the ice maker out of HARVEST_HEAT and EJECT. -/
theorem enterHeating_apart (hice : p.ice.state.holdsHeating = false) (h : p.apart) : p.enterHeating.apart := by
  unfold Part.enterHeating
  dsimp only
  refine setDefrostState_apart .heating (fun _ => ?_) (Part.SamePhases.apart (p := p) ?_ h)
  · (repeat' split) <;> simpa using hice
  · (repeat' split) <;> simp

/-- R159: the wait of PREP reads the ice maker's state as handed, which is its state. -/
theorem prepWait_apart (h : p.apart) : p.prepWait.apart := by
  have ⟨⟨hcopy, _⟩, _⟩ := h
  unfold Part.prepWait
  split
  next hwait => exact enterHeating_apart (hcopy ▸ hwait.2) h
  next => exact h

theorem enterPrep_apart (forced ungranted : Bool) (h : p.apart) : (p.enterPrep forced ungranted).apart := by
  unfold Part.enterPrep
  dsimp only
  exact prepWait_apart (setDefrostState_apart .prep nofun (Part.SamePhases.apart (p := p) (by simp) h))

theorem enterDeferred_apart (minutes : Nat) (h : p.apart) : (p.enterDeferred minutes).apart :=
  setDefrostState_apart .deferred nofun h

theorem endDefer_apart (h : p.apart) : p.endDefer.apart :=
  setDefrostState_apart .wanted nofun h

theorem endHeating_apart (r : EndReason) (h : p.apart) : (p.endHeating r).apart := by
  unfold Part.endHeating
  dsimp only
  exact setDefrostState_apart .dwell nofun (Part.SamePhases.apart (p := p) (by simp) h)

theorem endDwell_apart (h : p.apart) : p.endDwell.apart := by
  unfold Part.endDwell
  dsimp only
  refine setDefrostState_apart .recover nofun (Part.SamePhases.apart (p := p) ?_ h)
  split <;> simp

theorem endRecover_apart (h : p.apart) : p.endRecover.apart := by
  unfold Part.endRecover
  split
  · exact h
  · dsimp only
    exact setDefrostState_apart .accruing nofun (Part.SamePhases.apart (p := p) (by simp) h)

theorem abortPrep_apart (h : p.apart) : p.abortPrep.apart :=
  compareTarget_apart (setDefrostState_apart .accruing nofun (Part.SamePhases.apart (p := p) (by simp) h))

theorem compareHeatLimit_apart (h : p.apart) : p.compareHeatLimit.apart := by
  unfold Part.compareHeatLimit
  split
  · exact endHeating_apart _ h
  · exact h

theorem evapReading_apart (entered : Bool) (h : p.apart) : (p.evapReading entered).apart := by
  have hcycle (f : Cycle → Cycle) : (p.updateCycle f).apart := h
  have hflagged : p.flagDefrostSensor.apart := (flagDefrostSensor_phases p).apart h
  unfold Part.evapReading
  dsimp only
  repeat' split
  · exact endHeating_apart .terminated (hcycle _)
  · exact hcycle _
  · exact compareHeatLimit_apart hflagged
  · exact h
  · exact hcycle _
  · exact endRecover_apart h
  · exact h
  · exact hflagged
  · exact h
  · exact h

theorem compareWantLimit_apart (h : p.apart) : p.compareWantLimit.apart := by
  unfold Part.compareWantLimit
  split
  · exact enterPrep_apart false true h
  · exact h

/-! The ice maker. -/

theorem enterIceFault_apart (h : p.apart) : p.enterIceFault.apart :=
  setIceState_apart .fault rfl h

theorem enterFreezing_apart (h : p.apart) : p.enterFreezing.apart :=
  setIceState_apart .freezing rfl h

theorem enterFillWait_apart (h : p.apart) : p.enterFillWait.apart :=
  Part.SamePhases.apart (by simp [Part.enterFillWait]) (setIceState_apart .fillWait rfl h)

theorem enterParked_apart (h : p.apart) : p.enterParked.apart :=
  setIceState_apart .parked rfl h

theorem homingSucceeds_apart (h : p.apart) : p.homingSucceeds.apart :=
  enterFreezing_apart h

theorem homeNow_apart (h : p.apart) : p.homeNow.apart := by
  unfold Part.homeNow
  split
  · exact h
  · exact homingSucceeds_apart h
  · exact h

theorem enterHoming_apart (h : p.apart) : p.enterHoming.apart :=
  homeNow_apart (setIceState_apart .homing rfl h)

theorem apart_of_harvestHeat (hs : p.ice.state = .harvestHeat) (h : p.apart) : p.defrost.state ≠ .heating := by
  obtain ⟨-, hlock⟩ := h
  exact fun hheating => hlock ⟨by rw [hs]; rfl, hheating⟩

/-- R104, R105: EJECT is entered from HARVEST_HEAT, in which the Defrost Controller is not in HEATING. -/
theorem endHeat_apart (mark : Bool) (hs : p.ice.state = .harvestHeat) (h : p.apart) : (p.endHeat mark).apart :=
  setIceState_apart_harvest .eject (apart_of_harvestHeat hs h) h

theorem compareMoldLimit_apart (h : p.apart) : p.compareMoldLimit.apart := by
  unfold Part.compareMoldLimit
  split
  next hreached =>
    refine endHeat_apart _ ?_ h
    unfold Part.moldLimitReached at hreached
    split at hreached
    next hs _ => exact hs
    next => cases hreached
  next => exact h

theorem endFreeze_apart (sensor : Bool) (h : p.apart) : (p.endFreeze sensor).apart :=
  Part.SamePhases.apart (by simp [Part.endFreeze])
    (setIceState_apart (p := { p with ice.coldRunStart := none, ice.notedSensor := sensor }) .harvestWait rfl h)

theorem takeFreeze_apart (h : p.apart) : p.takeFreeze.apart := by
  unfold Part.takeFreeze
  split
  · exact endFreeze_apart false h
  · exact h

theorem takeFaultFreeze_apart (h : p.apart) : p.takeFaultFreeze.apart := by
  unfold Part.takeFaultFreeze
  split
  · exact endFreeze_apart true h
  · exact h

theorem freezeReading_apart (h : p.apart) : p.freezeReading.apart := by
  unfold Part.freezeReading
  split
  · refine takeFreeze_apart ?_
    split <;> exact h
  · exact takeFaultFreeze_apart h

theorem heatReading_apart (entered : Bool) (hs : p.ice.state = .harvestHeat) (h : p.apart) :
    (p.heatReading entered).apart := by
  unfold Part.heatReading
  repeat' split
  · exact endHeat_apart false hs h
  · exact h
  · exact compareMoldLimit_apart (Part.SamePhases.apart (by simp) h)
  · exact h

theorem moldReading_apart (entered : Bool) (h : p.apart) : (p.moldReading entered).apart := by
  unfold Part.moldReading
  split
  next => exact freezeReading_apart h
  next hs => exact heatReading_apart entered hs h
  next => exact h

theorem handReading_apart (ch : ChannelNo) (entered : Bool) (h : p.apart) : (p.handReading ch entered).apart := by
  unfold Part.handReading
  repeat' split
  · exact evapReading_apart entered h
  · exact moldReading_apart entered h
  · exact h

theorem handClass_apart (c : CurveClass) (h : p.apart) : (p.handClass c).apart := by
  unfold Part.handClass
  generalize List.filter _ _ = l
  induction l generalizing p with
  | nil => exact h
  | cons ch l ih => exact ih (handReading_apart ch false h)

theorem afterFill_apart (o : TicketOutcome) (loaded : Bool) (h : p.apart) : (p.afterFill o loaded).apart := by
  unfold Part.afterFill
  repeat' split
  · exact enterParked_apart h
  · exact enterFreezing_apart h
  · exact enterFillWait_apart h

theorem fillEnded_apart (r : EndingReason) (w : Work) (h : p.apart) : (p.fillEnded r w).apart := by
  unfold Part.fillEnded
  dsimp only
  refine afterFill_apart _ _ (Part.SamePhases.apart (p := p) ?_ h)
  (repeat' split) <;> simp

theorem ejectSucceeds_apart (h : p.apart) : p.ejectSucceeds.apart := by
  unfold Part.ejectSucceeds
  dsimp only
  exact setIceState_apart .settle rfl (Part.SamePhases.apart (p := p) (by simp) h)

theorem attemptSucceeds_apart (h : p.apart) : p.attemptSucceeds.apart := by
  unfold Part.attemptSucceeds
  split
  · exact (endEjectorTest_phases _ .complete p).apart h
  · exact ejectSucceeds_apart h
  · exact h

theorem attemptFails_apart (h : p.apart) : p.attemptFails.apart := by
  unfold Part.attemptFails
  dsimp only
  repeat' split
  · exact enterIceFault_apart ((endEjectorTest_phases _ .stall p).apart h)
  · exact h
  · exact enterIceFault_apart (Part.SamePhases.apart (p := p) (by simp) h)
  · exact h

theorem homeChanged_apart (c : Contact) (h : p.apart) : (p.homeChanged c).apart := by
  unfold Part.homeChanged
  split
  · exact homingSucceeds_apart h
  · exact h
  · split <;> exact h
  · split <;> exact h
  · split
    · exact attemptSucceeds_apart h
    · exact h
  · split
    · exact attemptSucceeds_apart h
    · exact h
  · exact h

theorem homeFirstRead_apart (h : p.apart) : p.homeFirstRead.apart := by
  unfold Part.homeFirstRead
  split
  · exact homeNow_apart h
  · exact h

theorem homingFails_apart (h : p.apart) : p.homingFails.apart := by
  unfold Part.homingFails
  split
  · exact enterIceFault_apart h
  · exact h

theorem endIceSettle_apart (h : p.apart) : p.endIceSettle.apart := by
  have hstock : Part.apart { p with ice.stock := p.settledStock, ice.settleEnd := none } := h
  rw [endIceSettle_eq]
  dsimp only
  split
  · exact enterParked_apart hstock
  · exact enterFillWait_apart hstock

/-- R102: a HARVEST is drawn in HARVEST_WAIT, with the Defrost Controller as handed out of PREP, HEATING and DWELL. -/
theorem defrost_of_wantsHarvest (hwants : p.iceWants = some .harvest) (h : p.apart) : p.defrost.state ≠ .heating := by
  obtain ⟨⟨-, hcopy⟩, -⟩ := h
  unfold Part.iceWants at hwants
  split at hwants
  next => cases hwants
  next =>
    split at hwants
    next hconditions =>
      obtain ⟨-, -, hholds⟩ := hconditions
      intro hheating
      rw [hcopy, hheating] at hholds
      cases hholds
    next => cases hwants
  next => cases hwants

theorem redraw_apart (h : p.apart) : p.redraw.apart := by
  unfold Part.redraw
  split
  next =>
    split
    next => exact h
    next kind hwants =>
      obtain ⟨-, -, -, hice, -, hdefrost⟩ := draw_frame kind .iceMaker none {} p
      split
      next q hq =>
        rw [hq] at hice hdefrost
        dsimp only at hice hdefrost
        exact Part.SamePhases.apart (by simp [hice, hdefrost]) h
      next n q hq =>
        rw [hq] at hice hdefrost
        dsimp only at hice hdefrost
        have hdrawn : q.apart := Part.SamePhases.apart (by simp [hice, hdefrost]) h
        split
        next hkind =>
          have hcold : q.defrost.state ≠ .heating := hdefrost ▸ defrost_of_wantsHarvest (hkind ▸ hwants) h
          exact setIceState_apart_harvest .harvestHeat hcold hdrawn
        next => exact hdrawn
  next => exact h

/-! The line, and what follows at once. -/

theorem grantFill_apart (n : TicketNo) (h : p.apart) : (p.grantFill n).apart :=
  setIceState_apart .filling rfl h

theorem judgeFill_apart (h : p.apart) : p.judgeFill.apart := by
  unfold Part.judgeFill
  repeat' split
  · exact Part.SamePhases.apart (by simp) h
  · exact grantFill_apart _ h
  · exact h
  · exact h

theorem giveLine_apart (h : p.apart) : p.giveLine.apart := by
  unfold Part.giveLine
  dsimp only
  split
  · exact Part.SamePhases.apart (p := p) (by simp) h
  · exact judgeFill_apart h

theorem judgeGrant_apart (h : p.apart) : p.judgeGrant.apart := by
  unfold Part.judgeGrant
  split
  · exact Part.SamePhases.apart (by simp) h
  · exact judgeFill_apart h
  · exact h

theorem startHeads_apart (h : p.apart) : p.startHeads.apart := Part.SamePhases.apart (by simp) h

theorem settle_apart (h : p.apart) : p.settle.apart :=
  judgeFill_apart (redraw_apart (prepWait_apart (compareTarget_apart (startHeads_apart h))))

theorem reportWork_apart (h : p.apart) : p.reportWork.apart := by
  unfold Part.reportWork
  split
  · exact fillEnded_apart _ _ h
  · exact Part.SamePhases.apart (by simp) h
  · exact h

theorem endLineSettle_apart (h : p.apart) : p.endLineSettle.apart :=
  giveLine_apart (startHeads_apart (reportWork_apart h))

/-! ICE_CONTROL. -/

theorem parkFillWait_apart (h : p.apart) : p.parkFillWait.apart := by
  have hparked := enterParked_apart (p := { p with line.fillClaim := none }) h
  unfold Part.parkFillWait
  exact Part.SamePhases.apart (by simp) hparked

theorem parkFilling_apart (h : p.apart) : p.parkFilling.apart := by
  unfold Part.parkFilling
  dsimp only
  repeat' split
  · exact fillEnded_apart _ _ h
  · exact Part.SamePhases.apart (p := p) (by simp) h
  · exact h

theorem park_apart (q : Part) (hq : p.park = some q) (h : p.apart) : q.apart := by
  unfold Part.park at hq
  split at hq
  next =>
    cases hq
    exact h
  next =>
    split at hq <;> cases hq
    · exact parkFillWait_apart h
    · exact parkFilling_apart h
    · exact enterParked_apart h
    · exact enterParked_apart h
    · exact h
    · exact h
    · exact h
    · exact h

theorem runIce_apart (q : Part) (hq : p.runIce = some q) (h : p.apart) : q.apart := by
  unfold Part.runIce at hq
  (repeat' split at hq) <;> cases hq
  · exact enterHoming_apart h
  · exact enterFreezing_apart h
  · exact enterFillWait_apart h

theorem resumeIce_apart (q : Part) (hq : p.resumeIce = some q) (h : p.apart) : q.apart := by
  unfold Part.resumeIce at hq
  split at hq <;> cases hq
  exact enterHoming_apart h

theorem harvestNow_apart (q : Part) (hq : p.harvestNow = some q) (h : p.apart) : q.apart := by
  unfold Part.harvestNow at hq
  split at hq <;> cases hq
  exact endFreeze_apart false h

end

end Sys2Proof.Machine

namespace Sys2Proof.Machine

/-! Harvest and heating stay apart through the inputs, the owners of the command kinds and the link (R103). -/

section
variable {p : Part}

/-! The inputs and the conversions. -/

theorem homeBecomes_apart (c : Contact) (h : p.apart) : (p.homeBecomes c).apart := by
  unfold Part.homeBecomes
  dsimp only
  split
  · exact homeFirstRead_apart h
  · exact homeChanged_apart c h

theorem doorBecomes_phases (d : Door) : (p.doorBecomes d).SamePhases p := by
  unfold Part.doorBecomes
  (repeat' split) <;> simp

theorem paddleBecomes_phases (pad : Paddle) (st : PaddleState) : (p.paddleBecomes pad st).SamePhases p := by
  unfold Part.paddleBecomes
  (repeat' split) <;> simp

theorem flapBecomes_phases (c : Contact) : (p.flapBecomes c).SamePhases p := by
  unfold Part.flapBecomes
  (repeat' split) <;> simp

theorem beamBecomes_phases (l : BeamLevel) : (p.beamBecomes l).SamePhases p := by
  simp [Part.beamBecomes]

/-- A row of an input tells its level, and lets the change follow that the level or the one before it has earned. -/
theorem Input.row_apart {α : Type} [DecidableEq α] (u : Input α) (takes : Option α → Prop) [DecidablePred takes] (v : α)
    (htell : ∀ v p, (u.tell v p).SamePhases p) (hbecome : ∀ v (p : Part), p.apart → (u.become v p).apart)
    (h : p.apart) : (u.row takes v p).apart := by
  have htold : (u.told v p).apart := by
    refine (htell v _).apart ?_
    cases u.due p with
    | none => exact h
    | some w => exact hbecome w p h
  unfold Input.row
  split
  · exact hbecome v _ htold
  · exact htold

theorem doorRow_apart (takes : Option Door → Prop) [DecidablePred takes] (d : Door) (h : p.apart) :
    (doorInput.row takes d p).apart :=
  doorInput.row_apart takes d (fun _ _ => ⟨rfl, rfl, rfl, rfl⟩) (fun v _ => (doorBecomes_phases v).apart) h

theorem paddleRow_apart (pad : Paddle) (takes : Option PaddleState → Prop) [DecidablePred takes] (st : PaddleState)
    (h : p.apart) : ((paddleInput pad).row takes st p).apart :=
  (paddleInput pad).row_apart takes st (fun _ _ => ⟨rfl, rfl, rfl, rfl⟩)
    (fun v _ => (paddleBecomes_phases pad v).apart) h

theorem homeRow_apart (takes : Option Contact → Prop) [DecidablePred takes] (c : Contact) (h : p.apart) :
    (homeInput.row takes c p).apart :=
  homeInput.row_apart takes c (fun _ _ => ⟨rfl, rfl, rfl, rfl⟩) (fun v _ => homeBecomes_apart v) h

theorem flapRow_apart (takes : Option Contact → Prop) [DecidablePred takes] (c : Contact) (h : p.apart) :
    (flapInput.row takes c p).apart :=
  flapInput.row_apart takes c (fun _ _ => ⟨rfl, rfl, rfl, rfl⟩) (fun v _ => (flapBecomes_phases v).apart) h

theorem beamRow_apart (takes : Option BeamLevel → Prop) [DecidablePred takes] (l : BeamLevel) (h : p.apart) :
    (beamInput.row takes l p).apart :=
  beamInput.row_apart takes l (fun _ _ => ⟨rfl, rfl, rfl, rfl⟩) (fun v _ => (beamBecomes_phases v).apart) h

theorem firstRead_apart (r : FirstReading) (h : p.apart) : (p.firstRead r).apart := by
  cases r with
  | door d => exact doorRow_apart (· = none) d h
  | paddle pad st => exact paddleRow_apart pad (· = none) st h
  | home c => exact homeRow_apart (· = none) c h
  | flap c => exact flapRow_apart (· = none) c h

theorem endConversion_apart (raw : BitVec 16) (h : p.apart) : (p.endConversion raw).apart := by
  unfold Part.endConversion
  dsimp only
  exact handReading_apart _ _ ((convertChannel_phases _ _ _).apart h)

/-! The owners of the command kinds. -/

/-- An accepted parameter acts at once: on a limit that ends a heat, on the target, on the readings of a class, or away
from the phases. -/
theorem paramChanged_apart (k : Param) (h : p.apart) : (p.paramChanged k).apart := by
  have htaken : p.takeFreeze.apart := takeFreeze_apart h
  cases k
  case silenceLimit => exact (compareSilence_phases p).apart h
  case fillOpenLimit | dispenseOpenLimit | noFlowWindow | filterLimitL | filterLimitDays | binCapacity =>
    exact Part.SamePhases.apart (by simp [Part.paramChanged]) h
  case harvestTemp => exact htaken
  case freezeHold | minFreeze => exact takeFaultFreeze_apart htaken
  case moldHeatLimit => exact compareMoldLimit_apart h
  case defrostMinH | defrostMaxH | defrostStartH => exact compareTarget_apart h
  case defrostHeatLimit => exact compareHeatLimit_apart h
  case wantLimit => exact compareWantLimit_apart h
  case channelClass ch => exact handReading_apart ch false h
  all_goals exact h

/-- An acceptance without data leaves the part it is given. -/
theorem accept_apart (h : p.apart) : (accept p).2.apart := h

theorem takeSetParam_apart (payload : List Byte) (h : p.apart) : (p.takeSetParam payload).2.apart := by
  unfold Part.takeSetParam
  split
  · split
    · exact h
    next k _ =>
      split
      · exact h
      · dsimp only
        exact settle_apart (paramChanged_apart k h)
  · exact h

theorem takeLoadCurve_apart (payload : List Byte) (h : p.apart) : (p.takeLoadCurve payload).2.apart := by
  unfold Part.takeLoadCurve
  split
  · split
    · exact h
    · split
      · exact h
      · split
        · exact h
        next cls _ =>
          split
          · exact accept_apart (settle_apart (handClass_apart cls h))
          · exact h
  · exact h

theorem placeLink_phases (n : TicketNo) (kind : TicketKind) (r : Request) : (p.placeLink n kind r).SamePhases p := by
  unfold Part.placeLink
  dsimp only
  (repeat' split) <;> simp

theorem takeSubmit_apart (tag : Byte) (payload : List Byte) (h : p.apart) : (p.takeSubmit tag payload).2.apart := by
  unfold Part.takeSubmit
  split
  next =>
    split
    next => exact h
    next kind r _ =>
      have hdrawn : (p.draw kind .link (some tag) r).2.apart := Part.SamePhases.apart (by simp) h
      split
      next => exact h
      next =>
        split
        next q hq =>
          rw [hq] at hdrawn
          exact hdrawn
        next n q hq =>
          rw [hq] at hdrawn
          dsimp only
          exact settle_apart ((placeLink_phases n kind r).apart hdrawn)
  next => exact h

theorem takeCancel_apart (payload : List Byte) (h : p.apart) : (p.takeCancel payload).2.apart := by
  unfold Part.takeCancel
  split
  · split
    · dsimp only
      split
      · exact h
      · refine accept_apart (settle_apart (Part.SamePhases.apart (p := p) ?_ h))
        split <;> simp
    · exact h
  · exact h

theorem fetchUpTo_apart (k : Nat) (h : p.apart) : (p.fetchUpTo k).2.apart := by
  induction k generalizing p with
  | zero => exact h
  | succ k ih =>
    unfold Part.fetchUpTo
    split
    next => exact h
    next n rest _ => exact ih (Part.SamePhases.apart (p := p) (by simp) h)

theorem takeFetch_apart (payload : List Byte) (h : p.apart) : (p.takeFetch payload).2.apart := by
  unfold Part.takeFetch
  split
  · split
    · exact h
    · exact settle_apart (fetchUpTo_apart _ h)
  · exact h

theorem takeClearLeak_apart (payload : List Byte) (h : p.apart) : (p.takeClearLeak payload).2.apart := by
  unfold Part.takeClearLeak
  split
  · exact accept_apart (settle_apart (judgeFill_apart h))
  · exact h

theorem takeRestoreTotals_apart (payload : List Byte) (h : p.apart) : (p.takeRestoreTotals payload).2.apart := by
  unfold Part.takeRestoreTotals
  split
  · exact accept_apart (settle_apart (compareTarget_apart (Part.SamePhases.apart (p := p) (by simp) h)))
  · exact h

theorem answerIce_apart (taken : Option Part) (htaken : ∀ q, taken = some q → q.apart) (h : p.apart) :
    (p.answerIce taken).2.apart := by
  cases taken with
  | none => exact h
  | some q => exact settle_apart (htaken q rfl)

theorem takeIceControl_apart (payload : List Byte) (h : p.apart) : (p.takeIceControl payload).2.apart := by
  unfold Part.takeIceControl
  repeat' split
  · exact answerIce_apart _ (fun q hq => park_apart q hq h) h
  · exact answerIce_apart _ (fun q hq => runIce_apart q hq h) h
  · exact answerIce_apart _ (fun q hq => resumeIce_apart q hq h) h
  · exact answerIce_apart _ (fun q hq => harvestNow_apart q hq h) h
  · exact h
  · exact h

theorem answerDefrost_apart (taken : Option Part) (htaken : ∀ q, taken = some q → q.apart) (h : p.apart) :
    (p.answerDefrost taken).2.apart := by
  cases taken with
  | none => exact h
  | some q => exact settle_apart (htaken q rfl)

theorem go_apart (q : Part) (hq : p.go = some q) (h : p.apart) : q.apart := by
  unfold Part.go at hq
  split at hq <;> cases hq <;> exact enterPrep_apart false false h

theorem defer_apart (m : Nat) (q : Part) (hq : p.defer m = some q) (h : p.apart) : q.apart := by
  unfold Part.defer at hq
  split at hq <;> cases hq
  exact enterDeferred_apart m h

theorem force_apart (q : Part) (hq : p.force = some q) (h : p.apart) : q.apart := by
  unfold Part.force at hq
  split at hq <;> cases hq <;> exact enterPrep_apart true false h

theorem abort_apart (q : Part) (hq : p.abort = some q) (h : p.apart) : q.apart := by
  unfold Part.abort at hq
  split at hq <;> cases hq
  · exact abortPrep_apart h
  · exact endHeating_apart .aborted h

theorem takeDefrostReply_apart (payload : List Byte) (h : p.apart) : (p.takeDefrostReply payload).2.apart := by
  unfold Part.takeDefrostReply
  repeat' split
  · exact answerDefrost_apart _ (fun q hq => go_apart q hq h) h
  · exact h
  · exact answerDefrost_apart _ (fun q hq => defer_apart _ q hq h) h
  · exact h
  · exact h

theorem takeDefrostForce_apart (payload : List Byte) (h : p.apart) : (p.takeDefrostForce payload).2.apart := by
  unfold Part.takeDefrostForce
  split
  · exact answerDefrost_apart _ (fun q hq => force_apart q hq h) h
  · exact h

theorem takeDefrostAbort_apart (payload : List Byte) (h : p.apart) : (p.takeDefrostAbort payload).2.apart := by
  unfold Part.takeDefrostAbort
  split
  · exact answerDefrost_apart _ (fun q hq => abort_apart q hq h) h
  · exact h

theorem takeRestart_apart (payload : List Byte) (h : p.apart) : (p.takeRestart payload).2.apart := by
  unfold Part.takeRestart
  split
  · exact (writeResetRecord_phases p).apart h
  · exact h

theorem takeCompressor_apart (payload : List Byte) (h : p.apart) : (p.takeCompressor payload).2.apart := by
  have hset (running : Bool) : (p.setCompressor running).apart := (setCompressor_phases running p).apart h
  unfold Part.takeCompressor
  repeat' split
  · exact hset false
  · exact hset true
  · exact h
  · exact h

theorem takeSetLoad_apart (payload : List Byte) (h : p.apart) : (p.takeSetLoad payload).2.apart := by
  unfold Part.takeSetLoad
  split
  · split
    · dsimp only
      split <;> exact h
    · exact h
  · exact h

theorem takeTicketInfo_apart (payload : List Byte) (h : p.apart) : (p.takeTicketInfo payload).2.apart := by
  unfold Part.takeTicketInfo
  split
  · split
    · dsimp only
      split <;> exact h
    · exact h
  · exact h

/-! The kind table and the Link Port. -/

theorem ite_snd_apart {c : Prop} [Decidable c] {a b : Option Answer × Part} (ha : a.2.apart) (hb : b.2.apart) :
    (if c then a else b).2.apart := by
  split
  · exact ha
  · exact hb

/-- Fourteen kinds touch neither controller's phases, whatever their payload; the others are above. -/
theorem takeKind_apart (f : Frame) (h : p.apart) : (p.takeKind f).2.apart := by
  have hping : (p.takePing f.payload).2.apart := by unfold Part.takePing; split <;> exact h
  have hstatus : (p.takeStatus f.payload).2.apart := by unfold Part.takeStatus; split <;> exact h
  have hnotices : (p.takeReadNotices f.payload).2.apart := by unfold Part.takeReadNotices; split <;> exact h
  have hmask : (p.takeSetNoticeMask f.payload).2.apart := by
    unfold Part.takeSetNoticeMask; (repeat' split) <;> exact h
  have hparam : (p.takeGetParam f.payload).2.apart := by unfold Part.takeGetParam; (repeat' split) <;> exact h
  have hcurve : (p.takeGetCurve f.payload).2.apart := by unfold Part.takeGetCurve; (repeat' split) <;> exact h
  have hloads : (p.takeGetLoads f.payload).2.apart := by unfold Part.takeGetLoads; split <;> exact h
  have hrotation : (p.takeSetRotation f.payload).2.apart := by
    unfold Part.takeSetRotation; (repeat' split) <;> exact h
  have hlock : (p.takeLockLimits f.payload).2.apart := by unfold Part.takeLockLimits; split <;> exact h
  have hpool : (p.takePoolStatus f.payload).2.apart := by unfold Part.takePoolStatus; (repeat' split) <;> exact h
  have hsensors : (p.takeReadSensors f.payload).2.apart := by
    unfold Part.takeReadSensors; (repeat' split) <;> exact h
  have hfilter : (p.takeFilterReset f.payload).2.apart := by unfold Part.takeFilterReset; split <;> exact h
  have htotals : (p.takeGetTotals f.payload).2.apart := by unfold Part.takeGetTotals; split <;> exact h
  have hlog : (p.takeDefrostLog f.payload).2.apart := by unfold Part.takeDefrostLog; split <;> exact h
  unfold Part.takeKind
  exact ite_snd_apart hping <| ite_snd_apart hstatus <| ite_snd_apart hnotices <| ite_snd_apart hmask <|
    ite_snd_apart (takeRestart_apart _ h) <| ite_snd_apart (takeSetParam_apart _ h) <| ite_snd_apart hparam <|
    ite_snd_apart (takeLoadCurve_apart _ h) <| ite_snd_apart hcurve <| ite_snd_apart (takeSetLoad_apart _ h) <|
    ite_snd_apart hloads <| ite_snd_apart hrotation <| ite_snd_apart hlock <|
    ite_snd_apart (takeSubmit_apart _ _ h) <| ite_snd_apart (takeCancel_apart _ h) <|
    ite_snd_apart (takeFetch_apart _ h) <| ite_snd_apart (takeTicketInfo_apart _ h) <| ite_snd_apart hpool <|
    ite_snd_apart hsensors <| ite_snd_apart (takeClearLeak_apart _ h) <| ite_snd_apart hfilter <|
    ite_snd_apart htotals <| ite_snd_apart (takeRestoreTotals_apart _ h) <|
    ite_snd_apart (takeIceControl_apart _ h) <| ite_snd_apart (takeCompressor_apart _ h) <|
    ite_snd_apart (takeDefrostReply_apart _ h) <| ite_snd_apart (takeDefrostForce_apart _ h) <|
    ite_snd_apart (takeDefrostAbort_apart _ h) <| ite_snd_apart hlog h

theorem execute_apart (f : Frame) (h : p.apart) : (p.execute f).apart := by
  have ht : (Part.takeKind f { p with link.executing := some f }).2.apart := takeKind_apart f h
  unfold Part.execute
  generalize Part.takeKind f { p with link.executing := some f } = a at ht ⊢
  rcases a with ⟨_ | a, q⟩
  · exact ht
  · exact ht

theorem beginNext_apart (h : p.apart) : p.beginNext.apart := by
  unfold Part.beginNext
  split
  next f rest _ _ => exact execute_apart f h
  next => exact h

theorem takeFrame_apart (f : Frame) (h : p.apart) : (p.takeFrame f).apart := by
  unfold Part.takeFrame
  split
  · exact h
  · exact beginNext_apart h

theorem hostFrame_apart (f : Frame) (h : p.apart) : (p.hostFrame f).apart := by
  unfold Part.hostFrame
  split
  · exact h
  · exact takeFrame_apart f h

theorem checkFrame_apart (bytes : List Byte) (h : p.apart) : (p.checkFrame bytes).apart := by
  unfold Part.checkFrame
  repeat' split
  · exact takeFrame_apart _ h
  · exact h
  · exact h

theorem gather_apart (bytes : List Byte) (b : Byte) (h : p.apart) : (p.gather bytes b).apart := by
  unfold Part.gather
  dsimp only
  repeat' split
  · exact h
  · exact checkFrame_apart _ h
  · exact h

theorem receive_apart (b : Byte) (h : p.apart) : (p.receive b).apart := by
  have hgap : (if p.gapOver then p.endGap else p).apart := by split <;> exact h
  unfold Part.receive
  dsimp only
  split
  · split <;> exact hgap
  · exact gather_apart _ b hgap

theorem receiveAll_apart (bytes : List Byte) (h : p.apart) : (p.receiveAll bytes).apart := by
  unfold Part.receiveAll
  induction bytes generalizing p with
  | nil => exact h
  | cons b bytes ih => exact ih (receive_apart b h)

theorem answerFresh_apart (h : p.apart) : p.answerFresh.apart := by
  unfold Part.answerFresh
  split <;> exact h

/-! The resets. -/

/-- R187: a reset begins with the ice maker in HOMING and the Defrost Controller in ACCRUING, and both have been
handed it. -/
theorem beginReset_apart (k : ResetKind) : (p.beginReset k).apart := by
  obtain ⟨-, -, -, hcopies, hlock, -⟩ := invariantsHoldAtReset
  cases k <;> exact ⟨hcopies, hlock⟩

theorem endReset_apart (h : p.apart) : p.endReset.apart := by
  unfold Part.endReset
  exact compareTarget_apart (homeNow_apart h)

theorem replyEnds_apart (h : p.apart) : p.replyEnds.apart := by
  unfold Part.replyEnds
  repeat' split
  · exact h
  · exact beginReset_apart .restart
  · exact beginNext_apart h

theorem onDue_apart (due : Part → Bool) (f : Part → Part) (hf : ∀ p : Part, p.apart → (f p).apart) (h : p.apart) :
    (p.onDue due f).apart := by
  unfold Part.onDue
  split
  · exact settle_apart (hf p h)
  · exact h

end

/-! The rows and the step. -/

theorem take_apart {s t : State} {dt : Nat} {f : Part → Part} (h : s.take dt f = .next t) (hs : s.part.apart)
    (hf : ∀ p : Part, p.apart → (f p).apart) : t.part.apart := by
  obtain ⟨-, hpart | hpart⟩ := take_cases s t dt f h
  · rw [hpart]
    exact hs
  · rw [hpart]
    exact hf (s.later dt) hs

/-- A timer row keeps harvest and heating apart if its effect does. -/
theorem takeDue_apart {s t : State} {dt : Nat} {due : Part → Bool} {f : Part → Part}
    (h : s.take dt (Part.onDue due f) = .next t) (hs : s.part.apart) (hf : ∀ p : Part, p.apart → (f p).apart) :
    t.part.apart :=
  take_apart h hs fun _ => onDue_apart due f hf

theorem exec_apart (i : Instr) (s t : State) (hs : s.part.apart) (h : exec i s = .next t) : t.part.apart := by
  cases hr : hostRow i with
  | some r =>
    rw [exec_hostRow i s r.1 r.2 hr] at h
    exact take_apart h hs fun _ => hostFrame_apart r.2
  | none =>
    cases i
    case powerOn => cases h; exact beginReset_apart .powerOn
    case lineReset => cases h; exact beginReset_apart .lineReset
    case resetEnd dt =>
      cases h
      dsimp only
      split
      · exact endReset_apart hs
      · exact hs
    case readSensorsFreshReply => exact take_apart h hs fun _ => answerFresh_apart
    case frameReceived bytes => exact take_apart h hs fun _ => receiveAll_apart bytes
    case replySent => exact take_apart h hs fun _ => replyEnds_apart
    case deferTimerEnd => exact takeDue_apart h hs fun _ => endDefer_apart
    case wantLimitReached | silentWantLimit => exact takeDue_apart h hs fun _ => enterPrep_apart false true
    case defrostHeatLimitExpiry => exact takeDue_apart h hs fun _ => compareHeatLimit_apart
    case dwellEnd => exact takeDue_apart h hs fun _ => endDwell_apart
    case recoverLimitExpiry => exact takeDue_apart h hs fun _ => endRecover_apart
    case homingDeadline => exact takeDue_apart h hs fun _ => homingFails_apart
    case minFreezeReached => exact takeDue_apart h hs fun _ => takeFreeze_apart
    case faultFreezeTime => exact takeDue_apart h hs fun _ => takeFaultFreeze_apart
    case moldHeatLimitExpiry => exact takeDue_apart h hs fun _ => compareMoldLimit_apart
    case leaveHomeDeadline | ejectReturnDeadline => exact takeDue_apart h hs fun _ => attemptFails_apart
    case iceSettleEnd => exact takeDue_apart h hs fun _ => endIceSettle_apart
    case lineSettleEnd => exact takeDue_apart h hs fun _ => endLineSettle_apart
    case dryRetryEnd => exact takeDue_apart h hs fun _ hp => judgeFill_apart hp
    case ejectRetryTimer | openTimeLimit | noFlowExpiry | flapOpenDeadline | flapCloseEnd | runTargetReached
        | runningTimeLimit | jamWindowExpiry | reverseEnd | flapHoldEnd | pauseTimerEnd | chuteTestHoldEnd
        | ductTimerEnd | silenceExpiry =>
      exact takeDue_apart h hs fun _ => Part.SamePhases.apart (by simp)
    case gapTimeout | flowPeriodTimeout =>
      refine take_apart h hs fun p hp => ?_
      split <;> exact hp
    case harvestStart =>
      refine take_apart h hs fun p hp => ?_
      split
      · exact settle_apart (redraw_apart hp)
      · exact hp
    case internalRedraw => exact take_apart h hs fun _ hp => settle_apart (redraw_apart hp)
    case defrostHeatingStart => exact take_apart h hs fun _ hp => settle_apart (prepWait_apart hp)
    case lineGrant => exact take_apart h hs fun _ hp => settle_apart (judgeGrant_apart hp)
    case fillResume | headStart | partSecondsAdvance | flowPulse =>
      exact take_apart h hs fun p hp => settle_apart (Part.SamePhases.apart (p := p) (by simp) hp)
    case tachPulse => exact take_apart h hs fun p => Part.SamePhases.apart (by simp)
    case conversionEnd raw =>
      exact take_apart h hs fun _ hp => answerFresh_apart (settle_apart (endConversion_apart raw hp))
    case switchFirstReading reading => exact take_apart h hs fun _ hp => settle_apart (firstRead_apart reading hp)
    case paddlePress pad =>
      exact take_apart ((exec_paddlePress s _ pad).symm.trans h) hs fun _ hp =>
        settle_apart (paddleRow_apart pad _ .pressed hp)
    case paddleRelease pad =>
      exact take_apart ((exec_paddleRelease s _ pad).symm.trans h) hs fun _ hp =>
        settle_apart (paddleRow_apart pad _ .released hp)
    case doorOpening =>
      exact take_apart ((exec_doorOpening s _).symm.trans h) hs fun _ hp => settle_apart (doorRow_apart _ .opened hp)
    case doorClosing =>
      exact take_apart ((exec_doorClosing s _).symm.trans h) hs fun _ hp => settle_apart (doorRow_apart _ .closed hp)
    case homeSwitchChange c =>
      exact take_apart ((exec_homeSwitch s _ c).symm.trans h) hs fun _ hp => settle_apart (homeRow_apart _ c hp)
    case flapSwitchChange c =>
      exact take_apart ((exec_flapSwitch s _ c).symm.trans h) hs fun _ hp => settle_apart (flapRow_apart _ c hp)
    case beamFilterChange l =>
      exact take_apart ((exec_beam s _ l).symm.trans h) hs fun _ hp => settle_apart (beamRow_apart _ l hp)
    all_goals cases hr

/-- Settles O56: every row keeps harvest and heating apart with the hand-overs right, operation by operation, and a tick
touches neither controller. -/
theorem harvestAndHeatingStayApart : Obligations.HarvestAndHeatingStayApart := by
  intro s t hcopies hlock h
  have hs : s.part.apart := ⟨hcopies, hlock⟩
  unfold step at h
  split at h
  next =>
    cases h
    unfold State.tick
    split <;> exact hs
  next i rest _ => exact exec_apart i { s with pending := rest } t hs h

end Sys2Proof.Machine

namespace Sys2Proof.Machine

/-! The run of the auger: when each of its events is due, and what it makes of the head (R111, R134 to R136, R144). -/

/-- The kinds of head that the auger runs for: an ice ticket, or an auger test (R134, R144). -/
def Ticket.takesAuger (t : Ticket) : Prop :=
  (t.kind = some .icePortion ∨ t.kind = some .iceHold) ∨ (t.kind = some .loadTest ∧ t.request.load = some .auger)

theorem isAugerTest_of_ice (t : Ticket) (h : t.kind = some .icePortion ∨ t.kind = some .iceHold) :
    t.isAugerTest = false := by
  rw [Bool.eq_false_iff, ne_eq, isAugerTest_iff]
  rintro ⟨hk, -⟩
  rcases h with h | h <;> rw [h] at hk <;> cases hk

theorem isIce_of_loadTest (t : Ticket) (h : t.kind = some .loadTest) : t.isIce = false := by
  rw [Ticket.isIce, h]
  decide

theorem runsAuger_of_head (p : Part) (n : TicketNo) (hh : p.pool.queue.head? = some n) (hs : p.outlet.state = .running)
    (hk : (p.ticket n).takesAuger) : p.runsAuger = true := by
  rw [Part.runsAuger, hs, headIs_of_head p n _ hh, beq_self_eq_true, Bool.true_and, Bool.or_eq_true, Ticket.isIce_iff,
    isAugerTest_iff]
  exact hk

theorem targetRun_iff (p : Part) (target : Nat) (ht : p.outlet.run.target = some target) :
    p.targetRun = true ↔ target * 1000 ≤ p.outlet.run.forward.read p.clock.now := by
  rw [Part.targetRun, ht]
  exact decide_eq_true_iff

theorem targetRun_ahead (p : Part)
    (h : ∀ target : Nat, p.outlet.run.target = some target → p.outlet.run.forward.read p.clock.now < target * 1000) :
    p.targetRun = false := by
  cases ht : p.outlet.run.target with
  | none => rw [Part.targetRun, ht, Option.any_none]
  | some target => exact not_due (targetRun_iff p target ht) (h target ht)

theorem dueRunTarget_iff (p : Part) (target : Nat) (hr : p.runsAuger = true) (hf : p.outlet.augerForward = true)
    (ht : p.outlet.run.target = some target) :
    p.dueRunTarget = true ↔ target * 1000 ≤ p.outlet.run.forward.read p.clock.now := by
  rw [Part.dueRunTarget, hr, hf, Bool.true_and, Bool.true_and, targetRun_iff p target ht]

theorem dueJam_iff (p : Part) (e : Nat) (hr : p.runsAuger = true) (hf : p.outlet.augerForward = true)
    (he : p.outlet.run.jamDeadline = some e) : p.dueJam = true ↔ e ≤ p.clock.now := by
  rw [Part.dueJam, hr, hf, he, Bool.true_and, Bool.true_and, passed_some]

theorem dueReverse_iff (p : Part) (e : Nat) (hr : p.runsAuger = true) (hv : p.outlet.augerReverse = true)
    (he : p.outlet.run.reverseEnd = some e) : p.dueReverse = true ↔ e ≤ p.clock.now := by
  rw [Part.dueReverse, hr, hv, he, Bool.true_and, Bool.true_and, passed_some]

theorem runningLimitReached_iff (p : Part) (n : TicketNo) (hh : p.pool.queue.head? = some n)
    (hs : p.outlet.state = .running) (hi : (p.ticket n).isIce = true) :
    p.runningLimitReached = true ↔
      p.supervision.params.dispenseOpenLimit * 1000000 ≤ p.outlet.run.running.read p.clock.now := by
  rw [Part.runningLimitReached, hs, headIs_of_head p n _ hh, hi, beq_self_eq_true, Bool.true_and, Bool.true_and]
  exact decide_eq_true_iff

/-- DISPENSE_OPEN_LIMIT bounds no head but one of ice (R144). -/
theorem runningLimitReached_notIce (p : Part) (n : TicketNo) (hh : p.pool.queue.head? = some n)
    (hi : (p.ticket n).isIce = false) : p.runningLimitReached = false := by
  rw [Part.runningLimitReached, headIs_of_head p n _ hh, hi, Bool.and_false, Bool.false_and]

/-! What the events make of the part. -/

/-- The cubes that the forward run has delivered so far (R111). -/
def Part.runCubes (p : Part) : Nat :=
  p.outlet.run.forward.read p.clock.now / 1000 * p.supervision.params.augerRate / 10000

/-- What the end of a run leaves, its measured amount `k` (R111, R136, R144). -/
def Part.RunEnded (q p : Part) (n : TicketNo) (o : TicketOutcome) (k : Nat) : Prop :=
  q.outlet.state = .stopping ∧ q.outlet.ending = some o ∧ q.outlet.augerForward = false ∧
    q.outlet.augerReverse = false ∧ q.outlet.crusher = false ∧
    q.outlet.holdEnd = some (p.clock.now + p.supervision.params.chuteHold * 1000000) ∧ (q.ticket n).state = .stopping ∧
    (q.ticket n).progress.measured = min k 65535 ∧ q.ice.stock = p.ice.stock - p.runCubes

theorem stopRun_ends_ice (p : Part) (n : TicketNo) (o : TicketOutcome) (hh : p.pool.queue.head? = some n)
    (hk : (p.ticket n).kind = some .icePortion ∨ (p.ticket n).kind = some .iceHold) :
    (p.stopRun o).RunEnded p n o p.runCubes := by
  obtain ⟨⟨hticket, -, hending, -⟩, hstate, hforward, hreverse, hcrusher, hhold, hmeasured, hstock⟩ :=
    stopRun_of_head p n o hh (runs_of_kind _ (.inl hk)).2
  rw [isAugerTest_of_ice _ hk, if_neg Bool.false_ne_true] at hmeasured
  exact ⟨hstate, hending, hforward, hreverse, hcrusher, hhold, hticket, hmeasured, hstock⟩

theorem stopRun_ends_augerTest (p : Part) (n : TicketNo) (o : TicketOutcome) (hh : p.pool.queue.head? = some n)
    (hk : (p.ticket n).kind = some .loadTest ∧ (p.ticket n).request.load = some .auger) :
    (p.stopRun o).RunEnded p n o (p.outlet.run.forward.read p.clock.now / 1000 / 1000) := by
  obtain ⟨⟨hticket, -, hending, -⟩, hstate, hforward, hreverse, hcrusher, hhold, hmeasured, hstock⟩ :=
    stopRun_of_head p n o hh (runs_of_kind _ (.inr hk)).2
  rw [if_pos ((isAugerTest_iff _).2 hk)] at hmeasured
  exact ⟨hstate, hending, hforward, hreverse, hcrusher, hhold, hticket, hmeasured, hstock⟩

/-- A first jam reverses the auger, and touches nothing but the outlet (R135). -/
theorem jam_first (p : Part) (h : p.outlet.run.jams = 0) :
    let q := p.jam
    q.outlet.state = p.outlet.state ∧ q.outlet.augerForward = false ∧ q.outlet.crusher = false ∧
      q.outlet.augerReverse = true ∧ q.outlet.run.jams = 1 ∧
      q.outlet.run.reverseEnd = some (p.clock.now + 500000) ∧ q.pool = p.pool ∧ q.ice = p.ice := by
  rw [Part.jam, if_pos h]
  exact ⟨rfl, rfl, rfl, rfl, rfl, rfl, rfl, rfl⟩

/-- A second jam ends the run (R135). -/
theorem jam_second (p : Part) (h : p.outlet.run.jams = 1) :
    p.jam = Part.stopRun .jam { p with outlet.run.jams := 2 } :=
  if_neg (by rw [h]; decide)

/-- The part with its jams counted has the same run as before. -/
theorem Part.RunEnded.of_jams {q p : Part} {n : TicketNo} {o : TicketOutcome} {j k : Nat}
    (h : q.RunEnded { p with outlet.run.jams := j } n o k) : q.RunEnded p n o k := h

/-- The forward drive with the flap open (R134, R135). -/
theorem driveForward_spec (p : Part) (n : TicketNo) (hh : p.pool.queue.head? = some n) :
    let q := p.driveForward
    q.outlet.state = p.outlet.state ∧ q.outlet.augerForward = true ∧ q.outlet.augerReverse = false ∧
      q.outlet.crusher = ((p.ticket n).isIce && (p.ticket n).request.form == some .crushed) ∧
      q.outlet.run.jams = p.outlet.run.jams ∧ q.outlet.run.jamDeadline = some (p.clock.now + 1000000) :=
  ⟨rfl, rfl, rfl, headIs_of_head p n (fun t => t.isIce && t.request.form == some .crushed) hh, rfl, rfl⟩

/-! The rows of the run, for either kind of head. -/

theorem runTargetReached_judged (s : State) (dt target : Nat) (hr : s.part.resetting = none)
    (hruns : (s.later dt).runsAuger = true) (ht : (s.later dt).outlet.run.target = some target)
    (hf : (s.later dt).outlet.augerForward = true) :
    let forward := (s.later dt).outlet.run.forward.read (s.later dt).clock.now
    (forward < target * 1000 → Becomes (.runTargetReached dt) s (s.later dt)) ∧
      (target * 1000 ≤ forward → Becomes (.runTargetReached dt) s ((s.later dt).stopRun .complete).settle) := by
  have due := dueRunTarget_iff (s.later dt) target hruns hf ht
  exact ⟨fun hlt => becomes_early _ s dt Part.dueRunTarget (Part.stopRun .complete) hr rfl (not_due due hlt),
    fun hle => becomes_due _ s dt Part.dueRunTarget (Part.stopRun .complete) hr rfl (due.2 hle)⟩

theorem jamWindowExpiry_judged (s : State) (dt e : Nat) (hr : s.part.resetting = none)
    (hruns : (s.later dt).runsAuger = true) (hf : (s.later dt).outlet.augerForward = true)
    (he : (s.later dt).outlet.run.jamDeadline = some e) :
    ((s.later dt).clock.now < e → Becomes (.jamWindowExpiry dt) s (s.later dt)) ∧
      (e ≤ (s.later dt).clock.now → Becomes (.jamWindowExpiry dt) s (s.later dt).jam.settle) := by
  have due := dueJam_iff (s.later dt) e hruns hf he
  exact ⟨fun hlt => becomes_early _ s dt Part.dueJam Part.jam hr rfl (not_due due hlt),
    fun hle => becomes_due _ s dt Part.dueJam Part.jam hr rfl (due.2 hle)⟩

theorem reverseEnd_judged (s : State) (dt e : Nat) (hr : s.part.resetting = none)
    (hruns : (s.later dt).runsAuger = true) (hv : (s.later dt).outlet.augerReverse = true)
    (he : (s.later dt).outlet.run.reverseEnd = some e) :
    ((s.later dt).clock.now < e → Becomes (.reverseEnd dt) s (s.later dt)) ∧
      (e ≤ (s.later dt).clock.now → Becomes (.reverseEnd dt) s (s.later dt).endReverse.settle) := by
  have due := dueReverse_iff (s.later dt) e hruns hv he
  exact ⟨fun hlt => becomes_early _ s dt Part.dueReverse Part.endReverse hr rfl (not_due due hlt),
    fun hle => becomes_due _ s dt Part.dueReverse Part.endReverse hr rfl (due.2 hle)⟩

/-- A first jam of a running head: the auger reverses for 0.5 s (R135). -/
theorem firstJam_judged (s : State) (dt e : Nat) (hr : s.part.resetting = none)
    (hruns : (s.later dt).runsAuger = true) (hf : (s.later dt).outlet.augerForward = true)
    (he : (s.later dt).outlet.run.jamDeadline = some e) (hle : e ≤ (s.later dt).clock.now)
    (hs : (s.later dt).outlet.state = .running) (hj : (s.later dt).outlet.run.jams = 0) :
    ∃ q : Part, Becomes (.jamWindowExpiry dt) s q.settle ∧ q.outlet.state = .running ∧
      q.outlet.augerForward = false ∧ q.outlet.crusher = false ∧ q.outlet.augerReverse = true ∧
      q.outlet.run.jams = 1 ∧ q.outlet.run.reverseEnd = some ((s.later dt).clock.now + 500000) ∧
      q.pool = (s.later dt).pool ∧ q.ice = (s.later dt).ice := by
  obtain ⟨hstate, hrest⟩ := jam_first (s.later dt) hj
  exact ⟨_, (jamWindowExpiry_judged s dt e hr hruns hf he).2 hle, hstate.trans hs, hrest⟩

/-- A second jam of a head ends its run (R135). -/
theorem secondJam_judged (s : State) (dt e : Nat) (hr : s.part.resetting = none)
    (hruns : (s.later dt).runsAuger = true) (hf : (s.later dt).outlet.augerForward = true)
    (he : (s.later dt).outlet.run.jamDeadline = some e) (hle : e ≤ (s.later dt).clock.now)
    (hj : (s.later dt).outlet.run.jams = 1) :
    Becomes (.jamWindowExpiry dt) s (Part.stopRun .jam { s.later dt with outlet.run.jams := 2 }).settle := by
  rw [← jam_second (s.later dt) hj]
  exact (jamWindowExpiry_judged s dt e hr hruns hf he).2 hle

/-- The end of the reverse of an ice run: the run ends at its target, or the forward drive resumes (R135). -/
theorem iceReverse_judged (s : State) (dt e : Nat) (n : TicketNo) (hr : s.part.resetting = none) :
    let p := s.later dt
    let t := p.ticket n
    let forward := p.outlet.run.forward.read p.clock.now
    p.pool.queue.head? = some n → p.outlet.state = .running → (t.kind = some .icePortion ∨ t.kind = some .iceHold) →
    p.outlet.augerReverse = true → p.outlet.run.reverseEnd = some e →
    (p.clock.now < e → Becomes (.reverseEnd dt) s p) ∧
    (∀ target : Nat, e ≤ p.clock.now → p.outlet.run.target = some target → target * 1000 ≤ forward →
      ∃ q : Part, Becomes (.reverseEnd dt) s q.settle ∧ q.RunEnded p n .complete p.runCubes) ∧
    (e ≤ p.clock.now → (∀ target : Nat, p.outlet.run.target = some target → forward < target * 1000) →
      ∃ q : Part, Becomes (.reverseEnd dt) s q.settle ∧ q.outlet.state = .running ∧ q.outlet.augerForward = true ∧
        q.outlet.augerReverse = false ∧ q.outlet.crusher = (t.request.form == some .crushed) ∧
        q.outlet.run.jams = p.outlet.run.jams ∧ q.outlet.run.jamDeadline = some (p.clock.now + 1000000)) := by
  intro p t forward hh hs hk hv he
  obtain ⟨hearly, hdue⟩ := reverseEnd_judged s dt e hr (runsAuger_of_head p n hh hs (.inl hk)) hv he
  refine ⟨hearly, fun target hle ht hreached => ?_, fun hle hahead => ?_⟩
  · have hends : p.endReverse = p.stopRun .complete := if_pos ((targetRun_iff p target ht).2 hreached)
    exact ⟨_, hends ▸ hdue hle, stopRun_ends_ice p n .complete hh hk⟩
  · have hresumes : p.endReverse = p.driveForward := if_neg (by rw [targetRun_ahead p hahead]; decide)
    obtain ⟨hstate, hforward, hreverse, hcrusher, hjams, hjam⟩ := driveForward_spec p n hh
    rw [(isIce_of_kind _ hk).1, Bool.true_and] at hcrusher
    exact ⟨_, hresumes ▸ hdue hle, hstate.trans hs, hforward, hreverse, hcrusher, hjams, hjam⟩

/-- The opening for an auger test: it runs to a target of its seconds, without the crusher (R133, R144). -/
theorem augerTestOpening_judged (s : State) (dt secs : Nat) (n : TicketNo) (hr : s.part.resetting = none) :
    let p := s.later dt
    let t := p.ticket n
    p.pool.queue.head? = some n → t.kind = some .loadTest → t.request.load = some .auger →
    t.request.seconds = some secs → p.outlet.flap = .opening → p.sense.flap = some .released →
    p.sense.door = some .closed → p.sense.flapPin.stood p.clock.now 10000 .made → p.outlet.run.entered = false →
    ∃ q : Part, Becomes (.flapSwitchChange dt .made) s q.settle ∧ q.outlet.state = .running ∧
      q.outlet.flap = .opened ∧ q.outlet.augerForward = true ∧ q.outlet.crusher = false ∧
      q.outlet.run.target = some (secs * 1000) ∧ q.outlet.run.jamDeadline = some (p.clock.now + 1000000) := by
  intro p t hh hkind hload hsecs hflap hread hdoor hstood hentered
  let u : Part := { p with sense := { p.sense with flap := some .made, flapPin.level := some .made } }
  have hrow := flapSwitch_stood s dt .made .released hr hread (by decide) hstood
  rw [flapChanged_opens u hflap] at hrow
  have hdoor' : u.sense.door ≠ some .opened := by
    change p.sense.door ≠ some .opened
    rw [hdoor]
    decide
  obtain ⟨-, hopened, -, hrunning, hforward, -, hcrusher, -, htarget, hjam⟩ :=
    openingSucceeds_runs u n hh hdoor' (runs_of_kind t (.inr ⟨hkind, hload⟩)).2 hentered
  refine ⟨_, hrow, hrunning, hopened, hforward, ?_, ?_, hjam⟩
  · rw [hcrusher, show (u.ticket n).isIce = false from isIce_of_loadTest t hkind, Bool.false_and]
  · have htest : (u.ticket n).isAugerTest = true := (isAugerTest_iff t).2 ⟨hkind, hload⟩
    rw [htarget, Part.runTarget, if_pos htest, show (u.ticket n).request.seconds = some secs from hsecs]
    rfl

/-- Settles O44: each event by its row, and each end of a run by `stopRun_ends_ice` or `stopRun_ends_augerTest`. -/
theorem iceRunsEnd : Obligations.IceRunsEnd := by
  constructor
  · intro s dt n rest hr p t ps forward cubes stops hq hs hk
    have hh : p.pool.queue.head? = some n := congrArg List.head? hq
    have hruns : p.runsAuger = true := runsAuger_of_head p n hh hs (.inl hk)
    have limit := runningLimitReached_iff p n hh hs (isIce_of_kind t hk).1
    refine ⟨fun target ht hf => ?_, fun hlt => ?_, fun hle => ?_, fun e hf he => ?_, fun e hv he => ?_⟩
    · obtain ⟨hearly, hdue⟩ := runTargetReached_judged s dt target hr hruns ht hf
      exact ⟨hearly, fun hle => ⟨_, hdue hle, stopRun_ends_ice p n .complete hh hk⟩⟩
    · exact becomes_early _ s dt Part.runningLimitReached (Part.stopRun .timeout) hr rfl (not_due limit hlt)
    · exact ⟨_, becomes_due _ s dt Part.runningLimitReached (Part.stopRun .timeout) hr rfl (limit.2 hle),
        stopRun_ends_ice p n .timeout hh hk⟩
    · refine ⟨(jamWindowExpiry_judged s dt e hr hruns hf he).1, fun hle hj => ?_, fun hle hj => ?_⟩
      · exact firstJam_judged s dt e hr hruns hf he hle hs hj
      · exact ⟨_, secondJam_judged s dt e hr hruns hf he hle hj,
          Part.RunEnded.of_jams (stopRun_ends_ice { p with outlet.run.jams := 2 } n .jam hh hk)⟩
    · exact iceReverse_judged s dt e n hr hh hs hk hv he
  · intro s dt secs n rest hr p t ps hq hkind hload hsecs
    have hh : p.pool.queue.head? = some n := congrArg List.head? hq
    refine ⟨augerTestOpening_judged s dt secs n hr hh hkind hload hsecs, fun hs => ?_⟩
    intro forward stops
    have hruns : p.runsAuger = true := runsAuger_of_head p n hh hs (.inr ⟨hkind, hload⟩)
    have hends (o : TicketOutcome) (q : Part) (h : q.RunEnded p n o (forward / 1000 / 1000)) : stops o q := by
      obtain ⟨hstate, hending, hforward, hreverse, -, hhold, hticket, hmeasured, hstock⟩ := h
      exact ⟨hstate, hending, hforward, hreverse, hhold, hticket, hmeasured, hstock⟩
    refine ⟨?_, fun target ht hf => ?_, fun e hf he hle => ⟨fun hj => ?_, fun hj => ?_⟩⟩
    · exact becomes_early _ s dt Part.runningLimitReached (Part.stopRun .timeout) hr rfl
        (runningLimitReached_notIce p n hh (isIce_of_loadTest t hkind))
    · obtain ⟨hearly, hdue⟩ := runTargetReached_judged s dt target hr hruns ht hf
      exact ⟨hearly, fun hle =>
        ⟨_, hdue hle, hends .complete _ (stopRun_ends_augerTest p n .complete hh ⟨hkind, hload⟩)⟩⟩
    · obtain ⟨q, hrow, hstate, hforward, -, hreverse, hjams, hend, -⟩ :=
        firstJam_judged s dt e hr hruns hf he hle hs hj
      exact ⟨q, hrow, hstate, hforward, hreverse, hjams, hend⟩
    · exact ⟨_, secondJam_judged s dt e hr hruns hf he hle hj,
        hends .jam _ (Part.RunEnded.of_jams
          (stopRun_ends_augerTest { p with outlet.run.jams := 2 } n .jam hh ⟨hkind, hload⟩))⟩

end Sys2Proof.Machine
